-- ==== Sys2Proof/Word.lean ====
section
/-! DEFINITION. The byte of the drive link and of the medium. -/

namespace Sys2Proof

/-- One byte of a lane, of a block slot or of a header block. -/
abbrev Byte := BitVec 8

end Sys2Proof
end

