-- ==== Sys2Proof/Syntax.lean ====
section
/-! DEFINITION. The commands of the C62: one constructor per row of the table of operations and events,
with the operands the rules give each event. -/

namespace Sys2Proof

/-- What the channel reports of a block read (R124): no error, errors corrected, or not correctable. -/
inductive ReadOutcome where
  | clean
  | corrected
  | uncorrectable
  deriving DecidableEq, Repr

/-- The mark of a slot identity with the index it carries (R79). -/
inductive Mark where
  | header (index : Nat)
  | alternate (index : Nat)
  | data (position : Nat)
  | bad
  | spare
  deriving DecidableEq, Repr

/-- A slot identity (R79). -/
structure Identity where
  cylinder : Nat
  volumeHead : Nat
  slot : Nat
  mark : Mark
  deriving DecidableEq, Repr

/-- The commands, in the table's order. A frame command carries the tag byte and the payload bytes
of the frame as the host sent them; the lead, the kind, the length and the check are those of a
whole frame of its row. -/
inductive Instr where
  /-- R2: a tach pulse, `ticks` ticks after the interval counter stood at its present value. -/
  | tachPulse (ticks : Nat)
  /-- R2: the interval counter reaches 65,535 without a pulse. -/
  | saturatedInterval
  /-- R15. -/
  | startTimerExpiry
  /-- R16. -/
  | relockTimerExpiry
  /-- R17. -/
  | brakeTimerExpiry
  /-- R25: a wedge report (number, cylinder identity, position error). `outcome` and `data` are
  what the channel reports at this wedge of the slot that closes; they are used only where a read is
  under way. -/
  | wedgeReport (wedge cylinder : Nat) (error : Int) (outcome : ReadOutcome) (data : List Byte)
  /-- R44: the closing wedge of the transfer under way goes unread; `data` is what the channel has
  read of the slot. -/
  | closingWedgeUnread (data : List Byte)
  /-- R29. -/
  | acquisitionTimerExpiry
  /-- R31, R33. -/
  | rampReport
  /-- R31. -/
  | unloadTimerExpiry
  /-- R33. -/
  | retractTimerExpiry
  /-- R36. -/
  | planTimeEnd
  /-- R37. -/
  | settlePeriodEnd
  /-- R38. -/
  | seekTimeoutExpiry
  /-- R41. -/
  | stage1Expiry
  /-- R43. -/
  | stage2Expiry
  /-- R100: a CHAIN frame. -/
  | chain (tag : Byte) (payload : List Byte)
  /-- R113: a CANCEL frame. -/
  | cancel (tag : Byte) (payload : List Byte)
  /-- R133: a DATA frame from the host. -/
  | data (tag : Byte) (payload : List Byte)
  /-- R135: the 5 s timer of the want with this tag and first sequence expires. -/
  | wantTimerExpiry (tag first : Nat)
  /-- R141: the presence switch takes a position; `tab` is the write-protect tab of what it meets. -/
  | presenceSwitchChange (closed tab : Bool)
  /-- R141. -/
  | presenceDebounceEnd
  /-- R144. -/
  | buttonSwitchChange (pressed : Bool)
  /-- R144. -/
  | buttonDebounceEnd
  /-- R145. -/
  | holdTimerExpiry
  /-- R144. -/
  | refusalIndicationExpiry
  /-- R151. -/
  | removalTimerExpiry
  /-- R152. -/
  | doorOpenWindowExpiry
  /-- R165. -/
  | oneSecondTick
  /-- R166. -/
  | idleLimitReached
  /-- R169: the low comparator reports a fall below 10.8 V. -/
  | supplyFall
  /-- R169: the high comparator reports a rise above 11.4 V. -/
  | supplyRise
  /-- R169. -/
  | holdOffTimerExpiry
  /-- R172: the 5 V supply returns; `motorGood` tells whether the 12 V supply lies above 11.4 V. -/
  | powerOnReset (motorGood : Bool)
  /-- R179: a QUERY frame of subkind 0; `rest` is its payload after the subkind byte. -/
  | driveStatus (tag : Byte) (rest : List Byte)
  /-- R180: a QUERY frame of subkind 1. -/
  | volumeStatus (tag : Byte) (rest : List Byte)
  /-- R180: a QUERY frame of subkind 3. -/
  | defectList (tag : Byte) (rest : List Byte)
  /-- R181: a QUERY frame of subkind 2. -/
  | chainStatus (tag : Byte) (rest : List Byte)
  /-- R187: a SETTINGS frame. -/
  | settings (tag : Byte) (payload : List Byte)
  /-- R190: a LINK RESET frame. -/
  | linkReset (tag : Byte) (payload : List Byte)
  /-- R185: a frame whose kind is none of the six inbound kinds. -/
  | unknownFrameKind (kind tag : Byte) (payload : List Byte)
  /-- R189. -/
  | linkResetLineAsserted
  /-- R189. -/
  | linkResetLineReleased
  /-- R188. -/
  | hostReadyAsserted
  /-- R188. -/
  | replyDelivered
  /-- R131. -/
  | dataFrameDelivered
  /-- R132. -/
  | dataWantedDelivered
  /-- R176. -/
  | noticeDelivered
  /-- R184: an inbound byte that is no lead. -/
  | awaitLeadByteDiscarded (byte : Byte)
  /-- R185: a frame with its check byte as received, whose bytes do not sum to 0. -/
  | frameRefusedCheck (kind tag : Byte) (payload : List Byte) (check : Byte)
  /-- R179: a QUERY frame whose payload names no known subkind. -/
  | unknownQuerySubkind (tag : Byte) (payload : List Byte)
  /-- R183. -/
  | hostReadyDeasserted
  /-- R172: the 5 V supply falls below 4.5 V. -/
  | logicSupplyFall
  /-- R123: the channel reads the identity of the slot of the transfer under way, or cannot (`none`). -/
  | slotIdentityRead (identity : Option Identity)
  deriving DecidableEq, Repr

end Sys2Proof
end

