-- ==== Sys2Proof/Decode.lean ====
section
/-! DEFINITION. The words of the table. No row of the C62's table gives bits, so no word spells a
command (log 31); the bytes of frames are read in Machine/Operands.lean. -/

namespace Sys2Proof

/-- The command a word spells by the table's bits: none, for no row has any. -/
def decodeTableWord (_nbits _w : Nat) : Option Instr := none

end Sys2Proof
end

