-- ==== Sys2Proof/Config.lean ====
section
/-! DEFINITION. What an implementation fixes and the manual leaves open. -/

namespace Sys2Proof.Config

/-- R160: where the event that frees the mechanism calls both for PWR's unload and for a grant,
"either may be taken first". The n-th such event takes the unload first when this is true. It has no
value anyone can know (log 7). -/
opaque unloadBeforeGrant : Nat → Bool

end Sys2Proof.Config
end

