-- ==== Sys2Proof/Machine/State.lean ====
section
/-! DEFINITION. The state of the C62, block by block, and the state right after power-on reset. -/

namespace Sys2Proof.Machine

/-- A timer: stopped, or running with the duration it was loaded with, in µs (log 2). -/
abbrev Timer := Option Nat

/-- The two volumes. -/
inductive Vol where
  | v0
  | v1
  deriving DecidableEq, Repr

/-! ## Spindle Controller (chapter 1) -/

/-- R1. -/
inductive SpindleState where
  | stopped
  | accelerating
  | locking
  | locked
  | braking
  | spinFault
  deriving DecidableEq, Repr

/-- R21. -/
inductive StopCause where
  | none
  | hostOrder
  | idle
  | eject
  | door
  | supply
  | spinFault
  deriving DecidableEq, Repr

/-- Who asks SPC for starts and stops (1.4). -/
inductive Requester where
  | pwr
  | rcv
  deriving DecidableEq, Repr

/-- SPC's answers to a start request (1.4, R9, R13). -/
inductive StartAnswer where
  | taken
  | satisfied
  | held
  | refusedLatchReleased
  | refusedStopPending
  deriving DecidableEq, Repr

/-- SPC's answers to a stop request (1.4, R11). -/
inductive StopAnswer where
  | stoppedAtOnce
  | stoppedLater
  | refusedHeadsNotParked
  deriving DecidableEq, Repr

/-- The items of R22. -/
structure Spc where
  state : SpindleState
  level : Nat
  brake : Bool
  interval : Nat
  inRun : Nat
  slowRun : Nat
  outRun : Nat
  satRun : Nat
  purge : Nat
  purgePulses : Nat
  stopConfirmed : Bool
  startTimer : Timer
  relockTimer : Timer
  brakeTimer : Timer
  waitPwr : Bool
  waitRcv : Bool
  heldStart : Option Requester
  lastStop : StopCause
  deriving DecidableEq, Repr

/-! ## Actuator Controller (chapter 2) -/

/-- R23. -/
inductive HeadState where
  | parked
  | loading
  | following
  | seeking
  | settling
  | reacquiring
  | unloading
  | retracting
  deriving DecidableEq, Repr

/-- R40. -/
inductive Watchdog where
  | idle
  | stage1
  | stage2
  deriving DecidableEq, Repr

/-- Who asks ACT for loads and seeks (R27, 2.5). -/
inductive Party where
  | che
  | vol
  deriving DecidableEq, Repr

/-- A waiting load request (R27): who asks, and the volume it will address first. -/
structure LoadRequest where
  party : Party
  volume : Vol
  deriving DecidableEq, Repr

/-- A place under the comb: what a seek aims at. -/
structure Target where
  cylinder : Nat
  comb : Nat
  deriving DecidableEq, Repr

/-- Where a seek request stands (R34, R41): held until FOLLOWING; taken and waiting for the
recalibrating wedge; moving or settling; or interrupted by the loss of the servo. -/
inductive SeekPhase where
  | held
  | recalibrating
  | running
  | interrupted
  deriving DecidableEq, Repr

/-- A seek request being served. -/
structure Seek where
  party : Party
  target : Target
  phase : SeekPhase
  deriving DecidableEq, Repr

/-- 2.5: the four answers of a seek. -/
inductive SeekAnswer where
  | arrived
  | seekError
  | positionLost
  | aborted
  deriving DecidableEq, Repr

/-- What R34 does with a seek request. -/
inductive SeekTaken where
  | taken
  | held
  | busy
  | notLoaded
  deriving DecidableEq, Repr

/-- The position record of R24 with the timers of R48. `targetEnded` marks a seek target kept from a seek
that ended early, on which no later event acts (R39). -/
structure Act where
  head : HeadState
  cylinder : Nat
  comb : Nat
  valid : Bool
  error : Int
  attempt : Nat
  target : Option Target
  targetEnded : Bool
  retries : Nat
  watchdog : Watchdog
  permission : Bool
  loads : List LoadRequest
  gate : Bool
  seek : Option Seek
  settleTime : Nat
  arrived : Bool
  acquisition : Timer
  seekTimeout : Timer
  plan : Timer
  settle : Timer
  unload : Timer
  retract : Timer
  stage1 : Timer
  stage2 : Timer
  deriving DecidableEq, Repr

/-! ## Volume Manager (chapters 3 to 5) -/

/-- R49. -/
inductive VolState where
  | empty
  | unmounted
  | present
  | mounting
  | mounted
  | unformatted
  | headerFault
  | leaving
  deriving DecidableEq, Repr

/-- R52. -/
structure Label where
  formatCount : Nat
  serial : Nat
  deriving DecidableEq, Repr

/-- R67. -/
structure Slip where
  track : Nat
  slot : Nat
  deriving DecidableEq, Repr

/-- R68. -/
inductive Alt where
  | free
  | assigned (block : Nat)
  | retired
  deriving DecidableEq, Repr

/-- The mount pass field of R49. -/
inductive PassState where
  | none
  | pending
  | running
  deriving DecidableEq, Repr

/-- A volume context (R49). -/
structure VolCtx where
  state : VolState
  before : Option VolState
  generation : Nat
  writeProtect : Bool
  label : Option Label
  slips : List Slip
  alts : List Alt
  stale : Bool
  corrected : Nat
  rereads : Nat
  dataChecks : Nat
  mountedSince : Bool
  pass : PassState
  deriving DecidableEq, Repr

/-- One header block of a running header read (R58): whether it has been read at all, its data once
accepted, whether it was read under the identity HEADER k, and how often it was set aside. -/
structure HeaderBlock where
  tried : Bool
  data : Option (List Byte)
  identityOk : Bool
  setAside : Nat
  deriving DecidableEq, Repr

/-- What a RUNNING mount pass waits for (R57, R58). -/
inductive PassPhase where
  | load
  | seek
  | busy
  | read
  deriving DecidableEq, Repr

/-- A RUNNING mount pass: its volume, whether its grant is lent, and its header read. -/
structure Pass where
  volume : Vol
  lent : Bool
  phase : PassPhase
  blocks : List HeaderBlock
  deriving DecidableEq, Repr

/-! ## Chain Engine (chapter 6) -/

/-- The order kinds of R98, in the order of their codes (12.1). -/
inductive OrderKind where
  | read
  | write
  | verify
  | seek
  | formatTrack
  | assignAlternate
  | initializeVolume
  | holdMedium
  | releaseMedium
  | eject
  | setPower
  deriving DecidableEq, Repr

/-- R158, R159: the power states; the levels are the first four. -/
inductive PowerState where
  | active
  | standby
  | sleep
  | dormant
  | faultHold
  deriving DecidableEq, Repr

/-- The flags of an order (R99). -/
structure OrderFlags where
  chain : Bool
  link : Bool
  acceptShort : Bool
  notify : Bool
  deriving DecidableEq, Repr

/-- An order record (R98). -/
structure Order where
  kind : OrderKind
  flags : OrderFlags
  volume : Nat
  block : Nat
  count : Nat
  generation : Option Nat
  serial : Nat
  track : Nat
  slip : Option Nat
  power : Option PowerState
  deriving DecidableEq, Repr

/-- The flags an order can raise (R96). -/
structure Flags where
  dataCheck : Bool
  lengthMismatch : Bool
  corrected : Bool
  deriving DecidableEq, Repr

/-- R97; FREE is the absence of a record. -/
inductive ChainState where
  | queued
  | active
  | dataWait
  | paused
  | ejectWait
  | ended
  deriving DecidableEq, Repr

/-- The end codes of R110, in the order of their codes. -/
inductive EndCode where
  | clean
  | dataCheck
  | lengthMismatch
  | addressRange
  | notFormatted
  | writeProtected
  | mediumChanged
  | mediumLeaving
  | mediumHeld
  | noMedium
  | holdLimit
  | seekError
  | positionLost
  | speedFault
  | spindleFault
  | powerFault
  | writeFault
  | dataTimeout
  | tableFull
  | noAlternate
  | headerFault
  | cancelled
  deriving DecidableEq, Repr

/-- R111. -/
structure FaultLocation where
  volume : Nat
  block : Nat
  cylinder : Nat
  comb : Nat
  slot : Nat
  deriving DecidableEq, Repr

/-- The completion record of R110. -/
structure Completion where
  tag : Nat
  code : EndCode
  flags : Flags
  reached : Nat
  residual : Nat
  fault : Option FaultLocation
  deriving DecidableEq, Repr

/-- A chain record (R96). -/
structure Chain where
  tag : Nat
  number : Nat
  orders : List Order
  index : Nat
  state : ChainState
  transferred : Nat
  sequence : Nat
  flags : Flags
  cancel : Bool
  progress : Option Nat
  fault : Option FaultLocation
  completion : Option Completion
  deriving DecidableEq, Repr

/-- Who holds the mechanism (6.4). An order that goes on after a link reset is an order whose job has
no chain. -/
inductive Holder where
  | free
  | order
  | pass (v : Vol)
  deriving DecidableEq, Repr

/-- The kind of a placement with its optional fields (R71). -/
inductive PlacementKind where
  | primary (track position : Nat)
  | alternate (index : Nat)
  deriving DecidableEq, Repr

/-- A placement record (R71). -/
structure Placement where
  volume : Nat
  block : Nat
  kind : PlacementKind
  cylinder : Nat
  volumeHead : Nat
  comb : Nat
  slot : Nat
  deriving DecidableEq, Repr

/-- A place on the medium last sought or transferred (R111). -/
structure Place where
  cylinder : Nat
  comb : Nat
  slot : Nat
  deriving DecidableEq, Repr

/-- What a header write is for: the stale retry (R82), the write-through at the end of an order with the
end codes of its two outcomes (R91, R95), or the first or second write of INITIALIZE VOLUME (R85, R87). -/
inductive HeaderUse where
  | stale
  | own (ok bad : EndCode)
  | fresh
  | retirements
  deriving DecidableEq, Repr

/-- What the order that holds the mechanism is working at. -/
inductive Task where
  | none
  | block
  | seekOnly
  | header (use : HeaderUse)
  | altTrack (head : Nat)
  | format
  | altRead
  | altWrite (index : Nat)
  | altVerify (index : Nat)
  deriving DecidableEq, Repr

/-- What the order that holds the mechanism waits for. -/
inductive Phase where
  | start
  | load
  | mount
  | seek
  | busy
  | ready
  | under
  | dataWait
  | ejectHeld
  | power
  | ending
  deriving DecidableEq, Repr

/-- A slot still to be written by a task that writes whole slots, with the rewrites it has had. -/
structure Todo where
  slot : Nat
  rewrites : Nat
  deriving DecidableEq, Repr

/-- The order that holds the mechanism. `chain` is its chain's slot in the order table, absent once a
link reset has removed the chain (R120). `placed` is the place last sought or transferred (R111), and
`transferred` the place last written or read (R95). -/
structure Job where
  chain : Option Nat
  tag : Nat
  order : Order
  phase : Phase
  task : Task
  blk : Nat
  placement : Option Placement
  tries : Nat
  flags : Flags
  placed : Option Place
  transferred : Option Place
  firstWrite : Bool
  runReady : Bool
  due : Option EndCode
  todo : List Todo
  failed : List Nat
  changed : Bool
  header : List Byte
  newLabel : Option Label
  deriving DecidableEq, Repr

/-- The order table, the acceptance counter and the mechanism (R96, 6.4). -/
structure Che where
  table : List (Option Chain)
  counter : Nat
  mech : Holder
  job : Option Job
  deriving DecidableEq, Repr

/-! ## The channel -/

/-- What a transfer does with its slot: read it, write its data area, or write it whole. -/
inductive XferKind where
  | read
  | writeData
  | writeSlot
  deriving DecidableEq, Repr

/-- What the identity read of a transfer under way has given (R123). -/
inductive IdentitySeen where
  | notRead
  | agrees
  | unreadable
  | disagrees
  deriving DecidableEq, Repr

/-- A block transfer between its opening and its closing wedge (R127). -/
structure Xfer where
  kind : XferKind
  place : Place
  openError : Int
  gated : Bool
  seen : IdentitySeen
  identity : Option Identity
  data : List Byte
  deriving DecidableEq, Repr

/-! ## Block Buffer (chapter 7) -/

/-- The use of a RESERVED slot (R129). -/
inductive SlotUse where
  | read
  | write
  deriving DecidableEq, Repr

/-- R129. -/
inductive BlockSlot where
  | free
  | reserved (tag sequence : Nat) (use : SlotUse)
  | filledRead (tag order sequence length : Nat) (check : Bool) (data : List Byte)
  | filledWrite (tag sequence length : Nat) (data : List Byte)
  deriving DecidableEq, Repr

/-- A want of write data (R132). `sending` marks the want whose frame LNK has begun. -/
structure Want where
  tag : Nat
  first : Nat
  number : Nat
  sending : Bool
  deriving DecidableEq, Repr

/-- A want record with its 5 s timer (R135). -/
structure WantRecord where
  tag : Nat
  first : Nat
  number : Nat
  timer : Timer
  deriving DecidableEq, Repr

structure Bbf where
  slots : List BlockSlot
  delivery : List Nat
  sendingSlot : Bool
  wants : List Want
  records : List WantRecord
  deriving DecidableEq, Repr

/-! ## Receiver Controller (chapter 8) -/

inductive Latch where
  | locked
  | released
  deriving DecidableEq, Repr

inductive EjectStage where
  | none
  | draining
  | unloading
  | stopping
  | releasing
  | doorOpen
  deriving DecidableEq, Repr

inductive EjectPurpose where
  | cartridgeOut
  | doorOpen
  deriving DecidableEq, Repr

inductive EjectSource where
  | host
  | button
  | override
  deriving DecidableEq, Repr

inductive Lamp where
  | off
  | on
  | flashing
  deriving DecidableEq, Repr

/-- RCV's answer to an EJECT order (R146). -/
inductive EjectAnswer where
  | held
  | refused
  | started
  | joined
  deriving DecidableEq, Repr

/-- The receiver record of R140. `presence` is true for PRESENT, `button` for PRESSED. -/
structure Rcv where
  presence : Bool
  firstReport : Bool
  latch : Latch
  holds : Nat
  stage : EjectStage
  purpose : Option EjectPurpose
  source : Option EjectSource
  heldEject : Option Nat
  pause : Bool
  button : Bool
  holdTimer : Timer
  removalTimer : Timer
  window : Timer
  refusal : Timer
  lamp : Lamp
  presenceDebounce : Timer
  buttonDebounce : Timer
  ejector : Bool
  deriving DecidableEq, Repr

/-! ## Power Manager (chapter 9) -/

inductive Progress where
  | none
  | waitParked
  | waitStopped
  | waitSpin
  deriving DecidableEq, Repr

inductive Supply where
  | good
  | fault
  | holdOff
  deriving DecidableEq, Repr

/-- The power record of R158. `descent` is HOST ORDER or IDLE, as a stop cause. -/
structure Pwr where
  state : PowerState
  target : PowerState
  progress : Progress
  descent : Option StopCause
  setWait : Option PowerState
  beforeFault : Option PowerState
  idle : Nat
  standby : Nat
  sleep : Nat
  dormant : Nat
  supply : Supply
  holdOff : Timer
  deriving DecidableEq, Repr

/-! ## Notice Unit (chapter 10) -/

/-- The attention kinds of R174 with their payloads, in the order of their codes. -/
inductive Attention where
  | cartridgeInserted (source : EjectSource)
  | cartridgeRemoved (source : EjectSource)
  | ejectRefused (holds : Nat)
  | ejectJammed (source : EjectSource)
  | mediumMounted (volume : Vol) (state : VolState) (generation : Nat)
  | powerState (new left : PowerState)
  | supplyFault (before : PowerState)
  | supplyRecovered (before : PowerState)
  | positionLostLoadFault (loadFault : Bool)
  deriving DecidableEq, Repr

/-- The payload of a notice, by kind (R173). -/
inductive NoticeBody where
  | completion (record : Completion)
  | progress (tag order : Nat)
  | attention (a : Attention)
  deriving DecidableEq, Repr

/-- A notice (R173); its tag is the body's. -/
structure Notice where
  body : NoticeBody
  sending : Bool
  replaced : Bool
  deriving DecidableEq, Repr

structure Ntu where
  queue : List Notice
  set : List Attention
  enables : List Bool
  deriving DecidableEq, Repr

/-! ## Link Interface (chapter 11) -/

/-- R184. -/
inductive AssemblyStage where
  | awaitLead
  | header
  | payload
  | check
  deriving DecidableEq, Repr

/-- The refusal reasons of 12.1, in the order of their codes after "none". -/
inductive Reason where
  | check
  | kind
  | length
  | tableFull
  | malformed
  | tagInUse
  | noMedium
  | mediumLeaving
  | badLength
  | unwanted
  | tooLate
  | unknownTag
  deriving DecidableEq, Repr

/-- A reply (R186): the kind and tag bytes of the frame it answers, the reason if it refuses, and the
answer body. -/
structure Reply where
  kind : Byte
  tag : Byte
  reason : Option Reason
  body : List Byte
  deriving DecidableEq, Repr

/-- What an outbound frame carries. -/
inductive Outbound where
  | reply
  | want
  | slot
  | notice
  deriving DecidableEq, Repr

/-- The outbound frame under way, formed whole when it began (R188, R192). -/
structure OutFrame where
  carries : Outbound
  bytes : List Byte
  deriving DecidableEq, Repr

/-- LNK. `waiting` holds whole frames whose lead byte is not yet acknowledged (log 14). -/
structure Lnk where
  stage : AssemblyStage
  sum : Byte
  kind : Byte
  tag : Byte
  length : Nat
  got : Nat
  payload : List Byte
  replies : List Reply
  out : Option OutFrame
  waiting : List (List Byte)
  deriving DecidableEq, Repr

/-! ## Input levels -/

/-- The levels at the part's inputs, and whether the 5 V supply holds the part in reset (R172). -/
structure Pins where
  presenceClosed : Bool
  tabProtect : Bool
  buttonDown : Bool
  ready : Bool
  linkReset : Bool
  logicLow : Bool
  deriving DecidableEq, Repr

/-! ## What the blocks send each other inside a step -/

/-- A report, an answer or a change of state on its way from one block to another (log 3). -/
inductive Signal where
  /-- R1: SPC's change of state, to PWR. -/
  | spindle (state : SpindleState)
  /-- R11, R14: STOPPED, to a waiter. -/
  | stopped (dest : Requester)
  /-- R13: WITHDRAWN, to the requester whose held start a stop has dropped. -/
  | startWithdrawn (dest : Requester)
  /-- R13: WITHDRAWN, to the requester whose own start has ended its wait for STOPPED. -/
  | stopWithdrawn (dest : Requester)
  /-- R8: lock loss with loaded heads, to VOL and CHE. -/
  | lockLoss
  /-- R18: spin fault, to VOL and CHE. -/
  | spinFault
  /-- R23: ACT's change of head state, to VOL, CHE, PWR and RCV. -/
  | head (was now : HeadState)
  /-- R28. -/
  | loaded (dest : Party)
  /-- R29. -/
  | loadFailed (dest : Party)
  /-- R34 to R43. -/
  | seekAnswer (dest : Party) (answer : SeekAnswer)
  /-- R44: a block boundary without a wedge number. -/
  | boundaryLost
  /-- R44: a block boundary with its wedge number, error and the channel's report. -/
  | boundary (wedge : Nat) (error : Int) (outcome : ReadOutcome) (data : List Byte)
  /-- R44: the wedge opens its slot, after what it closed has been taken. -/
  | opening (wedge : Nat)
  /-- R43: to VOL, CHE and PWR. -/
  | positionLost
  /-- R60: a mount pass has ended, to CHE. -/
  | mountEnded (v : Vol)
  /-- R61: a lent pass was abandoned, to the lending order. -/
  | lentPassAbandoned (code : EndCode)
  /-- R168: to CHE. -/
  | reached
  /-- R170: to VOL and CHE. -/
  | supplyFault
  /-- R119: an eject sequence begins, to CHE. -/
  | ejectStarted
  /-- R153: an eject sequence has ended, to CHE. -/
  | sequenceEnded
  /-- R109: the order that holds the mechanism ends. -/
  | orderEnd (code : EndCode)
  /-- R149 to R152: RCV enters a stage again. -/
  | enterUnloading
  /-- R29, R43: to NTU, after the orders that the same event ends. -/
  | attention (a : Attention)
  deriving DecidableEq, Repr

/-! ## The whole part -/

/-- The C62. -/
structure State where
  spc : Spc
  act : Act
  vol0 : VolCtx
  vol1 : VolCtx
  pass : Option Pass
  copy : List Byte
  che : Che
  xfer : Option Xfer
  bbf : Bbf
  rcv : Rcv
  pwr : Pwr
  ntu : Ntu
  lnk : Lnk
  pins : Pins
  inbox : List Signal
  choice : Nat
  pending : List Instr
  deriving DecidableEq, Repr

/-- Why a step can stop with a fault. -/
inductive Fault where
  /-- Raised by the one operation that ends every step (`conclude`) when the consequences of a command
  have not come to rest after 4,096 reactions. Safe: nothing is claimed of such a step (log 3). -/
  | unsettled
  deriving DecidableEq, Repr

/-- Why a step can be refused. -/
inductive Refusal where
  /-- Raised by `exec` for a row that has no meaning yet. Safe. No row is without one. -/
  | notModelled (mnemonic : String)
  deriving DecidableEq, Repr

/-! ## Power-on values -/

namespace Reset

/-- R22. -/
def spc : Spc :=
  { state := .stopped, level := 0, brake := false, interval := 0, inRun := 0, slowRun := 0, outRun := 0,
    satRun := 0, purge := 0, purgePulses := 0, stopConfirmed := false, startTimer := none,
    relockTimer := none, brakeTimer := none, waitPwr := false, waitRcv := false, heldStart := none,
    lastStop := .none }

/-- R48. -/
def act : Act :=
  { head := .parked, cylinder := 0, comb := 0, valid := false, error := 0, attempt := 0, target := none,
    targetEnded := false, retries := 0, watchdog := .idle, permission := false, loads := [], gate := false, seek := none,
    settleTime := 0, arrived := false, acquisition := none, seekTimeout := none, plan := none,
    settle := none, unload := none, retract := none, stage1 := none, stage2 := none }

/-- R66, with the state the volume takes. -/
def vol (st : VolState) : VolCtx :=
  { state := st, before := none, generation := 0, writeProtect := false, label := none, slips := [],
    alts := List.replicate 64 .free, stale := false, corrected := 0, rereads := 0, dataChecks := 0,
    mountedSince := false, pass := .none }

/-- R121. -/
def che : Che := { table := List.replicate 6 none, counter := 0, mech := .free, job := none }

/-- R129. -/
def bbf : Bbf :=
  { slots := List.replicate 8 .free, delivery := [], sendingSlot := false, wants := [], records := [] }

/-- R157; both debounces run from power-on (R141, R144). `pause` is what PWR's first report of the
supply gives. -/
def rcv (pause : Bool) : Rcv :=
  { presence := false, firstReport := false, latch := .locked, holds := 0, stage := .none, purpose := none,
    source := none, heldEject := none, pause := pause, button := false, holdTimer := none,
    removalTimer := none, window := none, refusal := none, lamp := .off,
    presenceDebounce := some 250000, buttonDebounce := some 40000, ejector := false }

/-- R172, for a 12 V supply that lies above 11.4 V at start-up or does not. -/
def pwr (motorGood : Bool) : Pwr :=
  { state := if motorGood then .sleep else .faultHold, target := .sleep, progress := .none, descent := none,
    setWait := none, beforeFault := if motorGood then none else some .sleep, idle := 0, standby := 300,
    sleep := 1800, dormant := 0, supply := if motorGood then .good else .fault, holdOff := none }

/-- R182. -/
def ntu : Ntu := { queue := [], set := [], enables := List.replicate 9 true }

/-- R184. -/
def lnk : Lnk :=
  { stage := .awaitLead, sum := 0, kind := 0, tag := 0, length := 0, got := 0, payload := [], replies := [],
    out := none, waiting := [] }

/-- The levels at the inputs that State.reset takes (log 5). -/
def pins : Pins :=
  { presenceClosed := false, tabProtect := false, buttonDown := false, ready := false, linkReset := false,
    logicLow := false }

end Reset

/-- Every block at its power-on values, with the 12 V supply good or not. -/
def State.powerOn (motorGood : Bool) (pins : Pins) : State :=
  { spc := Reset.spc, act := Reset.act, vol0 := Reset.vol .unmounted, vol1 := Reset.vol .empty, pass := none,
    copy := [], che := Reset.che, xfer := none, bbf := Reset.bbf, rcv := Reset.rcv (!motorGood),
    pwr := Reset.pwr motorGood, ntu := Reset.ntu, lnk := Reset.lnk, pins := pins, inbox := [], choice := 0,
    pending := [] }

/-- The machine right after power-on reset, with the 12 V supply good (log 5). -/
def State.reset : State := State.powerOn true Reset.pins

end Sys2Proof.Machine
end

