-- ==== Sys2Proof/Machine/Ops.lean ====
section
/-! DEFINITION. The named reads and updates of State that every block is written with. -/

namespace Sys2Proof.Machine

/-! ## Updates, one per block -/

def State.updSpc (f : Spc → Spc) (s : State) : State := { s with spc := f s.spc }
def State.updAct (f : Act → Act) (s : State) : State := { s with act := f s.act }
def State.updVol0 (f : VolCtx → VolCtx) (s : State) : State := { s with vol0 := f s.vol0 }
def State.updVol1 (f : VolCtx → VolCtx) (s : State) : State := { s with vol1 := f s.vol1 }
def State.updChe (f : Che → Che) (s : State) : State := { s with che := f s.che }
def State.updBbf (f : Bbf → Bbf) (s : State) : State := { s with bbf := f s.bbf }
def State.updRcv (f : Rcv → Rcv) (s : State) : State := { s with rcv := f s.rcv }
def State.updPwr (f : Pwr → Pwr) (s : State) : State := { s with pwr := f s.pwr }
def State.updNtu (f : Ntu → Ntu) (s : State) : State := { s with ntu := f s.ntu }
def State.updLnk (f : Lnk → Lnk) (s : State) : State := { s with lnk := f s.lnk }
def State.updPins (f : Pins → Pins) (s : State) : State := { s with pins := f s.pins }
def State.setPass (p : Option Pass) (s : State) : State := { s with pass := p }
def State.setXfer (x : Option Xfer) (s : State) : State := { s with xfer := x }
def State.setCopy (d : List Byte) (s : State) : State := { s with copy := d }

/-- A block puts a report on its way to another block; reports are taken in the order sent (log 3). -/
def State.send (m : Signal) (s : State) : State := { s with inbox := s.inbox ++ [m] }

/-! ## Volumes -/

def Vol.toNat : Vol → Nat
  | .v0 => 0
  | .v1 => 1

/-- The volume a volume byte names; a checked order names 0 or 1 (R100). -/
def Vol.ofByte (n : Nat) : Vol := if n = 0 then .v0 else .v1

/-- The volume a comb head flies over: comb head ÷ 2 (R45). -/
def Vol.ofComb (comb : Nat) : Vol := Vol.ofByte (comb / 2)

def State.vol (s : State) : Vol → VolCtx
  | .v0 => s.vol0
  | .v1 => s.vol1

def State.updVol (v : Vol) (f : VolCtx → VolCtx) (s : State) : State :=
  match v with
  | .v0 => s.updVol0 f
  | .v1 => s.updVol1 f

/-! ## The order table -/

/-- The chain record in slot `i` of the order table, if it holds one. -/
def State.chainAt (s : State) (i : Nat) : Option Chain := s.che.table.getD i none

def State.setSlot (i : Nat) (c : Option Chain) (s : State) : State :=
  s.updChe fun e => { e with table := e.table.set i c }

def State.updChain (i : Nat) (f : Chain → Chain) (s : State) : State :=
  s.updChe fun e => { e with table := e.table.modify i (Option.map f) }

def State.updJob (f : Job → Job) (s : State) : State :=
  s.updChe fun e => { e with job := e.job.map f }

def State.setJob (j : Option Job) (s : State) : State := s.updChe fun e => { e with job := j }

def State.setMech (h : Holder) (s : State) : State := s.updChe fun e => { e with mech := h }

/-- The chain records of the order table with their slot numbers. -/
def State.chains (s : State) : List (Nat × Chain) :=
  (List.range s.che.table.length).filterMap fun i => (s.chainAt i).map fun c => (i, c)

/-- The slot of the chain that holds a tag, ENDED chains included (R100). -/
def State.findTag (s : State) (tag : Nat) : Option Nat :=
  (s.chains.find? fun p => p.2.tag == tag).map Prod.fst

/-- R102: the chain with number `a` is older than the one with number `b`. -/
def olderNumber (a b : Nat) : Bool :=
  let d := (b + 65536 - a % 65536) % 65536
  decide (1 ≤ d) && decide (d ≤ 32767)

/-- The oldest of some chains (R102). -/
def oldest : List (Nat × Chain) → Option (Nat × Chain)
  | [] => none
  | p :: ps =>
    match oldest ps with
    | none => some p
    | some q => if olderNumber q.2.number p.2.number then some q else some p

/-! ## Arithmetic the chapters share -/

/-- A counter that stops at its top value (4.2). -/
def saturate (top n : Nat) : Nat := if n < top then n else top

/-- The generation's and the format count's growth: from 65,535 to 1 (R50, R85). -/
def growGeneration (n : Nat) : Nat := if n ≥ 65535 then 1 else n + 1

/-- The difference of two cylinders (R35). -/
def distance (a b : Nat) : Nat := (a - b) + (b - a)

/-- A position error within a limit in percent of track pitch (R45, R47). -/
def withinError (limit : Nat) (e : Int) : Bool := decide (e.natAbs ≤ limit)

/-- A data area of 512 bytes, padded with zeros (R126). -/
def pad512 (d : List Byte) : List Byte := d.take 512 ++ List.replicate (512 - (d.take 512).length) 0

end Sys2Proof.Machine
end

