-- ==== Sys2Proof/Machine/Flags.lean ====
section
/-! DEFINITION. The flags of orders and chains, and the small classifications of kinds, states and end
codes that the rules speak of by name. -/

namespace Sys2Proof.Machine

def Flags.empty : Flags := { dataCheck := false, lengthMismatch := false, corrected := false }

/-- R109: the flags an order raised are added to the chain's. -/
def Flags.join (a b : Flags) : Flags :=
  { dataCheck := a.dataCheck || b.dataCheck, lengthMismatch := a.lengthMismatch || b.lengthMismatch,
    corrected := a.corrected || b.corrected }

/-- R98: the kinds that need the heads. -/
def OrderKind.mediumAddressing : OrderKind → Bool
  | .read | .write | .verify | .seek | .formatTrack | .assignAlternate | .initializeVolume => true
  | .holdMedium | .releaseMedium | .eject | .setPower => false

/-- R98: READ, WRITE and VERIFY. -/
def OrderKind.transfer : OrderKind → Bool
  | .read | .write | .verify => true
  | _ => false

/-- R98: HOLD MEDIUM and RELEASE MEDIUM. -/
def OrderKind.mechanismFree : OrderKind → Bool
  | .holdMedium | .releaseMedium => true
  | _ => false

/-- R105, check 4: the kinds that write. -/
def OrderKind.writes : OrderKind → Bool
  | .write | .formatTrack | .assignAlternate | .initializeVolume => true
  | _ => false

/-- The three orders that change a volume's tables (chapter 5). -/
def OrderKind.tableChanging : OrderKind → Bool
  | .formatTrack | .assignAlternate | .initializeVolume => true
  | _ => false

/-- R97: in progress. -/
def ChainState.inProgress : ChainState → Bool
  | .active | .dataWait | .paused => true
  | .queued | .ejectWait | .ended => false

/-- R111: the end codes that carry a fault location. -/
def EndCode.hasLocation : EndCode → Bool
  | .dataCheck | .seekError | .positionLost | .speedFault | .powerFault | .writeFault | .noAlternate
  | .headerFault => true
  | _ => false

/-- The order a chain has reached. -/
def Chain.order (c : Chain) : Option Order := c.orders[c.index]?

/-- R98: the number of blocks of a transfer order, ceil(count ÷ 512) (R70). -/
def Order.blocks (o : Order) : Nat := (o.count + 511) / 512

/-- R128: the length of block `k` of a transfer order. -/
def Order.blockLength (o : Order) (k : Nat) : Nat :=
  if k + 1 = o.blocks ∧ o.count % 512 ≠ 0 then o.count - 512 * (o.blocks - 1) else 512

/-- R111: the residual of an order with some bytes of it transferred. -/
def Order.residual (o : Order) (transferred : Nat) : Nat :=
  if o.kind.transfer then o.count - transferred else 0

/-- R111, R181: the residual of the order a chain has reached. -/
def Chain.residual (c : Chain) : Nat :=
  match c.order with
  | some o => o.residual c.transferred
  | none => 0

/-- R99: where the LINK run that holds order `i` begins. -/
def runStart (orders : List Order) : Nat → Nat
  | 0 => 0
  | i + 1 => if (orders[i]?).any (·.flags.link) then runStart orders i else i + 1

/-- R99: the orders of the LINK run that begins a list: those carrying LINK and the one after them. -/
def runOf : List Order → List Order
  | [] => []
  | o :: os => if o.flags.link then o :: runOf os else [o]

/-- The LINK run of the order a chain has reached. -/
def Chain.run (c : Chain) : List Order := runOf (c.orders.drop (runStart c.orders c.index))

/-- R137: the number of blocks of a run. -/
def runBlocks (run : List Order) : Nat := (run.map Order.blocks).sum

/-- R133: the expected length of a sequence of the run: 512, but for the last block of the run. -/
def runLength (run : List Order) (sequence : Nat) : Nat :=
  match run.getLast? with
  | some o => if sequence + 1 = runBlocks run then o.blockLength (o.blocks - 1) else 512
  | none => 512

/-- R23: the head states in which the heads are off the ramp and not on their way to it. -/
def HeadState.loaded : HeadState → Bool
  | .loading | .following | .seeking | .settling | .reacquiring => true
  | .parked | .unloading | .retracting => false

/-- R106: the head states in which an order that needs the heads asks for a load. -/
def HeadState.needsLoad : HeadState → Bool
  | .parked | .loading | .unloading | .retracting => true
  | .following | .seeking | .settling | .reacquiring => false

/-- R57: a spindle that turns under power. -/
def SpindleState.turning : SpindleState → Bool
  | .accelerating | .locking | .locked => true
  | .stopped | .braking | .spinFault => false

/-- R158: the order of the levels, from the most ready to the least; FAULT HOLD has no place in it. -/
def PowerState.rank : PowerState → Nat
  | .active => 0
  | .standby => 1
  | .sleep => 2
  | .dormant => 3
  | .faultHold => 0

/-- R158: one level lies below another. -/
def PowerState.below (a b : PowerState) : Bool := decide (b.rank < a.rank)

def Requester.other : Requester → Requester
  | .pwr => .rcv
  | .rcv => .pwr

def Spc.waits (p : Spc) : Requester → Bool
  | .pwr => p.waitPwr
  | .rcv => p.waitRcv

def Spc.setWait (p : Spc) (x : Requester) (b : Bool) : Spc :=
  match x with
  | .pwr => { p with waitPwr := b }
  | .rcv => { p with waitRcv := b }

/-- The code of an attention kind (R174). -/
def Attention.code : Attention → Nat
  | .cartridgeInserted _ => 1
  | .cartridgeRemoved _ => 2
  | .ejectRefused _ => 3
  | .ejectJammed _ => 4
  | .mediumMounted _ _ _ => 5
  | .powerState _ _ => 6
  | .supplyFault _ => 7
  | .supplyRecovered _ => 8
  | .positionLostLoadFault _ => 9

end Sys2Proof.Machine
end

