-- ==== Sys2Proof/Machine/Operands.lean ====
section
/-! DEFINITION. The bytes of chapter 12: numbers most significant byte first, what inbound payloads
spell, and the bodies of outbound frames and of the volume header. -/

namespace Sys2Proof.Machine

/-! ## Numbers -/

/-- R192: a number sent in two bytes, most significant first. -/
def be16 (n : Nat) : List Byte := [BitVec.ofNat 8 (n / 256), BitVec.ofNat 8 n]

/-- R192: a number sent in four bytes, most significant first. -/
def be32 (n : Nat) : List Byte :=
  [BitVec.ofNat 8 (n / 16777216), BitVec.ofNat 8 (n / 65536), BitVec.ofNat 8 (n / 256), BitVec.ofNat 8 n]

def byteOf (n : Nat) : Byte := BitVec.ofNat 8 n

def boolByte (b : Bool) : Byte := if b then 1 else 0

/-- R191: a received number, most significant byte first. -/
def readNumber (bytes : List Byte) : Nat := bytes.foldl (fun n b => n * 256 + b.toNat) 0

/-- The number in `len` bytes from an offset on. -/
def numberAt (bytes : List Byte) (offset len : Nat) : Nat := readNumber ((bytes.drop offset).take len)

def byteAt (bytes : List Byte) (offset : Nat) : Byte := bytes.getD offset 0

/-! ## Codes (12.1) -/

def OrderKind.ofCode : Nat → Option OrderKind
  | 0 => some .read
  | 1 => some .write
  | 2 => some .verify
  | 3 => some .seek
  | 4 => some .formatTrack
  | 5 => some .assignAlternate
  | 6 => some .initializeVolume
  | 7 => some .holdMedium
  | 8 => some .releaseMedium
  | 9 => some .eject
  | 10 => some .setPower
  | _ => none

/-- R191: a power target of FAULT HOLD or above is no target. -/
def PowerState.ofCode : Nat → Option PowerState
  | 0 => some .active
  | 1 => some .standby
  | 2 => some .sleep
  | 3 => some .dormant
  | _ => none

def PowerState.toCode : PowerState → Nat
  | .active => 0
  | .standby => 1
  | .sleep => 2
  | .dormant => 3
  | .faultHold => 4

def Supply.toCode : Supply → Nat
  | .good => 0
  | .fault => 1
  | .holdOff => 2

def SpindleState.toCode : SpindleState → Nat
  | .stopped => 0
  | .accelerating => 1
  | .locking => 2
  | .locked => 3
  | .braking => 4
  | .spinFault => 5

def StopCause.toCode : StopCause → Nat
  | .none => 0
  | .hostOrder => 1
  | .idle => 2
  | .eject => 3
  | .door => 4
  | .supply => 5
  | .spinFault => 6

def HeadState.toCode : HeadState → Nat
  | .parked => 0
  | .loading => 1
  | .following => 2
  | .seeking => 3
  | .settling => 4
  | .reacquiring => 5
  | .unloading => 6
  | .retracting => 7

def Latch.toCode : Latch → Nat
  | .locked => 0
  | .released => 1

def EjectStage.toCode : EjectStage → Nat
  | .none => 0
  | .draining => 1
  | .unloading => 2
  | .stopping => 3
  | .releasing => 4
  | .doorOpen => 5

def EjectSource.toCode : EjectSource → Nat
  | .host => 0
  | .button => 1
  | .override => 2

def VolState.toCode : VolState → Nat
  | .empty => 0
  | .unmounted => 1
  | .present => 2
  | .mounting => 3
  | .mounted => 4
  | .unformatted => 5
  | .headerFault => 6
  | .leaving => 7

def ChainState.toCode : ChainState → Nat
  | .queued => 0
  | .active => 1
  | .dataWait => 2
  | .paused => 3
  | .ejectWait => 4
  | .ended => 5

def EndCode.toCode : EndCode → Nat
  | .clean => 0
  | .dataCheck => 1
  | .lengthMismatch => 2
  | .addressRange => 3
  | .notFormatted => 4
  | .writeProtected => 5
  | .mediumChanged => 6
  | .mediumLeaving => 7
  | .mediumHeld => 8
  | .noMedium => 9
  | .holdLimit => 10
  | .seekError => 11
  | .positionLost => 12
  | .speedFault => 13
  | .spindleFault => 14
  | .powerFault => 15
  | .writeFault => 16
  | .dataTimeout => 17
  | .tableFull => 18
  | .noAlternate => 19
  | .headerFault => 20
  | .cancelled => 21

def Reason.toCode : Reason → Nat
  | .check => 1
  | .kind => 2
  | .length => 3
  | .tableFull => 4
  | .malformed => 5
  | .tagInUse => 6
  | .noMedium => 7
  | .mediumLeaving => 8
  | .badLength => 9
  | .unwanted => 10
  | .tooLate => 11
  | .unknownTag => 12

def Alt.toCode : Alt → Nat
  | .free => 0
  | .assigned _ => 1
  | .retired => 2

/-- 12.1: the accumulated flags byte, reserved bits 0 (R192). -/
def Flags.toByte (f : Flags) : Byte :=
  byteOf ((if f.dataCheck then 1 else 0) + (if f.lengthMismatch then 2 else 0) + (if f.corrected then 4 else 0))

/-! ## Inbound payloads (12.2) -/

/-- 12.2, R191: an order record of 14 bytes, or none where its kind is unknown. -/
def readOrder (r : List Byte) : Option Order :=
  (OrderKind.ofCode (byteAt r 0).toNat).map fun k =>
    let flags := byteAt r 1
    let presence := byteAt r 3
    { kind := k
      flags := { chain := flags.getLsbD 0, link := flags.getLsbD 1, acceptShort := flags.getLsbD 2,
                 notify := flags.getLsbD 3 }
      volume := (byteAt r 2).toNat
      block := numberAt r 4 2
      count := numberAt r 6 2
      generation := if presence.getLsbD 0 then some (numberAt r 8 2) else none
      serial := if k = .initializeVolume then numberAt r 10 4 else 0
      track := if k = .formatTrack then numberAt r 10 2 else 0
      slip := if k = .formatTrack ∧ presence.getLsbD 1 = true then some (byteAt r 12).toNat else none
      power := if k = .setPower then PowerState.ofCode (byteAt r 10).toNat else none }

/-- 12.2: the order records of a CHAIN payload whose length agrees with its count. -/
def readOrders (payload : List Byte) : List (Option Order) :=
  (List.range (byteAt payload 0).toNat).map fun k => readOrder ((payload.drop (1 + 14 * k)).take 14)

/-! ## Status and notice bodies (12.3, 12.4) -/

/-- The optional fault location of a completion: its bytes are 0 when it is absent (R192). -/
def faultBytes : Option FaultLocation → List Byte
  | none => List.replicate 8 0
  | some f =>
    [1, byteOf f.volume] ++ be16 f.block ++ be16 f.cylinder ++ [byteOf f.comb, byteOf f.slot]

/-- 12.4: the fields of an attention, at offsets 1 to 5. -/
def attentionBytes (a : Attention) : List Byte :=
  byteOf a.code ::
    match a with
    | .cartridgeInserted src => [byteOf src.toCode, 0, 0, 0]
    | .cartridgeRemoved src => [byteOf src.toCode, 0, 0, 0]
    | .ejectRefused n => [byteOf n, 0, 0, 0]
    | .ejectJammed src => [byteOf src.toCode, 0, 0, 0]
    | .mediumMounted v st g => [byteOf v.toNat, byteOf st.toCode] ++ be16 g
    | .powerState new left => [byteOf new.toCode, byteOf left.toCode, 0, 0]
    | .supplyFault b => [byteOf b.toCode, 0, 0, 0]
    | .supplyRecovered b => [byteOf b.toCode, 0, 0, 0]
    | .positionLostLoadFault lf => [boolByte lf, 0, 0, 0]

/-- 12.4: a NOTICE payload. -/
def noticeBytes : NoticeBody → List Byte
  | .completion c =>
    [0, byteOf c.code.toCode, c.flags.toByte, byteOf c.reached] ++ be16 c.residual ++ faultBytes c.fault
  | .progress _ i => [1, byteOf i]
  | .attention a => 2 :: attentionBytes a

/-- R192: the tag byte of a NOTICE. -/
def NoticeBody.tag : NoticeBody → Nat
  | .completion c => c.tag
  | .progress t _ => t
  | .attention _ => 0

/-- 12.3: a REPLY payload. -/
def replyBytes (r : Reply) : List Byte :=
  match r.reason with
  | none => [r.kind, 0, 0] ++ r.body
  | some x => [r.kind, 1, byteOf x.toCode]

/-- 11.2, R192: a whole frame, its check byte making the sum of all bytes 0 modulo 256. -/
def frameBytes (kind tag : Byte) (payload : List Byte) : List Byte :=
  let body := [0xC3#8, kind, tag] ++ be16 payload.length ++ payload
  body ++ [0 - body.foldl (· + ·) 0]

/-! ## The volume header (12.5) -/

/-- The signature of a header. -/
def headerSignature : List Byte := [0x1C, 0x62, 0xA5, 0x5A]

/-- The check word: the sum of bytes, each a number 0..255, modulo 65,536 (R59). -/
def checkWord (bytes : List Byte) : Nat := (bytes.foldl (fun n b => n + b.toNat) 0) % 65536

def slipBytes (e : Slip) : List Byte := be16 e.track ++ [byteOf e.slot]

/-- R192: 0 as the block of an alternate slot that is not ASSIGNED. -/
def altBytes : Alt → List Byte
  | .free => [0, 0, 0]
  | .assigned b => [1] ++ be16 b
  | .retired => [2, 0, 0]

/-- R80, 12.5: the 2,048 bytes of a header. -/
def headerBytes (label : Label) (slips : List Slip) (alts : List Alt) : List Byte :=
  let body := headerSignature ++ be16 label.formatCount ++ be32 label.serial ++ be16 slips.length ++
    slips.flatMap slipBytes ++ List.replicate (3 * (128 - slips.length)) 0 ++ alts.flatMap altBytes ++
    List.replicate 1458 0
  body ++ be16 (checkWord body)

/-- What a header says. -/
structure HeaderContents where
  label : Label
  slips : List Slip
  alts : List Alt
  deriving DecidableEq, Repr

/-- 12.5: an alternate slot of a header, if its state is one of the three. -/
def readAlt (r : List Byte) : Option Alt :=
  match (byteAt r 0).toNat with
  | 0 => some .free
  | 1 => some (.assigned (numberAt r 1 2))
  | 2 => some .retired
  | _ => none

/-- R67, R59: a list in strictly ascending order of track index, with every field in its range. -/
def slipsInOrder : List Slip → Bool
  | [] => true
  | [a] => decide (a.track ≤ 819) && decide (a.slot ≤ 31)
  | a :: b :: rest =>
    decide (a.track ≤ 819) && decide (a.slot ≤ 31) && decide (a.track < b.track) && slipsInOrder (b :: rest)

/-- R68: the blocks the ASSIGNED slots of a map name. -/
def assignedBlocks (alts : List Alt) : List Nat :=
  alts.filterMap fun a => match a with | .assigned b => some b | _ => none

/-- A list without repeats. -/
def noRepeats : List Nat → Bool
  | [] => true
  | x :: xs => !xs.contains x && noRepeats xs

/-- R59, tests 1 to 4: what a valid header says, or none where it is not valid. -/
def readHeader (bytes : List Byte) : Option HeaderContents :=
  let count := numberAt bytes 10 2
  let slips := (List.range (min count 128)).map fun i =>
    { track := numberAt bytes (12 + 3 * i) 2, slot := (byteAt bytes (14 + 3 * i)).toNat : Slip }
  let alts := (List.range 64).filterMap fun a => readAlt ((bytes.drop (396 + 3 * a)).take 3)
  if bytes.take 4 = headerSignature ∧ numberAt bytes 2046 2 = checkWord (bytes.take 2046) ∧
      count ≤ 128 ∧ slipsInOrder slips = true ∧ alts.length = 64 ∧
      (assignedBlocks alts).all (fun b => decide (b ≤ 25419)) = true ∧ noRepeats (assignedBlocks alts) = true
  then some { label := { formatCount := numberAt bytes 4 2, serial := numberAt bytes 6 4 }, slips := slips,
              alts := alts }
  else none

end Sys2Proof.Machine
end

