-- ==== Sys2Proof/Machine/Notices.lean ====
section
/-! DEFINITION. The Notice Unit (chapter 10): attention events, offers of completions and progress, the
place arbiter, and the attention enables. -/

namespace Sys2Proof.Machine

/-- R173: a place is free. -/
def Ntu.hasPlace (n : Ntu) : Bool := decide (n.queue.length < 8)

/-- R174: the enable of an attention kind. -/
def Ntu.enabled (n : Ntu) (code : Nat) : Bool := n.enables.getD (code - 1) true

/-- A notice that joins the tail (R173). -/
def Ntu.join (n : Ntu) (b : NoticeBody) : Ntu :=
  { n with queue := n.queue ++ [{ body := b, sending := false, replaced := false }] }

/-- R175, R176: a payload replaced in place; a notice being sent is marked to be sent again. -/
def Notice.replace (m : Notice) (b : NoticeBody) : Notice :=
  { m with body := b, replaced := m.replaced || m.sending }

def Notice.isAttention (m : Notice) (code : Nat) : Bool :=
  match m.body with
  | .attention a => a.code == code
  | _ => false

def Notice.isProgress (m : Notice) (tag : Nat) : Bool :=
  match m.body with
  | .progress t _ => t == tag
  | _ => false

/-- R174, R175: an attention event is discarded, coalesced, queued or kept in the attention set. -/
def Ntu.attend (n : Ntu) (a : Attention) : Ntu :=
  if n.enabled a.code then
    if n.queue.any (·.isAttention a.code) then
      { n with queue := n.queue.map fun m => if m.isAttention a.code then m.replace (.attention a) else m }
    else if n.set.any (fun x => x.code == a.code) then
      { n with set := n.set.map fun x => if x.code == a.code then a else x }
    else if n.hasPlace then n.join (.attention a)
    else { n with set := n.set ++ [a] }
  else n

def attend (a : Attention) (s : State) : State := s.updNtu fun n => n.attend a

/-- R112: the completion of the ENDED chain in slot `i` enters the queue if a place is free, and the
slot becomes FREE. -/
def offerCompletion (i : Nat) (s : State) : State :=
  match (s.chainAt i).bind (·.completion) with
  | some c => if s.ntu.hasPlace then (s.updNtu fun n => n.join (.completion c)).setSlot i none else s
  | none => s

/-- R117: the PROGRESS notice of a tag takes a new order index. -/
def Notice.renewProgress (tag index : Nat) (m : Notice) : Notice :=
  if m.isProgress tag then m.replace (.progress tag index) else m

/-- R117: an order carrying NOTIFY offers its PROGRESS notice. -/
def offerProgress (i : Nat) (s : State) : State :=
  match s.chainAt i with
  | none => s
  | some c =>
    if (c.order).any (·.flags.notify) then
      if s.ntu.queue.any (·.isProgress c.tag) then
        s.updNtu fun n => { n with queue := n.queue.map (Notice.renewProgress c.tag c.index) }
      else if s.ntu.hasPlace then
        (s.updNtu fun n => n.join (.progress c.tag c.index)).updChain i fun c => { c with progress := none }
      else s.updChain i fun c => { c with progress := some c.index }
    else s

/-- The attention set entry of lowest kind code (R177). -/
def lowestEntry : List Attention → Option Attention
  | [] => none
  | a :: as =>
    match lowestEntry as with
    | none => some a
    | some b => if b.code < a.code then some b else some a

/-- R177: a freed place goes to the oldest completion, else to the lowest attention entry, else to the
pending progress of the oldest chain that holds one. -/
def placeArbiter (s : State) : State :=
  match oldest (s.chains.filter fun p => p.2.state == .ended) with
  | some p => offerCompletion p.1 s
  | none =>
    match lowestEntry s.ntu.set with
    | some a =>
      s.updNtu fun n => ({ n with set := n.set.filter fun x => x.code != a.code }).join (.attention a)
    | none =>
      match oldest (s.chains.filter fun p => p.2.progress.isSome) with
      | some p =>
        (s.updNtu fun n => n.join (.progress p.2.tag (p.2.progress.getD 0))).updChain p.1
          fun c => { c with progress := none }
      | none => s

/-- R176: the host has acknowledged the head notice's frame. -/
def noticeAcknowledged (s : State) : State :=
  match s.ntu.queue with
  | m :: rest =>
    if m.sending then
      if m.replaced then
        s.updNtu fun n => { n with queue := { m with sending := false, replaced := false } :: rest }
      else placeArbiter (s.updNtu fun n => { n with queue := rest })
    else s
  | [] => s

/-- R178: the nine enables of a SETTINGS frame; set entries of kinds now OFF are discarded. -/
def Ntu.setEnables (n : Ntu) (bits : Nat) : Ntu :=
  let n := { n with enables := (List.range 9).map fun k => bits.testBit k }
  { n with set := n.set.filter fun a => n.enabled a.code }

end Sys2Proof.Machine
end

