-- ==== Sys2Proof/Machine/Placement.lean ====
section
/-! DEFINITION. The Placement Unit (chapter 4): the tables it reads, the range check, translation, the
seek-needed test and the seek plan. It keeps no state. -/

namespace Sys2Proof.Machine

/-- R69: the slip list in force for a volume. -/
def VolCtx.slipsInForce (c : VolCtx) : List Slip :=
  match c.state with
  | .mounted | .leaving => c.slips
  | .empty | .unmounted | .present | .mounting | .unformatted | .headerFault => []

/-- R69: the alternate map in force for a volume. -/
def VolCtx.altsInForce (c : VolCtx) : List Alt :=
  match c.state with
  | .mounted | .leaving => c.alts
  | .empty | .unmounted | .present | .mounting | .unformatted | .headerFault => List.replicate 64 .free

/-- R70: an order's range lies within the volume. -/
def inRange (o : Order) : Bool :=
  match o.kind with
  | .read | .write | .verify => decide (o.block + o.blocks - 1 ≤ 25419)
  | .seek | .assignAlternate => decide (o.block ≤ 25419)
  | .formatTrack => decide (o.track ≤ 819)
  | _ => true

/-- R72: the alternate slot ASSIGNED to a block, if any. -/
def findAlternate (alts : List Alt) (block : Nat) : Option Nat :=
  (List.range alts.length).find? fun a => alts.getD a .free == .assigned block

/-- R67: the slip entry of a track, if any. -/
def findSlip (slips : List Slip) (track : Nat) : Option Slip := slips.find? fun e => e.track == track

/-- R74: the slot of logical position `r` on a track. -/
def slipAdjust (entry : Option Slip) (r : Nat) : Nat :=
  match entry with
  | some e => if r ≥ e.slot then r + 1 else r
  | none => r

/-- R71 to R74: the placement of a block, or none (OUT OF RANGE). -/
def translate (slips : List Slip) (alts : List Alt) (v block : Nat) : Option Placement :=
  if block ≤ 25419 then
    match findAlternate alts block with
    | some a =>
      some { volume := v, block := block, kind := .alternate a, cylinder := 1, volumeHead := a / 32,
             comb := 2 * v + a / 32, slot := a % 32 }
    | none =>
      let t := block / 31
      let r := block % 31
      some { volume := v, block := block, kind := .primary t r, cylinder := 2 + t / 2, volumeHead := t % 2,
             comb := 2 * v + t % 2, slot := slipAdjust (findSlip slips t) r }
  else none

/-- R123: the identity a placement calls for. -/
def Placement.identity (p : Placement) : Identity :=
  { cylinder := p.cylinder, volumeHead := p.volumeHead, slot := p.slot,
    mark := match p.kind with
      | .primary _ r => .data r
      | .alternate a => .alternate a }

/-- R75: the fixed place of alternate slot `a` of volume `v`. -/
def alternatePlace (v a : Nat) : Place := { cylinder := 1, comb := 2 * v + a / 32, slot := a % 32 }

/-- R75: the target of FORMAT TRACK. -/
def formatTarget (v track : Nat) : Target := { cylinder := 2 + track / 2, comb := 2 * v + track % 2 }

/-- R77: whether a seek is needed before a transfer. -/
def seekNeeded (a : Act) (t : Target) : Bool := !(a.valid && a.cylinder == t.cylinder && a.comb == t.comb)

/-- R78: the plan time in ms for a distance and a change of comb head. -/
def planTime (d : Nat) (headChanges : Bool) : Nat :=
  if d = 0 then (if headChanges then 1 else 0)
  else if d = 1 then 4
  else if d ≤ 15 then 7
  else if d ≤ 63 then 12
  else if d ≤ 191 then 19
  else 28

end Sys2Proof.Machine
end

