-- ==== Sys2Proof/Machine/Actuator.lean ====
section
/-! DEFINITION. The Actuator Controller (chapter 2): loads, unloads, retracts, seeks, the servo watchdog,
block boundaries and the write gate. -/

namespace Sys2Proof.Machine

/-! ## Head states and answers -/

/-- R23: a change of head state, sent to SPC, CHE, VOL, PWR and RCV. -/
def actHead (h : HeadState) (s : State) : State :=
  if s.act.head = h then s
  else (s.updAct fun a => { a with head := h }).send (.head s.act.head h)

/-- R39: the answers of a seek that ends early. -/
def SeekAnswer.early : SeekAnswer → Bool
  | .aborted | .positionLost => true
  | .arrived | .seekError => false

/-- The seek being served is answered, and is over (2.5). Where it ends early, its target is kept with no
later event to act on it (R39). -/
def actAnswer (x : SeekAnswer) (s : State) : State :=
  match s.act.seek with
  | none => s
  | some k =>
    (s.updAct fun a => { a with seek := none, targetEnded := a.targetEnded || x.early }).send
      (.seekAnswer k.party x)

/-! ## Loading (2.3) -/

/-- R26, R28: a load starts if the heads are PARKED, permission holds and a requester waits. -/
def actTryLoad (s : State) : State :=
  match s.act.loads with
  | [] => s
  | r :: _ =>
    if s.act.head = .parked ∧ s.act.permission = true then
      actHead .loading (s.updAct fun a =>
        { a with comb := 2 * r.volume.toNat, attempt := 1, acquisition := some 400000 })
    else s

/-- R27: a load request. LOADED at once is sent like any other answer. -/
def actRequestLoad (p : Party) (v : Vol) (s : State) : State :=
  match s.act.head with
  | .following | .seeking | .settling | .reacquiring => s.send (.loaded p)
  | .parked | .loading | .unloading | .retracting =>
    if s.act.loads.any (·.party == p) then s
    else actTryLoad (s.updAct fun a => { a with loads := a.loads ++ [{ party := p, volume := v }] })

/-- R27: a requester withdraws. -/
def actWithdraw (p : Party) (s : State) : State :=
  s.updAct fun a => { a with loads := a.loads.filter fun r => r.party != p }

/-- R26: LOAD PERMITTED. -/
def actPermit (s : State) : State := actTryLoad (s.updAct fun a => { a with permission := true })

/-! ## Unloading and retract (2.4) -/

/-- The fields that an entry to UNLOADING or RETRACTING sets alike (R31, R33). -/
def Act.leave (a : Act) : Act :=
  { a with gate := false, valid := false, watchdog := .idle, attempt := 0, acquisition := none,
           seekTimeout := none, plan := none, settle := none, stage1 := none, stage2 := none,
           unload := none }

/-- R31: an entry to UNLOADING; a seek being served gets the answer given, and the block boundary of R44
falls. -/
def actEnterUnloading (x : SeekAnswer) (s : State) : State :=
  actHead .unloading
    (((actAnswer x s).send .boundaryLost).updAct fun a => { a.leave with unload := some 300000 })

/-- R30: an unload request; also the forced unload of R32, which leaves PARKED, UNLOADING and RETRACTING
as they are (R8). -/
def actUnload (s : State) : State := if s.act.head.loaded then actEnterUnloading .aborted s else s

/-- R33: the retract order. -/
def actRetract (s : State) : State :=
  match s.act.head with
  | .parked | .retracting => s
  | _ =>
    actHead .retracting
      (((actAnswer .aborted s).send .boundaryLost).updAct fun a => { a.leave with retract := some 300000 })

/-- R31, R33: the end of an unload or a retract; the change to PARKED is sent before a load starts. -/
def actPark (s : State) : State :=
  actTryLoad (actHead .parked (s.updAct fun a => { a with unload := none, retract := none }))

/-- R31, R33: the ramp report. -/
def actRamp (s : State) : State :=
  match s.act.head with
  | .unloading | .retracting => actPark s
  | _ => s

/-- R29: the acquisition timer expires. -/
def actAcquisitionExpiry (s : State) : State :=
  if s.act.head = .loading ∧ s.act.acquisition.isSome = true then
    if s.act.attempt ≤ 1 then s.updAct fun a => { a with attempt := 2, acquisition := some 400000 }
    else
      let failed := s.act.loads.foldl (fun t r => t.send (.loadFailed r.party)) s
      (actEnterUnloading .aborted (failed.updAct fun a => { a with loads := [] })).send
        (.attention (.positionLostLoadFault true))
  else s

/-! ## Seeking (2.5) -/

/-- R35: a seek attempt from the current cylinder; `again` marks a re-seek. -/
def actAttempt (k : Seek) (again : Bool) (s : State) : State :=
  let d := distance k.target.cylinder s.act.cylinder
  let change := decide (k.target.comb ≠ s.act.comb)
  let t := s.updAct fun a => { a with gate := false, seek := some { k with phase := .running } }
  if again = true ∧ d = 0 then
    actHead .settling (t.updAct fun a =>
      { a with comb := k.target.comb, plan := none, settle := none, settleTime := 2000, arrived := false,
               seekTimeout := some 4000 })
  else if d = 0 ∧ change = false then
    actHead .following (actAnswer .arrived t)
  else
    let settleTime := if d = 0 then 0 else 2000
    let plan := 1000 * planTime d change
    actHead .seeking (t.updAct fun a =>
      { a with comb := k.target.comb, plan := some plan, settle := none, settleTime := settleTime,
               arrived := false, seekTimeout := some (2 * (plan + settleTime)) })

/-- R34: a seek is taken; without a valid position it waits for the recalibrating wedge. One that an ended order
has left waiting for that wedge gives way to it unanswered (log 21). -/
def actTakeSeek (k : Seek) (s : State) : State :=
  let t := s.updAct fun a => { a with target := some k.target, targetEnded := false, retries := 0 }
  if s.act.valid then actAttempt k false t
  else t.updAct fun a => { a with seek := some { k with phase := .recalibrating } }

/-- R34: a seek request. DESIGN CHOICE (log 21): one in LOADING or REACQUIRING replaces a seek already held there, one
of an ended order among them, which is dropped unanswered. -/
def actSeek (p : Party) (t : Target) (s : State) : State × SeekTaken :=
  let k : Seek := { party := p, target := t, phase := .held }
  match s.act.head with
  | .following => (actTakeSeek k s, .taken)
  | .loading | .reacquiring => (s.updAct fun a => { a with seek := some k }, .held)
  | .seeking | .settling => (s, .busy)
  | .parked | .unloading | .retracting => (s, .notLoaded)

/-- The seek completes (R37): ARRIVED, and the heads are FOLLOWING. -/
def actArrive (s : State) : State :=
  actHead .following (actAnswer .arrived
    (s.updAct fun a => { a with seekTimeout := none, plan := none, settle := none }))

/-- R38: a seek attempt fails. -/
def actFail (s : State) : State :=
  let t := s.updAct fun a => { a with seekTimeout := none, plan := none, settle := none }
  match t.act.seek with
  | none => t
  | some k =>
    if t.act.retries < 2 then actAttempt k true (t.updAct fun a => { a with retries := a.retries + 1 })
    else actHead .following (actAnswer .seekError (t.updAct fun a => { a with valid := false }))

/-- R38: a MISPLACED report, ignored unless the heads are FOLLOWING. A target kept from a seek that ended
early counts as absent, and its retry count is not used (R39). -/
def actMisplaced (p : Party) (t : Target) (s : State) : State :=
  if s.act.head = .following then
    let u := if s.act.target = some t ∧ s.act.targetEnded = false then s
      else s.updAct fun a => { a with target := some t, targetEnded := false, retries := 0 }
    actFail (u.updAct fun a => { a with seek := some { party := p, target := t, phase := .running } })
  else s

/-! ## Wedge reports (2.2, R24, R28, R36, R37, R42) -/

/-- R24, R25: what every wedge taken sets while the servo is followed. -/
def Act.hear (a : Act) (cylinder : Nat) (error : Int) : Act :=
  { a with error := error, cylinder := if a.valid then cylinder else a.cylinder }

/-- R28: the acquisition. -/
def actAcquire (cylinder : Nat) (error : Int) (s : State) : State :=
  let t := actHead .following (s.updAct fun a =>
    { a with error := error, cylinder := cylinder, valid := true, acquisition := none, attempt := 0,
             watchdog := .stage1, stage1 := some 1875 })
  let t := t.act.loads.foldl (fun t r => t.send (.loaded r.party)) t
  let t := t.updAct fun a => { a with loads := [] }
  match t.act.seek with
  | some k => actTakeSeek k t
  | none => t

/-- R37: a wedge in SETTLING: the arrival wedge, one during a settle period, and one between two periods, which
only a wedge with the right identity within ±12% ends. -/
def actSettleWedge (cylinder : Nat) (error : Int) (s : State) : State :=
  match s.act.seek with
  | none => s
  | some k =>
    if s.act.arrived = false then
      if cylinder ≠ k.target.cylinder then actFail s
      else if s.act.settleTime = 0 then actArrive s
      else s.updAct fun a => { a with arrived := true, settle := some 2000 }
    else if s.act.settle = none then
      if cylinder = k.target.cylinder ∧ withinError 12 error = true then
        s.updAct fun a => { a with settle := some 2000 }
      else s
    else if cylinder ≠ k.target.cylinder then actFail s
    else if withinError 12 error = false then s.updAct fun a => { a with settle := none }
    else s

/-- R42: the reacquisition. -/
def actReacquire (cylinder : Nat) (s : State) : State :=
  let t := s.updAct fun a => { a with stage2 := none, watchdog := .stage1, stage1 := some 1875 }
  match t.act.seek with
  | none => actHead .following t
  | some k =>
    if k.phase = .interrupted then actFail t
    else actTakeSeek k (t.updAct fun a => { a with cylinder := cylinder, valid := true })

/-- R34: the wedge that recalibrates a taken seek. -/
def actRecalibrate (cylinder : Nat) (s : State) : State :=
  match s.act.seek with
  | some k =>
    if k.phase = .recalibrating then
      actAttempt k false (s.updAct fun a => { a with cylinder := cylinder, valid := true })
    else s
  | none => s

/-- R45: a wedge outside ±12% closes the gate at once. -/
def actGateWedge (error : Int) (s : State) : State :=
  if withinError 12 error then s else s.updAct fun a => { a with gate := false }

/-- R25: a wedge report. In FOLLOWING the wedge is passed on as a block boundary (R44). -/
def actWedge (wedge cylinder : Nat) (error : Int) (outcome : ReadOutcome) (data : List Byte) (s : State) :
    State :=
  let heard := s.updAct fun a => { a.hear cylinder error with stage1 := some 1875 }
  match s.act.head with
  | .parked | .unloading | .retracting => s
  | .loading => actAcquire cylinder error s
  | .following =>
    (actRecalibrate cylinder (actGateWedge error heard)).send (.boundary wedge error outcome data)
  | .seeking => heard
  | .settling => actSettleWedge cylinder error heard
  | .reacquiring => actReacquire cylinder heard

/-! ## Timers (2.5, 2.6) -/

/-- R36: the plan time ends. -/
def actPlanEnd (s : State) : State :=
  if s.act.head = .seeking ∧ s.act.plan.isSome = true then
    actHead .settling (s.updAct fun a => { a with plan := none, settle := none, arrived := false })
  else s

/-- R37: 2 ms have passed since the settle period started. -/
def actSettleEnd (s : State) : State :=
  if s.act.head = .settling ∧ s.act.settle.isSome = true then actArrive s else s

/-- R38: the seek timeout expires in SEEKING or SETTLING. -/
def actSeekTimeout (s : State) : State :=
  if (s.act.head = .seeking ∨ s.act.head = .settling) ∧ s.act.seekTimeout.isSome = true then actFail s else s

/-- R41: what becomes of a seek at the expiry of stage 1. -/
def Seek.lose (k : Seek) : Seek :=
  { k with phase := if k.phase = .running then .interrupted else .held }

/-- R41: stage 1 expires. -/
def actStage1 (s : State) : State :=
  if (s.act.head = .following ∨ s.act.head = .seeking ∨ s.act.head = .settling) ∧
      s.act.stage1.isSome = true then
    actHead .reacquiring ((s.send .boundaryLost).updAct fun a =>
      { a with gate := false, watchdog := .stage2, stage1 := none, stage2 := some 50000, seekTimeout := none,
               plan := none, settle := none, seek := a.seek.map Seek.lose })
  else s

/-- R43: stage 2 expires: the position is lost. -/
def actStage2 (s : State) : State :=
  if s.act.head = .reacquiring ∧ s.act.stage2.isSome = true then
    (actEnterUnloading .positionLost (s.send .positionLost)).send (.attention (.positionLostLoadFault false))
  else s

/-! ## The write gate (2.7) -/

/-- R45: the three conditions under which the gate opens. -/
def gateOpens (s : State) : Bool :=
  decide (s.act.head = .following) && withinError 12 s.act.error &&
    !(s.vol (Vol.ofComb s.act.comb)).writeProtect

/-- R45: the gate as CHE's request leaves it. -/
def openGate (s : State) : State := s.updAct fun a => { a with gate := gateOpens s }

/-- R45: the gate goes off at a closing wedge or at a boundary without a wedge number. -/
def closeGate (s : State) : State := s.updAct fun a => { a with gate := false }

end Sys2Proof.Machine
end

