-- ==== Sys2Proof/Machine/Spindle.lean ====
section
/-! DEFINITION. The Spindle Controller (chapter 1): intervals, regulation, lock, starts and stops, the stop
test, timeouts and the purge. -/

namespace Sys2Proof.Machine

/-- R1: a change of state is sent to ACT, PWR and RCV; ACT's permission ends with any state but LOCKED
(R26). -/
def spcTell (st : SpindleState) (s : State) : State :=
  ((s.updSpc fun p => { p with state := st }).updAct fun a =>
    { a with permission := a.permission && decide (st = .locked) }).send (.spindle st)

/-! ## Arithmetic (1.3) -/

/-- R4: the step c for an interval t. -/
def regulationStep (t : Nat) : Int := max (-12) (min 12 (Int.tdiv ((t : Int) - 5000) 4))

/-- R4: the drive level after one regulation step. -/
def regulate (level t : Nat) : Nat := (max 40 (min 255 ((level : Int) + regulationStep t))).toNat

/-- R4: an interval is in window. -/
def inWindow (t : Nat) : Bool := decide (4975 ≤ t) && decide (t ≤ 5025)

/-! ## Starts (1.4) -/

/-- R19, R54: whether VOL answers "long". -/
def longPurge (s : State) : Bool := decide (s.vol1.state = .present) && !s.vol1.mountedSince

/-- R10: a start is taken. -/
def spcTakeStart (s : State) : State :=
  spcTell .accelerating (s.updSpc fun p =>
    { p with level := 255, brake := false, purge := if longPurge s then 1200 else 100, purgePulses := 0,
             inRun := 0, slowRun := 0, outRun := 0, satRun := 0, stopConfirmed := false,
             startTimer := some 15000000, relockTimer := none, brakeTimer := none,
             waitPwr := false, waitRcv := false, heldStart := none })

/-- R13: X's own wait for STOPPED is withdrawn by its start, and X is answered WITHDRAWN for its stop. -/
def spcLeaveWait (x : Requester) (s : State) : State :=
  if s.spc.waits x then (s.updSpc fun p => p.setWait x false).send (.stopWithdrawn x) else s

/-- R9, R13: a start request. -/
def spcStart (x : Requester) (s : State) : State × StartAnswer :=
  match s.spc.state with
  | .stopped =>
    if s.rcv.latch = .locked then (spcTakeStart s, .taken) else (s, .refusedLatchReleased)
  | .accelerating | .locking | .locked => (s, .satisfied)
  | .braking =>
    if s.spc.waits x.other then (s, .refusedStopPending)
    else ((spcLeaveWait x s).updSpc fun p => { p with heldStart := some x }, .held)
  | .spinFault =>
    if s.spc.stopConfirmed = false ∧ s.spc.waits x.other = true then (s, .refusedStopPending)
    else (spcTakeStart (spcLeaveWait x s), .taken)

/-! ## Stops (1.4, 1.5) -/

/-- R14: the entry to BRAKING. -/
def spcEnterBraking (cause : StopCause) (s : State) : State :=
  spcTell .braking (s.updSpc fun p =>
    { p with level := 0, brake := true, lastStop := cause, inRun := 0, slowRun := 0, outRun := 0, satRun := 0,
             startTimer := none, relockTimer := none, brakeTimer := some 20000000 })

/-- R13: a held start is dropped by a stop, and its requester is answered WITHDRAWN. -/
def spcDropHeld (s : State) : State :=
  match s.spc.heldStart with
  | some y => (s.updSpc fun p => { p with heldStart := none }).send (.startWithdrawn y)
  | none => s

/-- R13: X joins the stop waiters, and a held start is dropped. -/
def spcJoin (x : Requester) (s : State) : State := (spcDropHeld s).updSpc fun p => p.setWait x true

/-- R11, R12: a stop request; the cause SUPPLY is taken whatever the head state. -/
def spcStop (x : Requester) (cause : StopCause) (s : State) : State × StopAnswer :=
  match s.spc.state with
  | .stopped => (s, .stoppedAtOnce)
  | .accelerating | .locking | .locked =>
    if s.act.head = .parked ∨ s.act.head = .retracting ∨ cause = .supply then
      (spcEnterBraking cause (spcJoin x s), .stoppedLater)
    else (s, .refusedHeadsNotParked)
  | .braking => (spcJoin x s, .stoppedLater)
  | .spinFault =>
    if s.spc.stopConfirmed then
      (spcTell .stopped ((spcDropHeld s).updSpc fun p => { p with stopConfirmed := false }), .stoppedAtOnce)
    else (spcJoin x s, .stoppedLater)

/-- The stop waiters are answered STOPPED and cleared (R14, R18). -/
def spcAnswerStopped (s : State) : State :=
  let t := if s.spc.waitPwr then s.send (.stopped .pwr) else s
  let t := if s.spc.waitRcv then t.send (.stopped .rcv) else t
  t.updSpc fun p => { p with waitPwr := false, waitRcv := false }

/-- R14: the stop test passes in BRAKING. -/
def spcStopped (s : State) : State :=
  let t := spcAnswerStopped (spcTell .stopped (s.updSpc fun p =>
    { p with level := 0, brake := false, brakeTimer := none }))
  if t.spc.heldStart.isSome then spcTakeStart t else t

/-- R18: the stop test passes in SPIN FAULT. -/
def spcConfirmed (s : State) : State :=
  if s.spc.waitPwr = true ∨ s.spc.waitRcv = true then
    spcAnswerStopped (spcTell .stopped (s.updSpc fun p => { p with brake := false }))
  else s.updSpc fun p => { p with stopConfirmed := true, brake := false }

/-- One input of the stop test (R14, R18): a saturated interval adds one to the run, a tach pulse sets it to 0. -/
def spcStopTest (saturated : Bool) (passed : State → State) (s : State) : State :=
  let t := s.updSpc fun p => { p with satRun := if saturated then min 6 (p.satRun + 1) else 0 }
  if t.spc.satRun = 6 then passed t else t

/-- R14, R18: the stop test runs in BRAKING, and in SPIN FAULT until it has passed. -/
def spcStopInput (saturated : Bool) (s : State) : State :=
  match s.spc.state with
  | .braking => spcStopTest saturated spcStopped s
  | .spinFault => if s.spc.stopConfirmed then s else spcStopTest saturated spcConfirmed s
  | .stopped | .accelerating | .locking | .locked => s

/-! ## Intervals (1.2, 1.3) -/

/-- R8: the lock loss acts on loaded heads and on the holder of the mechanism. -/
def spcLockLossActs (s : State) : State :=
  if s.act.head.loaded then actUnload (s.send .lockLoss) else s

/-- R4 to R6: an interval in LOCKING. -/
def spcLockingInterval (t : Nat) (s : State) : State :=
  let u := s.updSpc fun p =>
    { p with level := regulate p.level t, inRun := if inWindow t then p.inRun + 1 else 0,
             slowRun := if t > 5750 then p.slowRun + 1 else 0 }
  if u.spc.inRun ≥ 24 then
    spcTell .locked (u.updSpc fun p => { p with outRun := 0, startTimer := none, relockTimer := none })
  else if u.spc.slowRun ≥ 8 then
    spcTell .accelerating (u.updSpc fun p => { p with level := 255, inRun := 0, slowRun := 0 })
  else u

/-- R4, R7: an interval in LOCKED. -/
def spcLockedInterval (t : Nat) (s : State) : State :=
  let u := s.updSpc fun p =>
    { p with level := regulate p.level t, outRun := if inWindow t then 0 else p.outRun + 1 }
  if u.spc.outRun ≥ 4 then
    spcLockLossActs (spcTell .locking (u.updSpc fun p =>
      { p with inRun := 0, slowRun := 0, relockTimer := some 5000000 }))
  else u

/-- R2: an interval that ends is processed according to the spindle state; `saturated` marks one that ends without
a pulse. -/
def spcInterval (t : Nat) (saturated : Bool) (s : State) : State :=
  match s.spc.state with
  | .stopped => s
  | .accelerating =>
    if t ≤ 5250 then
      spcTell .locking (s.updSpc fun p => { p with level := 160, inRun := 0, slowRun := 0 })
    else s
  | .locking => spcLockingInterval t s
  | .locked => spcLockedInterval t s
  | .braking | .spinFault => spcStopInput saturated s

/-- R19: a tach pulse is counted toward the purge in LOCKING and LOCKED. -/
def spcPurgePulse (s : State) : State :=
  match s.spc.state with
  | .locking | .locked =>
    if s.spc.purge = 0 then s
    else if s.spc.purgePulses ≥ 7 then
      s.updSpc fun p => { p with purge := p.purge - 1, purgePulses := 0 }
    else s.updSpc fun p => { p with purgePulses := p.purgePulses + 1 }
  | _ => s

/-- R20: the condition of load permission. -/
def loadPermission (s : State) : Bool := decide (s.spc.state = .locked) && decide (s.spc.purge = 0)

/-- R20: LOAD PERMITTED is sent where the condition has become true. -/
def spcPermit (was : Bool) (s : State) : State :=
  if was = false ∧ loadPermission s = true then actPermit s else s

/-- R2: a tach pulse, `ticks` after the counter stood at its present value. A pulse at the moment of
saturation ends the saturated interval, and no interval of length 0 is processed; like every pulse it sets the
stop test's run to 0 (R14, R18, log 8). Permission is tested once, after the purge count and the interval (log 39). -/
def spcTachPulse (ticks : Nat) (s : State) : State :=
  let t := min 65535 (s.spc.interval + ticks)
  let u := spcPurgePulse (s.updSpc fun p => { p with interval := 0 })
  spcPermit (loadPermission s) (if t = 0 then spcStopInput false u else spcInterval t false u)

/-- R2: a saturated interval. -/
def spcSaturated (s : State) : State :=
  spcPermit (loadPermission s) (spcInterval 65535 true (s.updSpc fun p => { p with interval := 0 }))

/-! ## Timeouts (1.6) -/

/-- R18: the entry to SPIN FAULT. -/
def spcSpinFault (s : State) : State :=
  (spcTell .spinFault (s.updSpc fun p =>
    { p with level := 0, brake := true, stopConfirmed := false, lastStop := .spinFault, startTimer := none,
             relockTimer := none, brakeTimer := none, inRun := 0, slowRun := 0, outRun := 0,
             satRun := if p.state = .braking then p.satRun else 0 })).send .spinFault

/-- R15. -/
def spcStartExpiry (s : State) : State :=
  if s.spc.startTimer.isSome = true ∧ (s.spc.state = .accelerating ∨ s.spc.state = .locking) then
    spcSpinFault s
  else s

/-- R16. -/
def spcRelockExpiry (s : State) : State :=
  if s.spc.relockTimer.isSome = true ∧ (s.spc.state = .accelerating ∨ s.spc.state = .locking) then
    spcSpinFault s
  else s

/-- R17. -/
def spcBrakeExpiry (s : State) : State :=
  if s.spc.brakeTimer.isSome = true ∧ s.spc.state = .braking then spcSpinFault s else s

end Sys2Proof.Machine
end

