-- ==== Sys2Proof/Machine/Volumes.lean ====
section
/-! DEFINITION. The Volume Manager's contexts and mount passes (chapter 3). -/

namespace Sys2Proof.Machine

/-! ## Contexts (3.1, 3.4) -/

/-- R49: a volume with a mount need. -/
def VolState.mountNeed : VolState → Bool
  | .unmounted | .present => true
  | .empty | .mounting | .mounted | .unformatted | .headerFault | .leaving => false

/-- The state of a volume that is not mounted: UNMOUNTED for volume 0, PRESENT for volume 1 (R61). -/
def Vol.needState : Vol → VolState
  | .v0 => .unmounted
  | .v1 => .present

/-- R63: a context drop, with the states it leaves. -/
def VolCtx.drop (st : VolState) (before : Option VolState) (c : VolCtx) : VolCtx :=
  { c with state := st, before := before, writeProtect := false, label := none, slips := [],
           alts := List.replicate 64 .free, stale := false, corrected := 0, rereads := 0, dataChecks := 0,
           pass := .none }

/-- R53: CHE's report of a block read. -/
def VolCtx.report (out : ReadOutcome) (rereads : Nat) (c : VolCtx) : VolCtx :=
  { c with corrected := if out = .corrected then saturate 65535 (c.corrected + 1) else c.corrected,
           rereads := saturate 65535 (c.rereads + rereads),
           dataChecks := if out = .uncorrectable then saturate 65535 (c.dataChecks + 1) else c.dataChecks }

/-- R62: volume 1 at the start of an eject sequence. -/
def VolCtx.leave (c : VolCtx) : VolCtx :=
  let before : VolState :=
    match c.state with
    | .mounted => .mounted
    | .unformatted => .unformatted
    | .headerFault => .headerFault
    | .present | .mounting | .empty | .unmounted | .leaving => .present
  match c.state with
  | .empty | .leaving => c
  | _ => { c with state := .leaving, before := some before, pass := if c.pass = .pending then .none else c.pass }

/-- R62: VOL is told that an eject sequence begins. -/
def volLeave (s : State) : State := s.updVol1 VolCtx.leave

/-- R63: the cartridge is removed. -/
def volRemoved (s : State) : State :=
  s.updVol1 fun c => { c.drop .empty none with mountedSince := false }

/-- R63: the eject jams. -/
def volJammed (s : State) : State := s.updVol1 (VolCtx.drop .present none)

/-- R63: the door-open window ends with no insertion. -/
def volWindowEnded (s : State) : State := s.updVol1 (VolCtx.drop .empty none)

/-- R64: an insertion. -/
def volInserted (s : State) : State :=
  s.updVol1 fun c => { c.drop .present none with mountedSince := false }

/-- R66: RCV's first report of the presence. -/
def volFirstReport (present : Bool) (s : State) : State :=
  s.updVol1 fun c => { c with state := if present then .present else .empty }

/-! ## Releasing the mechanism (R57, R61) -/

/-- The mechanism leaves a pass that ends: free, or back with the lending order. -/
def passRelease (p : Pass) (s : State) : State :=
  let t := (actWithdraw .vol s).setPass none
  if p.lent then t else t.setMech .free

/-- R61, R62: a RUNNING pass is abandoned; a lending order is told the end code. -/
def volAbandon (code : EndCode) (s : State) : State :=
  match s.pass with
  | none => s
  | some p =>
    let t := s.updVol p.volume fun c =>
      { c with pass := .none, state := if c.state = .leaving then .leaving else p.volume.needState }
    let t := closeGate (t.setXfer none)
    if p.lent then (passRelease p t).send (.lentPassAbandoned code) else passRelease p t

/-- R65: both contexts are dropped at the entry to DORMANT. -/
def volDormant (s : State) : State :=
  let t := volAbandon .positionLost s
  (t.updVol0 (VolCtx.drop .unmounted none)).updVol1 fun c =>
    match c.state with
    | .empty => c.drop .empty none
    | .leaving => c.drop .leaving (some .present)
    | _ => c.drop .present none

/-! ## Requesting and granting (3.2) -/

/-- R56: a pass becomes PENDING. -/
def VolCtx.request (c : VolCtx) : VolCtx :=
  if c.state.mountNeed = true ∧ c.pass = .none then { c with pass := .pending } else c

/-- R56: the heads have entered FOLLOWING from LOADING. -/
def volLoaded (s : State) : State := (s.updVol0 VolCtx.request).updVol1 VolCtx.request

/-- R56: the pass VOL presents. -/
def presentedPass (s : State) : Option Vol :=
  if s.vol0.pass = .pending then some .v0 else if s.vol1.pass = .pending then some .v1 else none

def State.setPassPhase (ph : PassPhase) (s : State) : State :=
  s.setPass (s.pass.map fun p => { p with phase := ph })

/-- R58: the header read asks for its seek. -/
def passSeek (s : State) : State :=
  match s.pass with
  | none => s
  | some p =>
    match actSeek .vol { cylinder := 0, comb := 2 * p.volume.toNat } s with
    | (t, .taken) => t.setPassPhase .seek
    | (t, .held) => t.setPassPhase .seek
    | (t, .busy) => t.setPassPhase .busy
    | (t, .notLoaded) => volAbandon .positionLost t

/-- R57: a pass is withdrawn. A lending order takes its wait up again. -/
def passWithdraw (p : Pass) (s : State) : State :=
  let t := s.updVol p.volume fun c => { c with pass := .none, state := p.volume.needState }
  let t := passRelease p t
  if p.lent then t.send (.mountEnded p.volume) else t

/-- R57: a pass is granted the mechanism, its own or lent. -/
def passGrant (v : Vol) (lent : Bool) (s : State) : State :=
  let block : HeaderBlock := { tried := false, data := none, identityOk := false, setAside := 0 }
  let p : Pass := { volume := v, lent := lent, phase := .load, blocks := List.replicate 4 block }
  let t := (s.updVol v fun c => { c with pass := .running, state := .mounting }).setPass (some p)
  let t := if lent then t else t.setMech (.pass v)
  match s.act.head with
  | .following | .reacquiring | .seeking | .settling => passSeek t
  | .parked | .loading | .unloading | .retracting =>
    if s.spc.state.turning then actRequestLoad .vol v t else passWithdraw p t

/-! ## The header read and its outcomes (3.3) -/

/-- R51, R53, R54, R60: the end of a mount pass. -/
def VolCtx.mount (v : Vol) (tab : Bool) (st : VolState) (h : Option HeaderContents) (c : VolCtx) : VolCtx :=
  let read := decide (st ≠ .headerFault)
  { c with
    state := st, pass := .none, stale := false,
    generation := if read then growGeneration c.generation else c.generation,
    label := h.map (·.label), slips := (h.map (·.slips)).getD [],
    alts := (h.map (·.alts)).getD (List.replicate 64 .free),
    corrected := if read then 0 else c.corrected, rereads := if read then 0 else c.rereads,
    dataChecks := if read then 0 else c.dataChecks,
    writeProtect := if v = .v1 then tab else c.writeProtect,
    mountedSince := if v = .v1 then true else c.mountedSince }

/-- R60: the pass ends with an outcome. -/
def passEnd (st : VolState) (h : Option HeaderContents) (s : State) : State :=
  match s.pass with
  | none => s
  | some p =>
    let t := s.updVol p.volume (VolCtx.mount p.volume s.pins.tabProtect st h)
    let t := attend (.mediumMounted p.volume st (t.vol p.volume).generation) (passRelease p t)
    t.send (.mountEnded p.volume)

/-- R59, R60: all four blocks are accepted. -/
def passRead (p : Pass) (s : State) : State :=
  let bytes := p.blocks.flatMap fun b => b.data.getD []
  match readHeader bytes with
  | some h => if p.blocks.all (·.identityOk) then passEnd .mounted (some h) s else passEnd .unformatted none s
  | none => passEnd .unformatted none s

/-- R58: the slot in which a read may start: blocks are first read in slot order. -/
def passWants (p : Pass) (slot : Nat) : Bool :=
  match p.blocks[slot]? with
  | some b => b.data.isNone && (b.tried || (p.blocks.take slot).all (·.tried))
  | none => false

/-- R58: a header block's read, taken at its closing wedge. `data` is what the channel read. -/
def HeaderBlock.take (seen : IdentitySeen) (offTrack : Bool) (out : ReadOutcome) (data : List Byte)
    (b : HeaderBlock) : HeaderBlock :=
  if offTrack = true ∨ out = .uncorrectable ∨ seen = .notRead ∨ seen = .unreadable then
    { b with tried := true, setAside := b.setAside + 1 }
  else { b with tried := true, data := some data, identityOk := decide (seen = .agrees) }

/-- R58: the header read after one of its reads. -/
def passClosed (slot : Nat) (seen : IdentitySeen) (offTrack : Bool) (out : ReadOutcome) (data : List Byte)
    (s : State) : State :=
  match s.pass with
  | none => s
  | some p =>
    let p' := { p with blocks := p.blocks.modify slot (HeaderBlock.take seen offTrack out data) }
    let t := s.setPass (some p')
    if p'.blocks.any (fun b => decide (b.setAside ≥ 4)) then passEnd .headerFault none t
    else if p'.blocks.all (·.data.isSome) then passRead p' t
    else t

/-- R62: volume 1's pass is to be abandoned at its next block boundary. -/
def passLeaving (s : State) : Bool :=
  match s.pass with
  | some p => decide ((s.vol p.volume).state = .leaving)
  | none => false

/-- R62: a block boundary abandons a pass of a leaving cartridge. -/
def passBoundary (s : State) : State := if passLeaving s then volAbandon .mediumLeaving s else s

/-- R57, R61: the answers to VOL's load. -/
def passLoaded (s : State) : State :=
  match s.pass with
  | some p => if p.phase = .load then passSeek s else s
  | none => s

/-- R58, R61: the answers to VOL's seek. -/
def passSeekAnswer (x : SeekAnswer) (s : State) : State :=
  match s.pass with
  | some p =>
    if p.phase = .seek then
      match x with
      | .arrived => s.setPassPhase .read
      | .seekError => volAbandon .seekError s
      | .positionLost | .aborted => volAbandon .positionLost s
    else s
  | none => s

/-- R57: the heads enter FOLLOWING; a refusal with BUSY is retried. Heads that leave under a header read
with no cause reported end it as an unexplained ABORTED does (R61, log 17). -/
def passHead (now : HeadState) (s : State) : State :=
  match s.pass with
  | none => s
  | some p =>
    match now with
    | .following => if p.phase = .busy then passSeek s else s
    | .unloading | .retracting =>
      if p.phase = .busy ∨ p.phase = .read then volAbandon .positionLost s else s
    | .parked | .loading | .seeking | .settling | .reacquiring => s

/-- R18, R61: a spin fault while VOL waits for a load. -/
def passSpinFault (s : State) : State :=
  match s.pass with
  | some p => if p.phase = .load then volAbandon .spindleFault s else s
  | none => s

end Sys2Proof.Machine
end

