-- ==== Sys2Proof/Machine/Receiver.lean ====
section
/-! DEFINITION. The Receiver Controller (chapter 8): switches, holds, the eject sequence, the supply pause
and the lamp. -/

namespace Sys2Proof.Machine

/-! ## The lamp (R156) -/

/-- R156: the lamp by its table. DESIGN CHOICE (log 45): in DOOR OPEN it is FLASHING while the refusal indication runs,
by the table and R144, although a sentence of R152 and one of R156 have it OFF there. -/
def lampOf (s : State) : Lamp :=
  match s.rcv.stage with
  | .draining | .unloading | .stopping | .releasing => .flashing
  | .none | .doorOpen =>
    if s.rcv.refusal.isSome then .flashing
    else if s.rcv.latch = .locked ∧ s.rcv.presence = true ∧ s.spc.state ≠ .stopped then .on
    else .off

/-- R156: the lamp takes its value from the record and the spindle state. -/
def setLamp (s : State) : State := s.updRcv fun r => { r with lamp := lampOf s }

/-! ## The stages (8.4) -/

/-- R142: the conditions under which the latch may move. -/
def latchMayRelease (s : State) : Bool :=
  decide (s.spc.state = .stopped) && decide (s.act.head = .parked)

/-- R151, R152: the entry to RELEASING. -/
def rcvEnterReleasing (s : State) : State :=
  if latchMayRelease s then
    if s.rcv.purpose = some .doorOpen then
      s.updRcv fun r => { r with stage := .doorOpen, latch := .released, window := some 30000000 }
    else
      s.updRcv fun r => { r with stage := .releasing, latch := .released, ejector := true,
                                 removalTimer := some 2000000 }
  else (s.updRcv fun r => { r with stage := .unloading }).send .enterUnloading

/-- R150: the cause RCV's stop carries. -/
def rcvStopCause (r : Rcv) : StopCause := if r.purpose = some .doorOpen then .door else .eject

/-- R150: the entry to STOPPING. A refusal returns to UNLOADING, with the heads off the ramp (R149). -/
def rcvEnterStopping (s : State) : State :=
  match spcStop .rcv (rcvStopCause s.rcv) (s.updRcv fun r => { r with stage := .stopping }) with
  | (t, .stoppedAtOnce) => rcvEnterReleasing t
  | (t, .stoppedLater) => t
  | (t, .refusedHeadsNotParked) => actUnload (t.updRcv fun r => { r with stage := .unloading })

/-- R149: the entry to UNLOADING. -/
def rcvEnterUnloading (s : State) : State :=
  let t := s.updRcv fun r => { r with stage := .unloading }
  if s.act.head = .parked then rcvEnterStopping t else actUnload t

/-- R147: an eject sequence starts. -/
def rcvStart (source : EjectSource) (s : State) : State :=
  (volLeave (s.updRcv fun r =>
    { r with stage := .draining, source := some source,
             purpose := some (if r.presence then .cartridgeOut else .doorOpen) })).send .ejectStarted

/-- R153: whether RCV asks for the spindle to turn again. -/
def restartWanted (s : State) : Bool :=
  !s.rcv.pause &&
    (s.chains.any (fun p => decide (p.2.state = .queued) && p.2.orders.any (·.kind.mediumAddressing)) ||
      decide (s.pwr.target = .active) || decide (s.pwr.target = .standby))

/-- R153: a sequence ends. -/
def rcvEnd (s : State) : State :=
  let t := s.updRcv fun r => { r with stage := .none, purpose := none, source := none }
  let t := if restartWanted t then (spcStart .rcv t).1 else t
  t.send .sequenceEnded

/-- The latch locks again, and the ejector and the sequence's timers rest (R142, R151, R152). -/
def rcvLock (s : State) : State :=
  s.updRcv fun r => { r with latch := .locked, removalTimer := none, window := none, ejector := false }

def rcvSource (s : State) : EjectSource := s.rcv.source.getD .host

/-- R151: the removal. -/
def rcvRemoval (s : State) : State :=
  rcvEnd (attend (.cartridgeRemoved (rcvSource s))
    ((volRemoved (rcvLock s)).updRcv fun r => { r with holds := 0 }))

/-- R151: the jam. -/
def rcvJam (s : State) : State := rcvEnd (attend (.ejectJammed (rcvSource s)) (volJammed (rcvLock s)))

/-- R152: the insertion. -/
def rcvInsertion (s : State) : State :=
  rcvEnd (attend (.cartridgeInserted (rcvSource s)) (volInserted (rcvLock s)))

/-- R152: the window ends with no insertion. -/
def rcvWindowEnd (s : State) : State := rcvEnd (volWindowEnded (rcvLock s))

/-! ## The presence switch (R141, R151, R152) -/

/-- R151, R152: what the change of the switch does once the removal timer or the window has expired with
the debounce running; the same with no debounce running, where the latch waits for that change (log 43). -/
def rcvSwitchDue (closed : Bool) (s : State) : State :=
  if s.rcv.latch = .released then
    if closed = true ∧ s.rcv.stage = .releasing ∧ s.rcv.removalTimer = none then rcvJam s
    else if closed = false ∧ s.rcv.stage = .doorOpen ∧ s.rcv.window = none then rcvWindowEnd s
    else s
  else s

/-- R141: the presence switch takes a position; a change starts the debounce, and a change back cancels
it. -/
def rcvPresenceSwitch (was closed : Bool) (s : State) : State :=
  if was = closed then s
  else
    rcvSwitchDue closed (s.updRcv fun r =>
      { r with presenceDebounce := if r.firstReport = true ∧ closed = r.presence then none else some 250000 })

/-- R141: a debounced change of the presence. -/
def rcvPresenceChange (present : Bool) (s : State) : State :=
  let t := s.updRcv fun r => { r with presence := present }
  if present = false ∧ s.rcv.stage = .releasing then rcvRemoval t
  else if present = true ∧ s.rcv.stage = .doorOpen then rcvInsertion t
  else t

/-- R141: the switch has held its position for 250 ms. -/
def rcvPresenceDebounced (s : State) : State :=
  if s.rcv.presenceDebounce.isSome then
    let t := s.updRcv fun r => { r with presenceDebounce := none }
    if s.rcv.firstReport = false then
      volFirstReport s.pins.presenceClosed
        (t.updRcv fun r => { r with presence := s.pins.presenceClosed, firstReport := true })
    else if s.pins.presenceClosed ≠ s.rcv.presence then rcvPresenceChange s.pins.presenceClosed t
    else t
  else s

/-- R151: the removal timer expires; over an open switch the latch stays RELEASED, whether or not a debounce runs
(log 43). -/
def rcvRemovalExpiry (s : State) : State :=
  if s.rcv.removalTimer.isSome then
    let t := s.updRcv fun r => { r with removalTimer := none }
    if s.rcv.stage = .releasing ∧ s.pins.presenceClosed = true then rcvJam t else t
  else s

/-- R152: the door-open window expires; over a closed switch the latch stays RELEASED, whether or not a debounce
runs (log 43). -/
def rcvWindowExpiry (s : State) : State :=
  if s.rcv.window.isSome then
    let t := s.updRcv fun r => { r with window := none }
    if s.rcv.stage = .doorOpen ∧ s.pins.presenceClosed = false then rcvWindowEnd t else t
  else s

/-! ## The button (R144, R145) -/

/-- R144: the button takes a position. -/
def rcvButtonSwitch (was pressed : Bool) (s : State) : State :=
  if was = pressed then s
  else s.updRcv fun r => { r with buttonDebounce := if pressed = r.button then none else some 40000 }

/-- R144: a button press. -/
def rcvPress (s : State) : State :=
  if s.rcv.firstReport = false then s
  else
    let t := s.updRcv fun r => { r with holdTimer := some 5000000 }
    if s.rcv.stage ≠ .none then t
    else if s.rcv.holds > 0 then
      attend (.ejectRefused s.rcv.holds) (t.updRcv fun r => { r with refusal := some 2000000 })
    else rcvStart .button t

/-- R144: the button has held its position for 40 ms. -/
def rcvButtonDebounced (s : State) : State :=
  if s.rcv.buttonDebounce.isSome then
    let t := s.updRcv fun r => { r with buttonDebounce := none, button := s.pins.buttonDown }
    if s.pins.buttonDown = s.rcv.button then t
    else if s.pins.buttonDown then rcvPress t
    else t.updRcv fun r => { r with holdTimer := none }
  else s

/-- R145: the hold timer expires. -/
def rcvHoldExpiry (s : State) : State :=
  if s.rcv.holdTimer.isSome then
    let t := s.updRcv fun r => { r with holdTimer := none }
    if s.rcv.stage ≠ .none then t
    else if s.rcv.holds > 0 then rcvStart .override (t.updRcv fun r => { r with holds := 0 })
    else rcvStart .button t
  else s

/-- R144: the refusal indication expires. -/
def rcvRefusalExpiry (s : State) : State := s.updRcv fun r => { r with refusal := none }

/-! ## The EJECT order and the holds (R114, R146) -/

/-- R146: the EJECT order of a chain reaches RCV. -/
def rcvEject (tag : Nat) (s : State) : State × EjectAnswer :=
  if s.rcv.firstReport = false then (s.updRcv fun r => { r with heldEject := some tag }, .held)
  else
    let t := s.updRcv fun r => { r with heldEject := none }
    if s.rcv.holds > 0 then (t, .refused)
    else if s.rcv.stage = .none then (rcvStart .host t, .started)
    else (t, .joined)

/-- R114, R143: HOLD MEDIUM. -/
def rcvHold (s : State) : State × EndCode :=
  match s.vol1.state with
  | .empty => (s, .noMedium)
  | .leaving => (s, .mediumLeaving)
  | _ =>
    if s.rcv.holds ≥ 15 then (s, .holdLimit)
    else (s.updRcv fun r => { r with holds := r.holds + 1 }, .clean)

/-- R114, R143: RELEASE MEDIUM. -/
def rcvRelease (s : State) : State := s.updRcv fun r => { r with holds := r.holds - 1 }

/-! ## The supply pause (R154) -/

/-- R154: the supply fault. -/
def rcvSupplyFault (s : State) : State :=
  let t := s.updRcv fun r => { r with pause := true }
  match s.rcv.stage with
  | .releasing | .doorOpen => rcvLock t
  | .none | .draining | .unloading | .stopping => t

/-- R154: the recovery; the stage held is entered again (DRAINING is tested by R148 in the same event). -/
def rcvSupplyRecovery (s : State) : State :=
  let t := s.updRcv fun r => { r with pause := false }
  match s.rcv.stage with
  | .none | .draining => t
  | .unloading => rcvEnterUnloading t
  | .stopping => rcvEnterStopping t
  | .releasing | .doorOpen => rcvEnterReleasing t

/-! ## Reports to RCV -/

/-- R149: the heads are PARKED. -/
def rcvParked (s : State) : State :=
  if s.rcv.stage = .unloading ∧ s.rcv.pause = false then rcvEnterStopping s else s

/-- R150: STOPPED is answered. -/
def rcvStopped (s : State) : State :=
  if s.rcv.stage = .stopping ∧ s.rcv.pause = false then rcvEnterReleasing s else s

/-- R149: UNLOADING is entered again. -/
def rcvReenter (s : State) : State :=
  if s.rcv.stage = .unloading ∧ s.rcv.pause = false then rcvEnterUnloading s else s

end Sys2Proof.Machine
end

