-- ==== Sys2Proof/Machine/Power.lean ====
section
/-! DEFINITION. The Power Manager (chapter 9): power states, moves down and up, idle limits, SET POWER and
the supply monitor. -/

namespace Sys2Proof.Machine

/-! ## The power state (9.1, R168) -/

/-- R159, R168: the power state becomes `p`; a SET POWER that waits for it is answered REACHED. -/
def pwrSetState (p : PowerState) (s : State) : State :=
  if s.pwr.state = p then s
  else
    let t := attend (.powerState p s.pwr.state) (s.updPwr fun w => { w with state := p })
    if s.pwr.setWait = some p then (t.updPwr fun w => { w with setWait := none }).send .reached else t

/-- R161: the power state becomes the target; an entry to DORMANT drops both contexts. -/
def pwrAtTarget (s : State) : State :=
  let t := pwrSetState s.pwr.target (s.updPwr fun w => { w with progress := .none, descent := none })
  if s.pwr.target = .dormant ∧ s.pwr.state ≠ .dormant then volDormant t else t

/-! ## Moving down (9.2) -/

/-- R161: the stop step. A stop with no descent cause left carries IDLE (log 42). -/
def pwrStopStep (s : State) : State :=
  match spcStop .pwr (s.pwr.descent.getD .idle) s with
  | (t, .stoppedAtOnce) => pwrAtTarget t
  | (t, .stoppedLater) => t.updPwr fun w => { w with progress := .waitStopped }
  | (t, .refusedHeadsNotParked) => t.updPwr fun w => { w with progress := .waitParked }

/-- R160: the unload step is passed. -/
def pwrParkedStep (s : State) : State :=
  match s.pwr.target with
  | .standby => pwrAtTarget s
  | .sleep | .dormant => pwrStopStep s
  | .active | .faultHold => s.updPwr fun w => { w with progress := .none }

/-- R160: the target is set to a level below. The unload itself is sent when R160 lets it (`unloadDue`). -/
def pwrMoveDown (level : PowerState) (cause : StopCause) (s : State) : State :=
  let t := s.updPwr fun w => { w with target := level, descent := some cause }
  if s.act.head = .parked then pwrParkedStep t else t.updPwr fun w => { w with progress := .waitParked }

/-- R160: PWR has an unload to send. -/
def unloadDue (s : State) : Bool :=
  decide (s.pwr.progress = .waitParked) && s.pwr.target.below s.pwr.state && s.act.head.loaded

/-! ## Moving up (9.3) -/

/-- R162: a wake. -/
def pwrWake (s : State) : State :=
  if s.pwr.state = .faultHold then s
  else
    (spcStart .pwr (s.updPwr fun w =>
      { w with target := .active, descent := none,
               progress := if w.state = .active then .none else .waitSpin })).1

/-- R163: the heads enter LOADING. -/
def pwrLoading (s : State) : State :=
  let t := s.updPwr fun w => { w with target := .active, progress := .none, descent := none }
  match s.pwr.state with
  | .standby | .sleep | .dormant => pwrSetState .active t
  | .active | .faultHold => t

/-- R160: the heads are PARKED. -/
def pwrParked (s : State) : State := if s.pwr.progress = .waitParked then pwrParkedStep s else s

/-- R163: the spindle enters LOCKED. -/
def pwrLocked (s : State) : State :=
  if s.pwr.target = .standby ∧ (s.pwr.state = .sleep ∨ s.pwr.state = .dormant) then
    pwrSetState .standby (s.updPwr fun w => { w with progress := .none })
  else if s.pwr.target = .active ∧ s.pwr.progress = .waitSpin ∧
      (s.pwr.state = .standby ∨ s.pwr.state = .sleep ∨ s.pwr.state = .dormant) then
    pwrSetState .active (s.updPwr fun w => { w with progress := .none })
  else s

/-- R164: the position is lost. -/
def pwrPositionLost (s : State) : State :=
  if s.pwr.target = .active ∧ s.pwr.state ≠ .faultHold then
    s.updPwr fun w => { w with target := .standby, descent := some .idle, progress := .waitParked }
  else s

/-- R164: what a spin fault makes of a power state or a target. -/
def PowerState.atSpinFault (p : PowerState) : PowerState := if p = .active ∨ p = .standby then .sleep else p

/-- R161, R164: the power state at a spin fault: from DORMANT it becomes SLEEP at once where the target does. -/
def Pwr.atSpinFault (w : Pwr) : PowerState :=
  if w.state = .dormant then w.target.atSpinFault else w.state.atSpinFault

/-- R164: the spindle enters SPIN FAULT. -/
def pwrSpinFault (s : State) : State :=
  if s.pwr.state = .faultHold then s
  else
    pwrSetState s.pwr.atSpinFault (s.updPwr fun w =>
      { w with target := w.target.atSpinFault,
               progress := if w.progress = .waitSpin then .none else w.progress,
               descent := if w.target.atSpinFault.below w.atSpinFault then w.descent else none })

/-- The reports of SPC's state to PWR (R163, R164). -/
def pwrSpindle (st : SpindleState) (s : State) : State :=
  match st with
  | .locked => pwrLocked s
  | .spinFault => pwrSpinFault s
  | .stopped | .accelerating | .locking | .braking => s

/-- R161, R170: PWR is answered STOPPED. -/
def pwrStopped (s : State) : State :=
  if s.pwr.progress = .waitStopped then
    if s.pwr.state = .faultHold then s.updPwr fun w => { w with progress := .none } else pwrAtTarget s
  else s

/-! ## Idle counter and limits (9.4) -/

/-- R165: the idle counter is set to 0. -/
def pwrIdleReset (s : State) : State := s.updPwr fun w => { w with idle := 0 }

/-- R166: the lowest level named by a limit that matches. -/
def limitLevel (w : Pwr) : Option PowerState :=
  let matching := fun (l : Nat) => decide (l ≠ 0) && decide (l = w.idle)
  if matching w.dormant = true ∧ (w.state = .active ∨ w.state = .standby ∨ w.state = .sleep) then some .dormant
  else if matching w.sleep = true ∧ (w.state = .active ∨ w.state = .standby) then some .sleep
  else if matching w.standby = true ∧ w.state = .active then some .standby
  else none

/-- R166: the limits are compared with the counter. -/
def pwrCompare (s : State) : State :=
  match limitLevel s.pwr with
  | some l => if l.below s.pwr.target then pwrMoveDown l .idle s else s
  | none => s

/-- R165: every chain slot is FREE or ENDED. -/
def tableIdle (s : State) : Bool := s.chains.all fun p => decide (p.2.state = .ended)

/-- R165: a tick that raises the idle counter. -/
def Pwr.count (w : Pwr) : Pwr := { w with idle := w.idle + 1 }

/-- R165: the table lets the counter grow, and it has not saturated. -/
def pwrCounts (s : State) : Bool := tableIdle s && decide (s.pwr.idle < 65535)

/-- R165, R166: the 1 s tick. -/
def pwrTick (s : State) : State := if pwrCounts s then pwrCompare (s.updPwr Pwr.count) else s

/-- R166: the 1 s tick that raises the counter to a matching limit; with no limit to match there it is no such
tick, and nothing happens (log 4). -/
def pwrLimitTick (s : State) : State := if (limitLevel s.pwr.count).isSome then pwrTick s else s

/-- R167: a value is clamped into its range; 0 is off. -/
def clampLimit (low high n : Nat) : Nat := if n = 0 then 0 else max low (min high n)

/-- R167: the limits of a SETTINGS frame. -/
def pwrLimits (standby sleep dormant : Nat) (s : State) : State :=
  s.updPwr fun w =>
    { w with standby := clampLimit 10 7200 standby, sleep := clampLimit 30 14400 sleep,
             dormant := clampLimit 60 43200 dormant }

/-- R165, R167: a link reset. -/
def pwrLinkReset (s : State) : State :=
  s.updPwr fun w => { w with standby := 300, sleep := 1800, dormant := 0, idle := 0 }

/-! ## SET POWER (9.5) -/

/-- R168: a SET POWER order's target; true where it is REACHED at once. -/
def pwrSetPower (t : PowerState) (s : State) : State × Bool :=
  if s.pwr.state = t then
    (s.updPwr fun w => { w with target := t, progress := .none, descent := none }, true)
  else
    let u := s.updPwr fun w => { w with setWait := some t }
    match s.pwr.state with
    | .faultHold => (u, false)
    | .active | .standby | .sleep | .dormant =>
      if t.below s.pwr.state then (pwrMoveDown t .hostOrder u, false)
      else if t = .active then (pwrWake u, false)
      else if t = .sleep then
        (pwrAtTarget (u.updPwr fun w => { w with target := .sleep }), false)
      else
        ((spcStart .pwr (u.updPwr fun w =>
          { w with target := .standby, descent := none, progress := .waitSpin })).1, false)

/-! ## The supply monitor (9.6) -/

/-- R170: a supply fault; what VOL, CHE, RCV and NTU do of it follows from the report. -/
def pwrSupplyFault (s : State) : State :=
  let t := s.updPwr fun w =>
    { w with supply := .fault, beforeFault := some w.state, state := .faultHold, target := .sleep,
             progress := .waitStopped, descent := none, setWait := none }
  match spcStop .pwr .supply (actRetract (t.send .supplyFault)) with
  | (u, .stoppedAtOnce) => u.updPwr fun w => { w with progress := .none }
  | (u, .stoppedLater) => u
  | (u, .refusedHeadsNotParked) => u

/-- R169: a fall below 10.8 V. -/
def pwrFall (s : State) : State :=
  match s.pwr.supply with
  | .good => pwrSupplyFault s
  | .fault => s
  | .holdOff => s.updPwr fun w => { w with supply := .fault, holdOff := none }

/-- R169: a rise above 11.4 V. -/
def pwrRise (s : State) : State :=
  match s.pwr.supply with
  | .fault => s.updPwr fun w => { w with supply := .holdOff, holdOff := some 1000000 }
  | .good | .holdOff => s

/-- R171: a supply recovery. -/
def pwrRecovery (s : State) : State :=
  let before := s.pwr.beforeFault.getD .sleep
  let t := s.updPwr fun w =>
    { w with supply := .good, holdOff := none, state := .sleep, target := .sleep, beforeFault := none,
             idle := 0 }
  attend (.powerState .sleep s.pwr.state) (attend (.supplyRecovered before) (rcvSupplyRecovery t))

/-- R169: the hold-off timer expires. -/
def pwrHoldOffExpiry (s : State) : State :=
  if s.pwr.supply = .holdOff ∧ s.pwr.holdOff.isSome = true then pwrRecovery s else s

end Sys2Proof.Machine
end

