-- ==== Sys2Proof/Machine/Buffer.lean ====
section
/-! DEFINITION. The Block Buffer (chapter 7): slots, the delivery queue, wants and their records. -/

namespace Sys2Proof.Machine

/-! ## Slots (R129) -/

def BlockSlot.isFree : BlockSlot → Bool
  | .free => true
  | _ => false

/-- R136: what a chain's end frees. -/
def BlockSlot.heldFor (tag : Nat) : BlockSlot → Bool
  | .reserved t _ _ => t == tag
  | .filledWrite t _ _ _ => t == tag
  | _ => false

/-- A slot that holds, or waits for, the write data of one sequence of a stream. -/
def BlockSlot.carries (tag sequence : Nat) : BlockSlot → Bool
  | .reserved t q .write => t == tag && q == sequence
  | .filledWrite t q _ _ => t == tag && q == sequence
  | _ => false

def BlockSlot.awaits (tag sequence : Nat) : BlockSlot → Bool
  | .reserved t q .write => t == tag && q == sequence
  | _ => false

/-- The slot reserved for a read block. -/
def BlockSlot.readFor (tag sequence : Nat) : BlockSlot → Bool
  | .reserved t q .read => t == tag && q == sequence
  | _ => false

/-- The write data a slot holds for one sequence of a stream. -/
def BlockSlot.writeData (tag sequence : Nat) : BlockSlot → Option (List Byte)
  | .filledWrite t q _ d => if t == tag && q == sequence then some d else none
  | _ => none

def State.setBlockSlot (i : Nat) (b : BlockSlot) (s : State) : State :=
  s.updBbf fun e => { e with slots := e.slots.set i b }

/-- R129: the lowest-numbered FREE slot. -/
def freeSlot (s : State) : Option Nat := s.bbf.slots.findIdx? (·.isFree)

def hasFreeSlot (s : State) : Bool := s.bbf.slots.any (·.isFree)

/-! ## Reading (R130, R131) -/

/-- R130: a slot for a read block, if it has one or one is FREE. -/
def reserveRead (tag sequence : Nat) (s : State) : Option State :=
  if s.bbf.slots.any (BlockSlot.readFor tag sequence) then some s
  else (freeSlot s).map fun i => s.setBlockSlot i (.reserved tag sequence .read)

/-- R130: the block's slot becomes FILLED-READ and joins the delivery queue. -/
def fillRead (tag order sequence length : Nat) (check : Bool) (data : List Byte) (s : State) : State :=
  match s.bbf.slots.findIdx? (BlockSlot.readFor tag sequence) with
  | some i =>
    (s.setBlockSlot i (.filledRead tag order sequence length check ((pad512 data).take length))).updBbf
      fun e => { e with delivery := e.delivery ++ [i] }
  | none => s

/-- R131: the host has acknowledged the head slot's frame. -/
def slotDelivered (s : State) : State :=
  match s.bbf.delivery with
  | i :: rest =>
    if s.bbf.sendingSlot then
      (s.setBlockSlot i .free).updBbf fun e => { e with delivery := rest, sendingSlot := false }
    else s
  | [] => s

/-! ## Writing (R132 to R135) -/

/-- R132: the sequences of a run still needed, from the next to be written on. -/
def neededSequences (c : Chain) (s : State) : List Nat :=
  ((List.range (runBlocks c.run)).drop c.sequence).filter
    fun q => !s.bbf.slots.any (BlockSlot.carries c.tag q)

/-- R132: FREE slots, lowest first, are reserved for needed sequences, lowest first. -/
def reserveEach (tag : Nat) : List Nat → State → State
  | [], s => s
  | q :: qs, s =>
    match freeSlot s with
    | some i => reserveEach tag qs (s.setBlockSlot i (.reserved tag q .write))
    | none => s

/-- R132: the reservations of one event form one want, with its record and 5 s timer. -/
def reserveWrite (c : Chain) (s : State) : State :=
  let free := (s.bbf.slots.filter (·.isFree)).length
  let qs := (neededSequences c s).take free
  match qs with
  | [] => s
  | first :: _ =>
    (reserveEach c.tag qs s).updBbf fun e =>
      { e with wants := e.wants ++ [{ tag := c.tag, first := first, number := qs.length, sending := false }],
               records := e.records ++
                 [{ tag := c.tag, first := first, number := qs.length, timer := some 5000000 }] }

/-- R133: a want record is removed when none of its slots is RESERVED. -/
def WantRecord.open (slots : List BlockSlot) (w : WantRecord) : Bool :=
  (List.range w.number).any fun k => slots.any (BlockSlot.awaits w.tag (w.first + k))

/-- R133: the slot of a sequence takes its data. -/
def fillWrite (tag sequence : Nat) (data : List Byte) (s : State) : State :=
  match s.bbf.slots.findIdx? (BlockSlot.awaits tag sequence) with
  | some i =>
    (s.setBlockSlot i (.filledWrite tag sequence data.length data)).updBbf fun e =>
      { e with records := e.records.filter fun w => w.open e.slots }
  | none => s

/-- R126: a kept write frees the block's slot. -/
def freeWritten (tag sequence : Nat) (s : State) : State :=
  match s.bbf.slots.findIdx? (BlockSlot.carries tag sequence) with
  | some i => s.setBlockSlot i .free
  | none => s

/-- R132: the host has acknowledged the head want's frame. -/
def wantDelivered (s : State) : State :=
  match s.bbf.wants with
  | w :: rest => if w.sending then s.updBbf fun e => { e with wants := rest } else s
  | [] => s

/-! ## Ends and resets (R129, R136) -/

/-- R136: BBF at a chain's end. -/
def bbfChainEnd (tag : Nat) (s : State) : State :=
  s.updBbf fun e =>
    { e with slots := e.slots.map fun b => if b.heldFor tag then .free else b,
             wants := e.wants.filter fun w => w.tag != tag,
             records := e.records.filter fun w => w.tag != tag }

/-- R129: BBF at a link reset. -/
def bbfReset (s : State) : State := s.updBbf fun _ => Reset.bbf

end Sys2Proof.Machine
end

