-- ==== Sys2Proof/Machine/Jobs.lean ====
section
/-! DEFINITION. The order that holds the mechanism: how it ends, how it seeks, and which events it waits
for. -/

namespace Sys2Proof.Machine

/-! ## The order and its chain -/

/-- The chain of the order that holds the mechanism; none once a link reset has removed it. -/
def jobChain (j : Job) (s : State) : Option Chain := j.chain.bind fun i => s.chainAt i

def Job.vol (j : Job) : Vol := Vol.ofByte j.order.volume

/-- A cancel has been taken for the order's chain (R113). -/
def jobCancelled (j : Job) (s : State) : Bool := (jobChain j s).any (·.cancel)

/-- R84: a table-changing order past its first write carries out all its work. -/
def Job.pastFirstWrite (j : Job) : Bool := j.order.kind.tableChanging && j.firstWrite

/-- R113, R120: at its stopping points the order stops for a cancel taken or a chain removed. -/
def jobStops (j : Job) (s : State) : Bool :=
  !j.pastFirstWrite && (jobCancelled j s || j.chain.isNone)

/-- The chain of the order, updated. -/
def updJobChain (j : Job) (f : Chain → Chain) (s : State) : State :=
  match j.chain with
  | some i => s.updChain i f
  | none => s

/-- R111: the block field of a fault location of the order. -/
def Job.faultBlock (j : Job) : Nat :=
  match j.order.kind with
  | .read | .write | .verify => j.order.block + j.blk
  | .formatTrack => 31 * j.order.track
  | .initializeVolume => 0
  | _ => j.order.block

/-- R111: the place last sought or transferred by the order; R95: that of ASSIGN ALTERNATE is the place last
written or read, once there is one (log 20). -/
def Job.faultPlace (j : Job) : Option Place :=
  if j.order.kind = .assignAlternate ∧ j.transferred.isSome = true then j.transferred else j.placed

/-- R111: the fault location of the order. -/
def Job.location (j : Job) : Option FaultLocation :=
  j.faultPlace.map fun p =>
    { volume := j.order.volume, block := j.faultBlock, cylinder := p.cylinder, comb := p.comb, slot := p.slot }

/-- The order that holds the mechanism ends (R109 takes it). -/
def jobEnd (code : EndCode) (s : State) : State :=
  match s.che.job with
  | some j => if j.phase = .ending then s else (s.updJob fun j => { j with phase := .ending }).send (.orderEnd code)
  | none => s

/-- What is left behind where an event of R81 or R88 ends a table-changing order (R81, R88, R90, R95). -/
def jobLeaves (j : Job) (s : State) : State :=
  let stale := s.updVol j.vol fun c => { c with stale := true }
  match j.task with
  | .header _ | .altTrack _ => stale
  | .altWrite _ | .altVerify _ => if j.changed then stale else s
  | .none | .block | .seekOnly | .format | .altRead => s

/-- An event ends the order with its end code (R81, R108). -/
def jobFault (code : EndCode) (s : State) : State :=
  match s.che.job with
  | some j => if j.phase = .ending then s else jobEnd code (jobLeaves j s)
  | none => s

/-- R113, R120: the order stops at a stopping point. -/
def jobStop (s : State) : State := jobEnd .cancelled s

def setPhase (p : Phase) (s : State) : State := s.updJob fun j => { j with phase := p }

/-! ## Seeking -/

/-- R34, R106: the order asks ACT for a seek. -/
def askSeek (t : Target) (s : State) : State :=
  match actSeek .che t s with
  | (u, .taken) => setPhase .seek u
  | (u, .held) => setPhase .seek u
  | (u, .busy) => setPhase .busy u
  | (u, .notLoaded) => jobFault .positionLost u

/-- R77: the order goes to a place, with a seek if one is needed. -/
def goTo (t : Target) (s : State) : State :=
  if seekNeeded s.act t then askSeek t s else setPhase .ready s

/-- The place a task transfers at, but for its slot. -/
def Job.target (j : Job) : Target :=
  let v := j.order.volume
  match j.task with
  | .header _ => { cylinder := 0, comb := 2 * v }
  | .altTrack h => { cylinder := 1, comb := 2 * v + h }
  | .format => formatTarget v j.order.track
  | .altWrite a | .altVerify a =>
    { cylinder := (alternatePlace v a).cylinder, comb := (alternatePlace v a).comb }
  | .block | .seekOnly | .altRead | .none =>
    match j.placement with
    | some p => { cylinder := p.cylinder, comb := p.comb }
    | none => { cylinder := 0, comb := 2 * v }

/-- The slot a task sought is to begin at: that of a placed block or alternate slot, otherwise 0 (log 20). -/
def Job.firstSlot (j : Job) : Nat :=
  match j.task with
  | .altWrite a | .altVerify a => a % 32
  | .block | .seekOnly | .altRead => (j.placement.map (·.slot)).getD 0
  | .header _ | .altTrack _ | .format | .none => 0

/-- R111: the order places a block or takes up a fixed place. DESIGN CHOICE (log 20): that place is the order's from
here on, also where no seek is needed and its transfer has not begun. -/
def jobPlaced (s : State) : State :=
  s.updJob fun j =>
    { j with placed := some { cylinder := j.target.cylinder, comb := j.target.comb, slot := j.firstSlot } }

/-- The order takes up a task and goes where it transfers. -/
def takeUp (f : Job → Job) (s : State) : State :=
  let t := jobPlaced (s.updJob f)
  match t.che.job with
  | some j => goTo j.target t
  | none => t

/-- R71, R76: PLU's placement of one block of the order's volume, with the tables in force. -/
def placeBlock (j : Job) (block : Nat) (s : State) : Option Placement :=
  let c := s.vol j.vol
  translate c.slipsInForce c.altsInForce j.order.volume block

/-- R122: the block whose turn has come is placed and reached. -/
def nextBlock (s : State) : State :=
  match s.che.job with
  | none => s
  | some j =>
    takeUp (fun j' => { j' with task := .block, placement := placeBlock j (j.order.block + j.blk) s,
                                tries := 0, phase := .ready }) s

/-! ## Answers to the order -/

/-- The seek of the order is answered (R108, R113); a timeout that has come due does not end the order here
(log 40). -/
def jobSeekAnswer (x : SeekAnswer) (s : State) : State :=
  match s.che.job with
  | none => s
  | some j =>
    if j.phase = .seek then
      match x with
      | .arrived =>
        if jobCancelled j s = true ∧ j.pastFirstWrite = false then jobStop s
        else if j.task = .seekOnly then jobEnd .clean s
        else setPhase .ready s
      | .seekError => jobFault .seekError s
      | .positionLost | .aborted => jobFault .positionLost s
    else s

/-- A change of head state (R106): a BUSY refusal is asked again at the entry to FOLLOWING. An unload does
not end the order (R30); an order between two transfers that meets newly loaded heads makes the test of R77
again (log 17). -/
def jobHead (was now : HeadState) (s : State) : State :=
  match s.che.job with
  | none => s
  | some j =>
    match now with
    | .following =>
      if j.phase = .busy then askSeek j.target s
      else if was = .loading ∧ j.phase = .ready ∧ seekNeeded s.act j.target = true then askSeek j.target s
      else s
    | .unloading | .retracting | .parked | .loading | .seeking | .settling | .reacquiring => s

/-- R18, R106, R116: a spin fault while the order waits for the spindle or a load. -/
def jobSpinFault (s : State) : State :=
  match s.che.job with
  | some j => if j.phase = .load ∨ j.phase = .power then jobEnd .spindleFault s else s
  | none => s

/-- R29, R106, R116: LOAD FAILED. -/
def jobLoadFailed (s : State) : State :=
  match s.che.job with
  | some j => if j.phase = .load ∨ j.phase = .power then jobEnd .positionLost s else s
  | none => s

/-- R61, R107: the pass the order lent the mechanism to was abandoned. -/
def jobPassAbandoned (code : EndCode) (s : State) : State :=
  match s.che.job with
  | some j => if j.phase = .mount then jobEnd code s else s
  | none => s

/-- R168: PWR answers REACHED. -/
def jobReached (s : State) : State :=
  match s.che.job with
  | some j => if j.phase = .power then jobEnd .clean s else s
  | none => s

/-- R135: a want's timer expires. -/
def wantExpired (tag first : Nat) (s : State) : State :=
  if s.bbf.records.any (fun w => w.tag == tag && w.first == first && w.timer.isSome) then
    let t := s.updBbf fun e => { e with records := e.records.map fun w =>
      (if w.tag == tag && w.first == first then { w with timer := none } else w) }
    match s.che.job with
    | some j =>
      if j.tag = tag ∧ j.chain.isSome = true then
        if j.phase = .under then t.updJob fun j => { j with due := some .dataTimeout }
        else jobEnd .dataTimeout t
      else t
    | none => t
  else s

end Sys2Proof.Machine
end

