-- ==== Sys2Proof/Machine/Tables.lean ====
section
/-! DEFINITION. Defect tables and formatting (chapter 5): header writes, INITIALIZE VOLUME, FORMAT TRACK
and ASSIGN ALTERNATE. -/

namespace Sys2Proof.Machine

/-! ## Slot identities written (R79, R90) -/

def zeros512 : List Byte := List.replicate 512 0

/-- R90: the mark of a slot of a formatted track. -/
def formatMark (slip : Option Nat) (slot : Nat) : Mark :=
  match slip with
  | some p => if slot < p then .data slot else if slot = p then .bad else .data (slot - 1)
  | none => if slot = 31 then .spare else .data slot

/-- R79: the identity a task gives a slot it writes or expects of one it reads. -/
def Job.identity (j : Job) (slot : Nat) : Option Identity :=
  let t := j.target
  let at_ := fun (m : Mark) =>
    some { cylinder := t.cylinder, volumeHead := t.comb - 2 * j.order.volume, slot := slot, mark := m : Identity }
  match j.task with
  | .block | .altRead => j.placement.map (·.identity)
  | .header _ => at_ (.header slot)
  | .altTrack h => at_ (.alternate (32 * h + slot))
  | .format => at_ (formatMark j.order.slip slot)
  | .altWrite a | .altVerify a => at_ (.alternate a)
  | .none | .seekOnly => none

/-- The slots a task of `n` slots still has to write. -/
def todoAll (n : Nat) : List Todo := (List.range n).map fun k => { slot := k, rewrites := 0 }

/-! ## Header writes (R80 to R82) -/

/-- R85: the label INITIALIZE VOLUME gives. -/
def freshLabel (c : VolCtx) (serial : Nat) : Label :=
  { formatCount := match c.label with
      | some l => growGeneration l.formatCount
      | none => 1
    serial := serial }

/-- R80, R85: the header a header write writes. -/
def headerOf (use : HeaderUse) (j : Job) (c : VolCtx) : Label × List Byte :=
  match use with
  | .fresh =>
    let l := freshLabel c j.order.serial
    (l, headerBytes l [] (List.replicate 64 .free))
  | .stale | .own _ _ | .retirements =>
    let l := c.label.getD { formatCount := 0, serial := 0 }
    (l, headerBytes l c.slips c.alts)

/-- R80: a header write begins; it asks for its seek in any case (R77). -/
def beginHeader (use : HeaderUse) (s : State) : State :=
  match s.che.job with
  | none => s
  | some j =>
    let h := headerOf use j (s.vol j.vol)
    let t := jobPlaced (s.updJob fun j =>
      { j with task := .header use, todo := todoAll 4, firstWrite := true, header := h.2,
               newLabel := if use = .fresh then some h.1 else j.newLabel })
    askSeek { cylinder := 0, comb := 2 * j.order.volume } t

/-- R82, R91, R95: the order ends with a header write if it has changed the tables. -/
def writeThrough (changed : Bool) (ok bad : EndCode) (s : State) : State :=
  if changed then beginHeader (.own ok bad) s else jobEnd ok s

/-! ## FORMAT TRACK (5.5) -/

/-- R90: the track's slots are to be written. -/
def beginFormat (s : State) : State :=
  takeUp (fun j => { j with task := .format, todo := todoAll 32, tries := 0 }) s

/-- R67: a list with an entry for a track put at its place, in place of any the track has. -/
def insertSlip (e : Slip) : List Slip → List Slip
  | [] => [e]
  | f :: fs =>
    if e.track < f.track then e :: f :: fs
    else if e.track = f.track then e :: fs
    else f :: insertSlip e fs

/-- R91: the slip list after a FORMAT TRACK. -/
def formattedSlips (track : Nat) (slip : Option Nat) (slips : List Slip) : List Slip :=
  match slip with
  | some p => insertSlip { track := track, slot := p } slips
  | none => slips.filter fun e => e.track != track

/-- R91: all the track's slots have been written. -/
def formatDone (j : Job) (s : State) : State :=
  let old := (s.vol j.vol).slips
  let new := formattedSlips j.order.track j.order.slip old
  writeThrough (decide (new ≠ old)) .clean .headerFault (s.updVol j.vol fun c => { c with slips := new })

/-- R89: the list has no room for the track's entry. -/
def tableFull (o : Order) (slips : List Slip) : Bool :=
  o.slip.isSome && (findSlip slips o.track).isNone && decide (slips.length ≥ 128)

/-! ## ASSIGN ALTERNATE (5.6) -/

/-- R92: the read of the block's present content. -/
def beginAltRead (j : Job) (s : State) : State :=
  takeUp (fun j' => { j' with task := .altRead, placement := placeBlock j j.order.block s, tries := 0 }) s

/-- R93, R94: the lowest-indexed FREE slot is chosen and written, or none remains. -/
def chooseAlternate (s : State) : State :=
  match s.che.job with
  | none => s
  | some j =>
    match (s.vol j.vol).alts.findIdx? (· == .free) with
    | some a => takeUp (fun j => { j with task := .altWrite a, tries := 0 }) s
    | none => writeThrough j.changed .noAlternate .noAlternate s

/-- A change of one alternate slot. -/
def setAlternate (j : Job) (a : Nat) (x : Alt) (s : State) : State :=
  (s.updVol j.vol fun c => { c with alts := c.alts.set a x }).updJob fun j => { j with changed := true }

/-- R93: the read has ended: an old alternate is retired, and a slot is chosen. -/
def altReadDone (j : Job) (s : State) : State :=
  let t := s.updJob fun j => { j with firstWrite := true }
  chooseAlternate (match findAlternate (s.vol j.vol).alts j.order.block with
    | some a => setAlternate j a .retired t
    | none => t)

/-- R93: a write of the chosen slot, kept or abandoned. -/
def altWriteClosed (j : Job) (a : Nat) (kept : Bool) (s : State) : State :=
  if kept then takeUp (fun j => { j with task := .altVerify a, tries := 0 }) s
  else if j.tries < 2 then setPhase .ready (s.updJob fun j => { j with tries := j.tries + 1 })
  else writeThrough j.changed .writeFault .writeFault s

/-- R93, R94: the verify read, not off-track. -/
def altVerifyClosed (j : Job) (a : Nat) (seen : IdentitySeen) (out : ReadOutcome) (data : List Byte)
    (s : State) : State :=
  let unread := decide (seen = .notRead) || decide (seen = .unreadable)
  let final := if unread then .uncorrectable else out
  let t := s.updVol j.vol (VolCtx.report final 0)
  if final = .clean ∧ seen = .agrees ∧ data = s.copy then
    writeThrough true .clean .headerFault (setAlternate j a (.assigned j.order.block) t)
  else chooseAlternate (setAlternate j a .retired t)

/-! ## INITIALIZE VOLUME (5.4) -/

/-- R86: one of the alternate tracks is to be written. -/
def beginAltTrack (head : Nat) (s : State) : State :=
  takeUp (fun j => { j with task := .altTrack head, todo := todoAll 32 }) s

/-- R87: the context of a completed INITIALIZE VOLUME. -/
def VolCtx.initialize (v : Vol) (label : Option Label) (failed : List Nat) (c : VolCtx) : VolCtx :=
  { c with
    state := if c.state = .leaving then .leaving else .mounted,
    before := if c.state = .leaving then some .mounted else c.before,
    label := label, slips := [],
    alts := (List.range 64).map fun a => if failed.contains a then .retired else .free,
    generation := growGeneration c.generation,
    mountedSince := if v = .v1 then true else c.mountedSince }

/-- R87: the completion of INITIALIZE VOLUME. -/
def initDone (j : Job) (s : State) : State :=
  let t := s.updVol j.vol (VolCtx.initialize j.vol j.newLabel j.failed)
  let t := attend (.mediumMounted j.vol .mounted (t.vol j.vol).generation) t
  if j.failed = [] then jobEnd .clean t else beginHeader .retirements t

/-- R86, R87: an alternate track has been dealt with. -/
def altTrackDone (j : Job) (head : Nat) (s : State) : State :=
  if head = 0 then beginAltTrack 1 s else initDone j s

/-! ## The ends of header writes -/

/-- R80, R82, R85, R87, R91, R95: a header write has succeeded. -/
def headerWritten (j : Job) (use : HeaderUse) (s : State) : State :=
  let t := s.updVol j.vol fun c => { c with stale := false }
  match use with
  | .stale => if j.order.kind = .formatTrack then beginFormat t else beginAltRead j t
  | .own ok _ => jobEnd ok t
  | .fresh => beginAltTrack 0 t
  | .retirements => jobEnd .clean t

/-- R80, R82, R85, R87, R91, R95: a header write has failed with WRITE FAULT. -/
def headerFailed (j : Job) (use : HeaderUse) (s : State) : State :=
  let t := s.updVol j.vol fun c => { c with stale := true }
  match use with
  | .own _ bad => jobEnd bad t
  | .stale | .fresh | .retirements => jobEnd .headerFault t

/-! ## Writes of whole slots (R80, R86, R90) -/

/-- The slot is written, or given up. -/
def Job.finishSlot (slot : Nat) (j : Job) : Job := { j with todo := j.todo.filter fun d => d.slot != slot }

/-- The slot is to be written again. -/
def Job.againSlot (slot : Nat) (j : Job) : Job :=
  { j with todo := j.todo.map fun d => if d.slot = slot then { d with rewrites := d.rewrites + 1 } else d }

/-- The rewrites a slot has had. -/
def Job.rewrites (j : Job) (slot : Nat) : Nat :=
  ((j.todo.find? fun d => d.slot == slot).map (·.rewrites)).getD 0

/-- The task goes on with its other slots, or has done its last. -/
def slotFinished (j : Job) (s : State) : State :=
  if j.todo = [] then
    match j.task with
    | .header use => headerWritten j use s
    | .altTrack h => altTrackDone j h s
    | .format => formatDone j s
    | .none | .block | .seekOnly | .altRead | .altWrite _ | .altVerify _ => s
  else setPhase .ready s

/-- A slot whose third write is abandoned (R80, R86, R90). -/
def slotGivenUp (j : Job) (slot : Nat) (s : State) : State :=
  match j.task with
  | .header use => headerFailed j use s
  | .altTrack h =>
    let f := fun (j : Job) => { j.finishSlot slot with failed := j.failed ++ [32 * h + slot] }
    slotFinished (f j) (s.updJob f)
  | _ => jobEnd .writeFault s

/-- R80, R86, R90: a whole-slot write at its closing wedge, kept or abandoned. The BAD slot of FORMAT TRACK is done with
either way; abandoned at a boundary without a wedge number it is written again (`boundaryLost`, log 40). -/
def slotClosed (j : Job) (slot : Nat) (kept : Bool) (s : State) : State :=
  if kept = true ∨ (j.task = .format ∧ j.order.slip = some slot) then
    slotFinished (j.finishSlot slot) (s.updJob (Job.finishSlot slot))
  else if j.rewrites slot < 2 then setPhase .ready (s.updJob (Job.againSlot slot))
  else slotGivenUp j slot s

end Sys2Proof.Machine
end

