-- ==== Sys2Proof/Machine/Transfer.lean ====
section
/-! DEFINITION. The transfer of one block (7.1, and the slot writes and reads of chapters 3 and 5): what an
opening wedge starts, what a closing wedge takes, and what the channel's identity does between them. -/

namespace Sys2Proof.Machine

/-! ## Opening wedges (R122, R130, R134) -/

/-- A transfer starts under the order (R122, R127). A write whose gate is refused (R45) stays under way to its
closing wedge, with its identity read, and counts there (log 40). -/
def startXfer (j : Job) (kind : XferKind) (slot : Nat) (data : List Byte) (s : State) : State :=
  let t := match kind with
    | .read => s
    | .writeData | .writeSlot => openGate s
  let p : Place := { cylinder := j.target.cylinder, comb := j.target.comb, slot := slot }
  let first := decide (kind = .writeSlot)
  (t.setXfer (some { kind := kind, place := p, openError := s.act.error, gated := t.act.gate, seen := .notRead,
                     identity := j.identity slot, data := data })).updJob fun j =>
    { j with phase := .under, placed := some p, transferred := some p, firstWrite := j.firstWrite || first }

/-- R130, R134: the chain waits for a slot or for data. -/
def dataWait (j : Job) (s : State) : State :=
  setPhase .dataWait (updJobChain j (fun c => { c with state := .dataWait }) s)

/-- R130, R134: the wait has ended. -/
def dataReady (j : Job) (s : State) : State :=
  setPhase .ready (updJobChain j (fun c => { c with state := .active }) s)

/-- The opening wedge of a block of READ, WRITE or VERIFY. -/
def openBlock (j : Job) (slot : Nat) (s : State) : State :=
  match jobChain j s with
  | none => s
  | some c =>
    match j.order.kind with
    | .read =>
      match reserveRead c.tag c.sequence s with
      | some t => startXfer j .read slot [] t
      | none => dataWait j s
    | .write =>
      match s.bbf.slots.findSome? (BlockSlot.writeData c.tag c.sequence) with
      | some d => startXfer j .writeData slot (pad512 d) s
      | none => dataWait j s
    | _ => startXfer j .read slot [] s

/-- The data area a whole-slot write gives a slot (R79, R80). -/
def Job.slotData (j : Job) (slot : Nat) : List Byte :=
  match j.task with
  | .header _ => pad512 (j.header.drop (512 * slot))
  | _ => zeros512

/-- An opening wedge for the order that holds the mechanism. -/
def jobOpen (wedge : Nat) (s : State) : State :=
  match s.che.job with
  | none => s
  | some j =>
    if j.phase = .ready then
      match j.task with
      | .block => if (j.placement.map (·.slot)) = some wedge then openBlock j wedge s else s
      | .altRead => if (j.placement.map (·.slot)) = some wedge then startXfer j .read wedge [] s else s
      | .altWrite a => if a % 32 = wedge then startXfer j .writeSlot wedge s.copy s else s
      | .altVerify a => if a % 32 = wedge then startXfer j .read wedge [] s else s
      | .header _ | .altTrack _ | .format =>
        if j.todo.any (fun d => d.slot == wedge) then startXfer j .writeSlot wedge (j.slotData wedge) s else s
      | .none | .seekOnly => s
    else s

/-- R58: an opening wedge for a header read. -/
def passOpen (wedge : Nat) (p : Pass) (s : State) : State :=
  if p.phase = .read ∧ passWants p wedge = true then
    let comb := 2 * p.volume.toNat
    s.setXfer (some
      { kind := .read, place := { cylinder := 0, comb := comb, slot := wedge }, openError := s.act.error,
        gated := false, seen := .notRead,
        identity := some { cylinder := 0, volumeHead := 0, slot := wedge, mark := .header wedge }, data := [] })
  else s

/-- R44, R122: a wedge opens its slot, while the heads are FOLLOWING. -/
def openWedge (wedge : Nat) (s : State) : State :=
  if s.act.head = .following then
    match s.pass with
    | some p => passOpen wedge p s
    | none => jobOpen wedge s
  else s

/-! ## Closing wedges: blocks of READ, VERIFY and ASSIGN ALTERNATE (R124, R125, R128, R130) -/

/-- R125: the fault location of a block whose data could not be corrected. -/
def placementLocation (j : Job) : Option FaultLocation :=
  j.placement.map fun p =>
    { volume := p.volume, block := p.block, cylinder := p.cylinder, comb := p.comb, slot := p.slot }

/-- The flags a block's final outcome raises (R124, R125). -/
def Flags.raise (out : ReadOutcome) (f : Flags) : Flags :=
  { f with corrected := f.corrected || decide (out = .corrected),
           dataCheck := f.dataCheck || decide (out = .uncorrectable) }

/-- R138: the flag of a run that ends on a short block. -/
def Job.mismatch (j : Job) : Bool :=
  decide (j.order.count % 512 ≠ 0) && !j.order.flags.acceptShort && !j.order.flags.link

/-- The block's transfer has ended: the next block's turn comes, or the order ends (R113, R135, R138,
R139). -/
def blockEnded (s : State) : State :=
  match s.che.job with
  | none => s
  | some j =>
    let t := s.updJob fun j => { j with blk := j.blk + 1 }
    if jobStops j s then jobStop t
    else
      match j.due with
      | some code => jobEnd code t
      | none =>
        if j.blk + 1 ≥ j.order.blocks then
          jobEnd .clean (t.updJob fun j =>
            { j with flags := { j.flags with lengthMismatch := j.flags.lengthMismatch || j.mismatch } })
        else nextBlock t

/-- R128: the block's bytes are counted, and the stream moves on. -/
def countBlock (j : Job) (s : State) : State :=
  updJobChain j (fun c => { c with transferred := c.transferred + j.order.blockLength j.blk,
                                   sequence := c.sequence + 1 }) s

/-- R124, R125, R130: a block read has its final outcome. -/
def readDone (j : Job) (out : ReadOutcome) (data : List Byte) (s : State) : State :=
  match jobChain j s with
  | none => blockEnded s
  | some c =>
    let check := decide (out = .uncorrectable)
    let t := (s.updVol j.vol (VolCtx.report out j.tries)).updJob fun j => { j with flags := j.flags.raise out }
    let t := updJobChain j
      (fun c => { c with fault := if check = true ∧ c.fault = none then placementLocation j else c.fault }) t
    let t := if j.order.kind = .read then
        fillRead c.tag c.index c.sequence (j.order.blockLength j.blk) check data t
      else t
    blockEnded (countBlock j t)

/-- R84, R92: the read of ASSIGN ALTERNATE has its final outcome. An order whose chain a link reset has
removed before its first write stops with nothing counted; one past its stale retry goes on. -/
def altReadEnded (j : Job) (out : ReadOutcome) (data : List Byte) (s : State) : State :=
  if j.chain = none ∧ j.pastFirstWrite = false then jobStop s
  else
    let t := (s.updVol j.vol (VolCtx.report out j.tries)).updJob fun j => { j with flags := j.flags.raise out }
    let t := t.setCopy (if out = .uncorrectable then zeros512 else pad512 data)
    if jobStops j s then jobStop t else altReadDone j t

/-- R123, R124: a block read at its closing wedge. A wrong identity on the right cylinder goes before an
off-track report (log 40). -/
def readClosed (j : Job) (seen : IdentitySeen) (offTrack : Bool) (out : ReadOutcome) (data : List Byte)
    (s : State) : State :=
  let final := if seen = .notRead ∨ seen = .unreadable then .uncorrectable else out
  let done := if j.task = .altRead then altReadEnded j else readDone j
  if seen = .disagrees then jobEnd .seekError s
  else if offTrack = false ∧ final ≠ .uncorrectable then done final data s
  else if jobStops j s = true ∧ (j.tries < 3 ∨ j.chain = none) then jobStop s
  else if j.tries < 3 then setPhase .ready (s.updJob fun j => { j with tries := j.tries + 1 })
  else done .uncorrectable data s

/-! ## Closing wedges: blocks of WRITE (R126) -/

/-- R126: a WRITE block at its closing wedge, kept or abandoned. A wrong identity goes before a timeout that
has come due, and that timeout before the WRITE FAULT of a third abandoned attempt (log 40). A cancel ends the chain CANCELLED with
the location of a WRITE FAULT met at that wedge (R111, R113). -/
def writeClosed (j : Job) (seen : IdentitySeen) (kept : Bool) (s : State) : State :=
  if seen = .disagrees then jobEnd .seekError s
  else if kept then
    match jobChain j s with
    | some c => blockEnded (countBlock j (freeWritten c.tag c.sequence s))
    | none => jobStop s
  else
    match j.due with
    | some code => jobEnd code s
    | none =>
      if j.tries ≥ 2 then jobFault .writeFault s
      else if jobStops j s then jobStop s
      else setPhase .ready (s.updJob fun j => { j with tries := j.tries + 1 })

/-! ## Closing wedges -/

/-- R46: a write is kept. -/
def Xfer.kept (x : Xfer) (close : Option Int) : Bool :=
  x.gated && withinError 12 x.openError && (close.map (withinError 12)).getD false &&
    (decide (x.kind = .writeSlot) || decide (x.seen = .agrees))

/-- R47: a read is reported OFF-TRACK READ. -/
def Xfer.offTrack (x : Xfer) (close : Option Int) : Bool :=
  !(withinError 20 x.openError && (close.map (withinError 20)).getD false)

/-- The closing wedge of a transfer of the order; `close` is its position error, none where it goes
unread. An off-track verify read goes before an identity that fails it (R93, log 40). -/
def jobClose (x : Xfer) (close : Option Int) (out : ReadOutcome) (data : List Byte) (s : State) : State :=
  match s.che.job with
  | none => s
  | some j =>
    match j.task with
    | .block =>
      if x.kind = .writeData then writeClosed j x.seen (x.kept close) s
      else readClosed j x.seen (x.offTrack close) out data s
    | .altRead => readClosed j x.seen (x.offTrack close) out data s
    | .altWrite a => altWriteClosed j a (x.kept close) s
    | .altVerify a =>
      if x.offTrack close then setPhase .ready s else altVerifyClosed j a x.seen out data s
    | .header _ | .altTrack _ | .format => slotClosed j x.place.slot (x.kept close) s
    | .none | .seekOnly => s

/-- R44: the closing wedge of the transfer under way. A pass of a leaving cartridge is abandoned there
(R62). -/
def closeXfer (x : Xfer) (close : Option Int) (out : ReadOutcome) (data : List Byte) (s : State) : State :=
  let t := s.setXfer none
  match s.pass with
  | some _ =>
    if passLeaving s then volAbandon .mediumLeaving t
    else passClosed x.place.slot x.seen (x.offTrack close) out data t
  | none => jobClose x close out data t

/-- R113, R120, R127: a block boundary stops an order whose chain a link reset has removed. -/
def jobBoundary (s : State) : State :=
  match s.che.job with
  | some j => if j.chain = none ∧ j.pastFirstWrite = false then jobStop s else s
  | none => s

/-- R44: a wedge read in FOLLOWING: it closes the transfer under way, if any, and then opens its slot. A
wedge that is not the closing wedge means that one went unread (log 11). -/
def boundaryWedge (wedge : Nat) (error : Int) (out : ReadOutcome) (data : List Byte) (s : State) : State :=
  let t := match s.xfer with
    | some x =>
      closeXfer x (if wedge = (x.place.slot + 1) % 32 then some error else none) out data (closeGate s)
    | none => closeGate s
  (jobBoundary (passBoundary t)).send (.opening wedge)

/-- R44: the closing wedge of the transfer under way goes unread while the heads stay FOLLOWING. -/
def closingUnread (data : List Byte) (s : State) : State :=
  match s.xfer with
  | some x => closeXfer x none .uncorrectable data (closeGate s)
  | none => s

/-- R44, R127: a block boundary without a wedge number: the transfer under way is abandoned, uncounted. A
timeout that has come due ends the order here, and a write whose gate was refused is not counted (log 40). DESIGN CHOICE
(log 40): FORMAT TRACK's BAD slot abandoned here is written again, by R90's third bullet and not its second. -/
def boundaryLost (s : State) : State :=
  let t := passBoundary (closeGate (s.setXfer none))
  match t.che.job with
  | none => t
  | some j =>
    if j.phase = .under then
      if jobStops j t then jobStop t
      else
        match j.due with
        | some code => jobEnd code t
        | none => setPhase .ready t
    else jobBoundary t

/-! ## The slot identity (R123) -/

/-- R38, R123: the identity names another cylinder. A timeout that has come due waits for the block's next
attempt, and a write whose gate was refused is not counted (log 40). -/
def misplaced (x : Xfer) (s : State) : State :=
  let place : Target := { cylinder := x.place.cylinder, comb := x.place.comb }
  let t := closeGate (s.setXfer none)
  match s.pass with
  | some _ => actMisplaced .vol place (t.setPassPhase .seek)
  | none => actMisplaced .che place (setPhase .seek t)

/-- R123: the channel has read the identity of the slot of the transfer under way, a write with its gate refused
among them (log 40). A whole-slot write reads none. -/
def identityRead (identity : Option Identity) (s : State) : State :=
  match s.xfer with
  | none => s
  | some x =>
    if x.kind = .writeSlot ∨ x.seen ≠ .notRead then s
    else
      match identity with
      | none => s.setXfer (some { x with seen := .unreadable })
      | some i =>
        if x.identity = some i then s.setXfer (some { x with seen := .agrees })
        else if i.cylinder ≠ x.place.cylinder then misplaced x s
        else s.setXfer (some { x with seen := .disagrees })

end Sys2Proof.Machine
end

