-- ==== Sys2Proof/Machine/Chains.lean ====
section
/-! DEFINITION. The Chain Engine (chapter 6): acceptance, order starts, order and chain ends, cancels, the
arbiter's choice, and what supply fault, eject and link reset do to the order table. -/

namespace Sys2Proof.Machine

/-! ## The end of a chain (6.7) -/

/-- R110, R111: the completion record. -/
def Chain.complete (c : Chain) (code : EndCode) (loc : Option FaultLocation) : Completion :=
  { tag := c.tag, code := code, flags := c.flags, reached := c.index, residual := c.residual, fault := loc }

/-- R112: the chain in slot `i` enters ENDED. -/
def chainEnd (i : Nat) (code : EndCode) (loc : Option FaultLocation) (s : State) : State :=
  match s.chainAt i with
  | none => s
  | some c =>
    let t := s.updChain i fun c =>
      { c with state := .ended, progress := none, completion := some (c.complete code loc) }
    offerCompletion i (pwrIdleReset (bbfChainEnd c.tag t))

/-- R111: the fault location of an end code of the order that holds the mechanism. -/
def endLocation (j : Job) (c : Chain) (code : EndCode) : Option FaultLocation :=
  if code = .dataCheck ∧ j.order.kind.transfer = true then c.fault
  else if code.hasLocation then j.location
  else none

/-! ## Passing to an order (R109, R114) -/

/-- R114: a mechanism-free order. -/
def runFree (o : Order) (s : State) : State × EndCode :=
  match o.kind with
  | .holdMedium => rcvHold s
  | _ => (rcvRelease s, .clean)

/-- R109, R101: the chain has reached its current order: mechanism-free orders run at once, a mechanical
order makes it PAUSED. The number bounds the orders left. -/
def chainReach : Nat → Nat → State → State
  | 0, _, s => s
  | n + 1, i, s =>
    match s.chainAt i with
    | none => s
    | some c =>
      match c.order with
      | none => s
      | some o =>
        if o.kind.mechanismFree then
          match runFree o (offerProgress i s) with
          | (t, .clean) =>
            if c.index + 1 < c.orders.length then
              chainReach n i (t.updChain i fun c => { c with index := c.index + 1 })
            else chainEnd i .clean none t
          | (t, code) => chainEnd i code none t
        else s.updChain i fun c => { c with state := .paused }

/-- R109, R137: the chain passes to its next order, at the start of a new run. -/
def chainPass (i : Nat) (s : State) : State :=
  chainReach 16 i (s.updChain i fun c => { c with index := c.index + 1, transferred := 0, sequence := 0 })

/-! ## Starting an order (6.5) -/

/-- What the start checks answer (R105). -/
inductive Check where
  | passes
  | waits
  | fails (code : EndCode)
  deriving DecidableEq, Repr

/-- R105, check 2. -/
def stateCheck (kind : OrderKind) (c : VolCtx) : Check :=
  let formatted : VolState → Check := fun st =>
    match st with
    | .mounted => .passes
    | .unformatted => if kind = .initializeVolume then .passes else .fails .notFormatted
    | .headerFault => .fails .notFormatted
    | .unmounted | .present | .mounting => .waits
    | .empty => .fails .noMedium
    | .leaving => .fails .mediumLeaving
  match c.state with
  | .leaving =>
    match c.before with
    | some .mounted => .passes
    | some .unformatted => formatted .unformatted
    | some .headerFault => formatted .headerFault
    | _ => .fails .mediumLeaving
  | st => formatted st

/-- R83, R105, check 3. -/
def rangeCheck (o : Order) : Bool :=
  inRange o && (decide (o.kind ≠ .formatTrack) || o.slip.all (fun p => decide (p ≤ 31)))

/-- R105: the start checks of a medium-addressing order, in their order. -/
def startCheck (o : Order) (c : VolCtx) : Check :=
  if o.generation.any (· != c.generation) then .fails .mediumChanged
  else
    match stateCheck o.kind c with
    | .passes =>
      if rangeCheck o = false then .fails .addressRange
      else if o.kind.writes = true ∧ c.writeProtect = true then .fails .writeProtected
      else .passes
    | x => x

/-- R108: an order that has passed its start checks with the heads loaded begins its work. -/
def beginWork (s : State) : State :=
  match s.che.job with
  | none => s
  | some j =>
    let c := s.vol j.vol
    match j.order.kind with
    | .read | .write | .verify => nextBlock (s.updJob fun j => { j with blk := 0 })
    | .seek =>
      let t := jobPlaced (s.updJob fun j' =>
        { j' with task := .seekOnly, placement := placeBlock j j.order.block s })
      match t.che.job with
      | some k => if seekNeeded t.act k.target then askSeek k.target t else jobEnd .clean t
      | none => t
    | .formatTrack =>
      if tableFull j.order c.slips then jobEnd .tableFull s
      else if c.stale then beginHeader .stale s
      else beginFormat s
    | .assignAlternate => if c.stale then beginHeader .stale s else beginAltRead j s
    | .initializeVolume => beginHeader .fresh s
    | .holdMedium | .releaseMedium | .eject | .setPower => s

/-- R107: the order waits for its volume's mount. -/
def mountWait (j : Job) (s : State) : State :=
  if (s.vol j.vol).pass = .none ∧ s.act.head.needsLoad = false then jobEnd .seekError s
  else setPhase .mount s

/-- R106: the heads are loaded: the order goes on to its work or to its mount wait. -/
def withHeads (waits : Bool) (j : Job) (s : State) : State :=
  if waits then mountWait j s else beginWork s

/-- R106: an order that passed its checks, or waits for its mount, needs the heads. -/
def needHeads (waits : Bool) (j : Job) (s : State) : State :=
  if s.act.head.needsLoad then setPhase .load (pwrWake (actRequestLoad .che j.vol s))
  else withHeads waits j s

/-- R105: the start checks are made. -/
def orderChecks (s : State) : State :=
  match s.che.job with
  | none => s
  | some j =>
    match startCheck j.order (s.vol j.vol) with
    | .fails code => jobEnd code s
    | .waits => needHeads true j s
    | .passes => needHeads false j (s.updJob fun j => { j with runReady := true })

/-- R106: LOADED is answered to CHE. A volume that has begun to leave in the meantime is answered as R62
gives (log 38). -/
def jobLoaded (s : State) : State :=
  match s.che.job with
  | some j =>
    if j.phase = .load then
      match stateCheck j.order.kind (s.vol j.vol) with
      | .fails code => jobEnd code s
      | .waits => withHeads true j s
      | .passes => withHeads false j s
    else s
  | none => s

/-- R107: VOL reports the outcome of a mount pass. -/
def jobMounted (v : Vol) (s : State) : State :=
  match s.che.job with
  | some j => if j.phase = .mount ∧ j.vol = v then orderChecks s else s
  | none => s

/-- R115, R146: an EJECT order reaches RCV. -/
def orderEject (i : Nat) (tag : Nat) (s : State) : State :=
  let waiting := (s.updChain i fun c => { c with state := .ejectWait }).updChe
    fun e => { e with job := none, mech := .free }
  match rcvEject tag s with
  | (t, .held) => setPhase .ejectHeld t
  | (t, .refused) => jobEnd .mediumHeld t
  | (_, .started) => (rcvEject tag waiting).1
  | (_, .joined) => (rcvEject tag waiting).1

/-- R116: a SET POWER order asks PWR. -/
def orderSetPower (target : PowerState) (s : State) : State :=
  match pwrSetPower target (setPhase .power s) with
  | (t, true) => jobEnd .clean t
  | (t, false) => if target = .active then actRequestLoad .che .v0 t else t

/-- The order that takes the mechanism for the chain in slot `i`. -/
def freshJob (i : Nat) (c : Chain) (o : Order) (ready : Bool) : Job :=
  { chain := some i, tag := c.tag, order := o, phase := .start, task := .none, blk := 0, placement := none,
    tries := 0, flags := Flags.empty, placed := none, transferred := none, firstWrite := false, runReady := ready, due := none,
    todo := [], failed := [], changed := false, header := [], newLabel := none }

/-- R103, R109, R117: the current order of the chain in slot `i` starts under the mechanism. -/
def orderStart (i : Nat) (ready : Bool) (s : State) : State :=
  match s.chainAt i with
  | none => s
  | some c =>
    match c.order with
    | none => s
    | some o =>
      let t := (s.updChain i fun c => { c with state := .active }).updChe
        fun e => { e with mech := .order, job := some (freshJob i c o ready) }
      let t := offerProgress i t
      match o.kind with
      | .eject => orderEject i c.tag t
      | .setPower => orderSetPower (o.power.getD .active) t
      | _ => orderChecks t

/-! ## The end of an order (6.6) -/

/-- The order no longer holds the mechanism; a pass it lent it to goes on under its own grant (R112, R113,
R120, R168). -/
def orderRelease (s : State) : State :=
  let t := actWithdraw .che s
  let t := t.updRcv fun r => { r with heldEject := none }
  let t := t.updPwr fun w => { w with setWait := none }
  match t.pass with
  | some p =>
    (t.setPass (some { p with lent := false })).updChe fun e => { e with job := none, mech := .pass p.volume }
  | none => (closeGate (t.setXfer none)).updChe fun e => { e with job := none, mech := .free }

/-- R111, R113: the chain of the order that holds the mechanism ends with the order. A chain that ends
CANCELLED where its order ends with the DATA CHECK flag raised carries that data check's location (R95). -/
def orderChainEnd (j : Job) (i : Nat) (c : Chain) (code : EndCode) (s : State) : State :=
  let met := if code = .clean ∧ c.flags.dataCheck = true then .dataCheck else code
  let loc := endLocation j c met
  if c.cancel then
    chainEnd i .cancelled (if loc.isSome = true ∧ code ≠ .cancelled then loc else c.fault) (orderRelease s)
  else chainEnd i code loc (orderRelease s)

/-- R109: an order's end. -/
def orderEnded (code : EndCode) (s : State) : State :=
  match s.che.job with
  | none => s
  | some j =>
    match j.chain with
    | none => orderRelease s
    | some i =>
      let s := s.updChain i fun c => { c with flags := c.flags.join j.flags, state := .active }
      match s.chainAt i with
      | none => orderRelease s
      | some c =>
        if c.cancel then orderChainEnd j i c code s
        else if code ≠ .clean then orderChainEnd j i c code s
        else if j.order.flags.link then
          orderStart i j.runReady (s.updChain i fun c =>
            { c with index := c.index + 1, transferred := 0 })
        else if c.flags.dataCheck then orderChainEnd j i c .dataCheck s
        else if c.flags.lengthMismatch then orderChainEnd j i c .lengthMismatch s
        else if j.order.flags.chain then chainPass i (orderRelease s)
        else orderChainEnd j i c .clean s

/-! ## Acceptance (6.3) -/

/-- R100: each order that carries LINK is of one kind with the next, and only the last order carries
neither CHAIN nor LINK. -/
def flagsAgree : List Order → Bool
  | [] => true
  | [o] => !o.flags.chain && !o.flags.link
  | o :: p :: os =>
    (o.flags.chain || o.flags.link) && (!o.flags.link || decide (o.kind = p.kind)) && flagsAgree (p :: os)

/-- R100: what is asked of an order by itself. -/
def orderFormed (o : Order) : Bool :=
  (!o.flags.link || (o.kind.transfer && decide (o.count % 512 = 0))) &&
    (!o.kind.transfer || decide (1 ≤ o.count)) &&
    (!o.kind.mediumAddressing || decide (o.volume ≤ 1)) &&
    (decide (o.kind ≠ .setPower) || o.power.isSome)

def namesVolume1 (o : Order) : Bool := o.kind.mediumAddressing && decide (o.volume = 1)

/-- R100: the refusal of an acceptance request, if any. -/
def acceptanceRefusal (tag : Nat) (orders : List (Option Order)) (s : State) : Option Reason :=
  let known := orders.filterMap id
  if s.che.table.all (·.isSome) then some .tableFull
  else if tag = 0 then some .malformed
  else if orders.length = 0 ∨ orders.length > 16 ∨ known.length ≠ orders.length then some .malformed
  else if flagsAgree known = false ∨ known.all orderFormed = false then some .malformed
  else if (s.findTag tag).isSome then some .tagInUse
  else if s.vol1.state = .empty ∧ known.any namesVolume1 = true then some .noMedium
  else if s.vol1.state = .leaving ∧ known.any namesVolume1 = true then some .mediumLeaving
  else none

/-- R101: a chain that passes every check is accepted. -/
def acceptChain (tag : Nat) (orders : List Order) (s : State) : State :=
  match s.che.table.findIdx? (·.isNone) with
  | none => s
  | some i =>
    let c : Chain :=
      { tag := tag, number := s.che.counter, orders := orders, index := 0, state := .queued, transferred := 0,
        sequence := 0, flags := Flags.empty, cancel := false, progress := none, fault := none,
        completion := none }
    pwrIdleReset ((s.setSlot i (some c)).updChe fun e => { e with counter := (e.counter + 1) % 65536 })

/-- R100, R101: an acceptance request. -/
def cheAccept (tag : Nat) (payload : List Byte) (s : State) : State × Option Reason :=
  let orders := readOrders payload
  match acceptanceRefusal tag orders s with
  | some r => (s, some r)
  | none => (acceptChain tag (orders.filterMap id) s, none)

/-! ## Cancel (6.8) -/

/-- R113: whether the order that holds the mechanism stops at once for a cancel. -/
def Job.stopsAtOnce (j : Job) : Bool :=
  match j.phase with
  | .load | .mount | .ejectHeld => true
  | .busy | .ready | .dataWait => !j.pastFirstWrite
  | .start | .seek | .under | .power | .ending => false

/-- R113: a CANCEL for an in-progress chain. -/
def cancelRunning (i : Nat) (c : Chain) (s : State) : State :=
  let t := s.updChain i fun c => { c with cancel := true }
  if c.state = .paused then chainEnd i .cancelled c.fault t
  else
    match t.che.job with
    | some j => if j.chain = some i ∧ j.stopsAtOnce = true then jobStop t else t
    | none => t

/-- R113: a CANCEL frame. -/
def cheCancel (tag : Nat) (s : State) : State × Option Reason :=
  match s.findTag tag with
  | none => (s, some .unknownTag)
  | some i =>
    match s.chainAt i with
    | none => (s, some .unknownTag)
    | some c =>
      match c.state with
      | .queued | .ejectWait => (chainEnd i .cancelled c.fault s, none)
      | .ended => (s, some .tooLate)
      | .active | .dataWait | .paused => (cancelRunning i c s, none)

/-! ## Write data (R133, R134) -/

/-- R133: a DATA frame from the host. DESIGN CHOICE (log 44): one for a slot that is still RESERVED fills it, also
between the expiry of its want under a block and the end of the order at the closing wedge (R135). -/
def cheData (tag sequence : Nat) (data : List Byte) (s : State) : State × Option Reason :=
  if s.bbf.slots.any (BlockSlot.awaits tag sequence) then
    let expected := (((s.findTag tag).bind fun i => s.chainAt i).map fun c => runLength c.run sequence).getD 512
    if data.length = expected then
      let t := fillWrite tag sequence data s
      match t.che.job with
      | some j =>
        let waits := decide (j.phase = .dataWait) && decide (j.tag = tag) &&
          (jobChain j t).any fun c => decide (c.sequence = sequence)
        (if waits then dataReady j t else t, none)
      | none => (t, none)
    else (s, some .badLength)
  else (s, some .unwanted)

/-! ## Supply fault, eject, link reset (6.11) -/

/-- The slots of the chains in some states, oldest first (R102); the order in which one event ends several
chains is the model's choice (log 41). -/
def slotsOldestFirst (p : Chain → Bool) (s : State) : List Nat :=
  let rec go : Nat → List (Nat × Chain) → List Nat
    | 0, _ => []
    | n + 1, cs =>
      match oldest cs with
      | none => []
      | some c => c.1 :: go n (cs.filter fun d => d.1 != c.1)
  go s.che.table.length (s.chains.filter fun c => p c.2)

/-- R118: an in-progress chain ends POWER FAULT. -/
def powerFaultChain (i : Nat) (s : State) : State :=
  match s.che.job with
  | some j =>
    if j.chain = some i then orderEnded .powerFault (jobLeaves j s)
    else
      match s.chainAt i with
      | some c => chainEnd i (if c.cancel then .cancelled else .powerFault) c.fault s
      | none => s
  | none =>
    match s.chainAt i with
    | some c => chainEnd i (if c.cancel then .cancelled else .powerFault) c.fault s
    | none => s

/-- R118: CHE at a supply fault. -/
def cheSupplyFault (s : State) : State :=
  let t := (slotsOldestFirst (·.state.inProgress) s).foldl (fun t i => powerFaultChain i t) s
  match t.che.job with
  | some j => orderRelease (jobLeaves j t)
  | none => t

/-- R119: a QUEUED chain with an order that addresses volume 1. -/
def leavingChain (c : Chain) : Bool := decide (c.state = .queued) && c.orders.any namesVolume1

/-- R119: an eject sequence begins. -/
def cheEjectStarted (s : State) : State :=
  (slotsOldestFirst leavingChain s).foldl (fun t i => chainEnd i .mediumLeaving none t) s

/-- R109, R115: the EJECT of one chain ends CLEAN. -/
def ejectEnded (i : Nat) (s : State) : State :=
  match s.chainAt i with
  | some c => if c.order.any (·.flags.chain) then chainPass i s else chainEnd i .clean none s
  | none => s

/-- R115: an eject sequence has ended. -/
def cheSequenceEnded (s : State) : State :=
  (slotsOldestFirst (fun c => decide (c.state = .ejectWait)) s).foldl (fun t i => ejectEnded i t) s

/-- R120: what a link reset leaves of the order that holds the mechanism. -/
def jobLinkReset (s : State) : State :=
  match s.che.job with
  | none => s
  | some j =>
    let t := s.updJob fun j => { j with chain := none }
    if j.stopsAtOnce = true ∨ j.phase = .power then jobStop t else t

/-- R120, R121: CHE at a link reset. -/
def cheLinkReset (s : State) : State :=
  jobLinkReset (s.updChe fun e => { e with table := List.replicate 6 none, counter := 0 })

/-! ## The arbiter (6.4) and the chains that start by themselves -/

/-- R103, R104: a chain that may be granted the mechanism. -/
def chainReady (s : State) (c : Chain) : Bool :=
  match c.state with
  | .paused => true
  | .queued => decide (s.rcv.stage = .none) && c.order.any fun o => !o.kind.mechanismFree
  | .active | .dataWait | .ejectWait | .ended => false

/-- What the arbiter would grant. -/
inductive Grant where
  | pass (v : Vol)
  | chain (i : Nat)
  deriving DecidableEq, Repr

/-- R103, R104: the arbiter's choice, when the mechanism is free. -/
def arbiterChoice (s : State) : Option Grant :=
  if s.che.mech = .free ∧ s.pwr.state ≠ .faultHold then
    match (if s.rcv.stage = .none then presentedPass s else none) with
    | some v => some (.pass v)
    | none => (oldest (s.chains.filter fun c => chainReady s c.2)).map fun c => .chain c.1
  else none

/-- R103: the grant. -/
def grant (g : Grant) (s : State) : State :=
  match g with
  | .pass v => passGrant v false s
  | .chain i => orderStart i false s

/-- R101, R104: the oldest QUEUED chain whose next order is mechanism-free and may start. -/
def freeStarter (s : State) : Option Nat :=
  if s.rcv.stage = .none ∧ s.pwr.state ≠ .faultHold then
    (oldest (s.chains.filter fun c =>
      decide (c.2.state = .queued) && c.2.order.any (·.kind.mechanismFree))).map Prod.fst
  else none

/-- R57, R107: the pass the order that holds the mechanism lends it to. -/
def lendsTo (s : State) : Option Vol :=
  match s.che.job with
  | some j => if j.phase = .mount ∧ (s.vol j.vol).pass = .pending then some j.vol else none
  | none => none

/-- R160: the mechanism is free, or held by the SET POWER order whose target this is. -/
def unloadAllowed (s : State) : Bool :=
  match s.che.mech with
  | .free => true
  | .order => s.che.job.any fun j => decide (j.phase = .power)
  | .pass _ => false

/-- R148: DRAINING is over: no chain is in progress and no mount pass runs. An order that goes on without its
chain after a link reset is not waited for (log 17). -/
def drained (s : State) : Bool :=
  decide (s.rcv.stage = .draining) && !s.rcv.pause && s.pass.isNone &&
    s.chains.all fun c => !c.2.state.inProgress

/-- R146: a held EJECT is taken at the first presence report. -/
def heldEjectDue (s : State) : Option (Nat × Nat) :=
  match s.che.job with
  | some j => if j.phase = .ejectHeld ∧ s.rcv.firstReport = true then j.chain.map fun i => (i, j.tag) else none
  | none => none

/-- R130: the chain that waits in DATA-WAIT for a slot for a read block. -/
def readWaits (s : State) : Option Job :=
  match s.che.job with
  | some j => if j.phase = .dataWait ∧ j.order.kind = .read ∧ hasFreeSlot s = true then some j else none
  | none => none

/-- R130: a slot has become FREE for the read block that waits. -/
def serveRead (j : Job) (s : State) : State :=
  match jobChain j s with
  | some c => (reserveRead c.tag c.sequence (dataReady j s)).getD s
  | none => s

/-- R132: the chain of a WRITE run that still needs blocks while a slot is FREE. -/
def writeNeeds (s : State) : Option Chain :=
  match s.che.job with
  | some j =>
    if j.order.kind = .write ∧ j.runReady = true ∧ hasFreeSlot s = true then
      match jobChain j s with
      | some c => if neededSequences c s = [] then none else some c
      | none => none
    else none
  | none => none

end Sys2Proof.Machine
end

