-- ==== Sys2Proof/WellFormed.lean ====
section
/-! DEFINITION. Which commands the hardware can produce: the ranges of the operands. The meanings are
total and do not check them; statements take them as a hypothesis where they matter. -/

namespace Sys2Proof

/-- A slot identity within the ranges of R79. -/
def Identity.wellFormed (i : Identity) : Bool :=
  decide (i.cylinder ≤ 411) && decide (i.volumeHead ≤ 1) && decide (i.slot ≤ 31) &&
    match i.mark with
    | .header k => decide (k ≤ 3)
    | .alternate a => decide (a ≤ 63)
    | .data r => decide (r ≤ 30)
    | .bad => true
    | .spare => true

/-- A payload whose length fits the two length bytes of a frame (11.2). -/
def payloadFits (p : List Byte) : Bool := decide (p.length ≤ 65535)

/-- The kind codes of the six inbound kinds (12.1). -/
def inboundKind (k : Byte) : Bool := decide (1 ≤ k.toNat) && decide (k.toNat ≤ 6)

/-- The sum of a frame's bytes from lead to check, modulo 256 (11.2). -/
def frameSum (kind tag : Byte) (payload : List Byte) (check : Byte) : Byte :=
  payload.foldl (· + ·)
    (0xC3#8 + kind + tag + BitVec.ofNat 8 (payload.length / 256) + BitVec.ofNat 8 payload.length) + check

/-- The commands the hardware can produce. -/
def Instr.wellFormed : Instr → Bool
  | .tachPulse ticks => decide (ticks ≤ 65535)
  | .wedgeReport w c e _ d =>
      decide (w ≤ 31) && decide (c ≤ 411) && decide (-50 ≤ e) && decide (e ≤ 50) && decide (d.length = 512)
  | .closingWedgeUnread d => decide (d.length = 512)
  | .chain _ p => payloadFits p
  | .cancel _ p => payloadFits p
  | .data _ p => payloadFits p
  | .wantTimerExpiry t f => decide (1 ≤ t) && decide (t ≤ 255) && decide (f ≤ 2047)
  | .driveStatus _ r => payloadFits (0 :: r)
  | .volumeStatus _ r => payloadFits (1 :: r)
  | .defectList _ r => payloadFits (3 :: r)
  | .chainStatus _ r => payloadFits (2 :: r)
  | .settings _ p => payloadFits p
  | .linkReset _ p => payloadFits p
  | .unknownFrameKind k _ p => payloadFits p && !inboundKind k
  | .awaitLeadByteDiscarded b => decide (b ≠ 0xC3#8)
  | .frameRefusedCheck k t p c => payloadFits p && decide (frameSum k t p c ≠ 0)
  | .unknownQuerySubkind _ p => payloadFits p && decide (4 ≤ (p.headD 0).toNat)
  | .slotIdentityRead (some i) => i.wellFormed
  | .slotIdentityRead none => true
  | .saturatedInterval => true
  | .startTimerExpiry => true
  | .relockTimerExpiry => true
  | .brakeTimerExpiry => true
  | .acquisitionTimerExpiry => true
  | .rampReport => true
  | .unloadTimerExpiry => true
  | .retractTimerExpiry => true
  | .planTimeEnd => true
  | .settlePeriodEnd => true
  | .seekTimeoutExpiry => true
  | .stage1Expiry => true
  | .stage2Expiry => true
  | .presenceSwitchChange _ _ => true
  | .presenceDebounceEnd => true
  | .buttonSwitchChange _ => true
  | .buttonDebounceEnd => true
  | .holdTimerExpiry => true
  | .refusalIndicationExpiry => true
  | .removalTimerExpiry => true
  | .doorOpenWindowExpiry => true
  | .oneSecondTick => true
  | .idleLimitReached => true
  | .supplyFall => true
  | .supplyRise => true
  | .holdOffTimerExpiry => true
  | .powerOnReset _ => true
  | .linkResetLineAsserted => true
  | .linkResetLineReleased => true
  | .hostReadyAsserted => true
  | .replyDelivered => true
  | .dataFrameDelivered => true
  | .dataWantedDelivered => true
  | .noticeDelivered => true
  | .hostReadyDeasserted => true
  | .logicSupplyFall => true

end Sys2Proof
end

