-- ==== Sys2Proof/Machine/Link.lean ====
section
/-! DEFINITION. The Link Interface (chapter 11): the assembly of inbound frames, the tests at the check byte,
the replies with their status records, link resets, and the outbound lane. -/

namespace Sys2Proof.Machine

/-! ## Status records (10.5, 12.3) -/

/-- R179: the DRIVE STATUS body. -/
def driveStatusBody (s : State) : List Byte :=
  [byteOf s.pwr.state.toCode, byteOf s.pwr.supply.toCode] ++ be16 s.pwr.idle ++
    [byteOf s.spc.state.toCode, byteOf s.spc.level] ++ be16 s.spc.purge ++
    [byteOf s.spc.lastStop.toCode, byteOf s.act.head.toCode] ++ be16 s.act.cylinder ++
    [boolByte s.act.valid, byteOf s.rcv.latch.toCode, boolByte s.rcv.presence, byteOf s.rcv.stage.toCode,
     byteOf s.rcv.holds, byteOf s.chains.length, byteOf s.ntu.queue.length, 0]

/-- How many alternate slots are in a state (R180). -/
def countAlts (p : Alt → Bool) (alts : List Alt) : Nat := (alts.filter p).length

/-- R180: the VOLUME STATUS body. -/
def volumeStatusBody (c : VolCtx) : List Byte :=
  let alts := c.altsInForce
  let label := match c.label with
    | some l => 1 :: (be16 l.formatCount ++ be32 l.serial)
    | none => List.replicate 7 0
  byteOf c.state.toCode :: be16 c.generation ++ [boolByte c.writeProtect] ++ label ++
    [byteOf c.slipsInForce.length, byteOf (countAlts (·.toCode == 0) alts),
     byteOf (countAlts (·.toCode == 2) alts), byteOf (countAlts (·.toCode == 1) alts), boolByte c.stale] ++
    be16 c.corrected ++ be16 c.rereads ++ be16 c.dataChecks

/-- R180: the DEFECT LIST body. -/
def defectListBody (c : VolCtx) : List Byte :=
  byteOf c.slipsInForce.length :: c.slipsInForce.flatMap slipBytes ++ c.altsInForce.flatMap altBytes

/-- R181: the CHAIN STATUS body. -/
def chainStatusBody (c : Chain) : List Byte :=
  let residual := match c.completion with
    | some r => r.residual
    | none => c.residual
  [byteOf c.state.toCode, byteOf c.index] ++ be16 residual ++ [c.flags.toByte]

/-- What an owner answers: the answer body of an ACCEPT, or the reason of a refusal (R186). -/
abbrev Answer := Except Reason (List Byte)

/-- R179, R180: a query of one volume. -/
def volumeAnswer (body : VolCtx → List Byte) (volume : Nat) (s : State) : Answer :=
  if volume ≤ 1 then .ok (body (s.vol (Vol.ofByte volume))) else .error .malformed

/-- R179 to R181: the answer to a QUERY. -/
def queryAnswer (tag : Nat) (payload : List Byte) (s : State) : Answer :=
  let volume := (byteAt payload 1).toNat
  match (byteAt payload 0).toNat with
  | 0 => .ok (driveStatusBody s)
  | 1 => volumeAnswer volumeStatusBody volume s
  | 2 =>
    match (s.findTag tag).bind fun i => s.chainAt i with
    | some c => .ok (chainStatusBody c)
    | none => .error .unknownTag
  | 3 => volumeAnswer defectListBody volume s
  | _ => .error .kind

/-! ## Settings and link reset (R187, R190) -/

/-- The enables as a SETTINGS payload carries them (12.2). -/
def enableBits (n : Ntu) : Nat :=
  (List.range 9).foldl (fun k i => if n.enables.getD i true then k + 2 ^ i else k) 0

/-- R187: the values now held. -/
def settingsBody (s : State) : List Byte :=
  be16 s.pwr.standby ++ be16 s.pwr.sleep ++ be16 s.pwr.dormant ++ be16 (enableBits s.ntu)

/-- R167, R178, R187: a SETTINGS frame is taken. -/
def takeSettings (payload : List Byte) (s : State) : State :=
  (pwrLimits (numberAt payload 0 2) (numberAt payload 2 2) (numberAt payload 4 2) s).updNtu
    fun n => n.setEnables (numberAt payload 6 2)

/-- R190: a link reset, but for LNK's own part. -/
def linkResetActs (s : State) : State :=
  let t := bbfReset (cheLinkReset s)
  let t := t.updNtu fun _ => Reset.ntu
  pwrLinkReset (t.updRcv fun r => { r with holds := 0, heldEject := none })

/-! ## Taking a frame (R185, R186) -/

/-- R185: the payload lengths a kind admits. -/
def lengthAdmitted (kind length : Nat) (payload : List Byte) : Bool :=
  match kind with
  | 1 => decide (1 ≤ length) && decide (length = 1 + 14 * (byteAt payload 0).toNat)
  | 2 => decide (3 ≤ length) && decide (length ≤ 514)
  | 3 => decide (length = 0)
  | 4 => decide (length = 2)
  | 5 => decide (length = 8)
  | 6 => decide (length = 0)
  | _ => false

/-- R185: the refusal of a frame at its check byte, if any. -/
def frameRefusal (sum kind : Byte) (length : Nat) (payload : List Byte) : Option Reason :=
  if sum ≠ 0 then some .check
  else if inboundKind kind = false then some .kind
  else if length > 640 ∨ lengthAdmitted kind.toNat length payload = false then some .length
  else none

/-- An owner's answer without a body. -/
def plainAnswer (r : Option Reason) : Answer :=
  match r with
  | some x => .error x
  | none => .ok []

/-- R186: a frame that passes R185 is handed to its owner. -/
def handFrame (kind : Nat) (tag : Byte) (payload : List Byte) (s : State) : State × Answer :=
  match kind with
  | 1 =>
    let r := cheAccept tag.toNat payload s
    (r.1, plainAnswer r.2)
  | 2 =>
    let r := cheData tag.toNat (numberAt payload 0 2) (payload.drop 2) s
    (r.1, plainAnswer r.2)
  | 3 =>
    let r := cheCancel tag.toNat s
    (r.1, plainAnswer r.2)
  | 4 => (s, queryAnswer tag.toNat payload s)
  | 5 =>
    let t := takeSettings payload s
    (t, .ok (settingsBody t))
  | _ => (linkResetActs s, .ok [])

/-- R186: the reply of an answer. -/
def replyOf (kind tag : Byte) (a : Answer) : Reply :=
  match a with
  | .ok body => { kind := kind, tag := tag, reason := none, body := body }
  | .error r => { kind := kind, tag := tag, reason := some r, body := [] }

def addReply (r : Reply) (s : State) : State := s.updLnk fun l => { l with replies := l.replies ++ [r] }

/-- R184 to R186: a frame is taken as a whole, and its reply joins the list in the same event. -/
def takeFrame (sum kind tag : Byte) (length : Nat) (payload : List Byte) (s : State) : State :=
  match frameRefusal sum kind length payload with
  | some r => addReply (replyOf kind tag (.error r)) s
  | none =>
    let r := handFrame kind.toNat tag payload s
    addReply (replyOf kind tag r.2) r.1

/-! ## Assembly (R184) -/

/-- R184, R189: the assembly at AWAIT LEAD, with nothing held. -/
def Lnk.clear (l : Lnk) : Lnk :=
  { l with stage := .awaitLead, sum := 0, kind := 0, tag := 0, length := 0, got := 0, payload := [] }

/-- R184: one byte of the inbound lane. -/
def lnkByte (b : Byte) (s : State) : State :=
  let l := s.lnk
  match l.stage with
  | .awaitLead =>
    if b = 0xC3#8 then s.updLnk fun l => { l.clear with stage := .header, sum := b } else s
  | .header =>
    match l.got with
    | 0 => s.updLnk fun l => { l with sum := l.sum + b, kind := b, got := 1 }
    | 1 => s.updLnk fun l => { l with sum := l.sum + b, tag := b, got := 2 }
    | 2 => s.updLnk fun l => { l with sum := l.sum + b, length := 256 * b.toNat, got := 3 }
    | _ =>
      let n := l.length + b.toNat
      s.updLnk fun l =>
        { l with sum := l.sum + b, length := n, got := 0, stage := if n = 0 then .check else .payload }
  | .payload =>
    s.updLnk fun l =>
      { l with sum := l.sum + b, got := l.got + 1,
               payload := if l.got < 640 then l.payload ++ [b] else l.payload,
               stage := if l.got + 1 ≥ l.length then .check else .payload }
  | .check => takeFrame (l.sum + b) l.kind l.tag l.length l.payload (s.updLnk Lnk.clear)

/-- Bytes of the inbound lane, in order. -/
def lnkBytes : List Byte → State → State
  | [], s => s
  | b :: bs, s => lnkBytes bs (lnkByte b s)

/-- R184, R189: the acknowledge of a lead byte is withheld while the reply list holds two replies, and
nothing is acknowledged while the link-reset line is asserted. -/
def leadWithheld (b : Byte) (s : State) : Bool :=
  s.pins.linkReset || (decide (s.lnk.stage = .awaitLead) && decide (b = 0xC3#8) && decide (s.lnk.replies.length ≥ 2))

/-- The host strobes bytes; those that are not acknowledged yet wait on the lane (log 14). -/
def lnkReceive (bytes : List Byte) (s : State) : State :=
  if s.lnk.waiting ≠ [] ∨ leadWithheld (bytes.headD 0) s = true then
    s.updLnk fun l => { l with waiting := l.waiting ++ [bytes] }
  else lnkBytes bytes s

/-- The waiting bytes whose acknowledge is no longer withheld. -/
def waitingFrame (s : State) : Option (List Byte) :=
  match s.lnk.waiting with
  | bytes :: _ => if leadWithheld (bytes.headD 0) s then none else some bytes
  | [] => none

/-- A waiting frame is taken. -/
def takeWaiting (bytes : List Byte) (s : State) : State :=
  lnkBytes bytes (s.updLnk fun l => { l with waiting := l.waiting.tail })

/-- R189: the link-reset line is asserted. Bytes that waited are lost with it (log 35). -/
def lnkLineReset (s : State) : State :=
  linkResetActs (s.updLnk fun l => { l.clear with waiting := [] })

/-! ## The outbound lane (R188) -/

/-- R131, 12.3: the DATA frame of a block slot. -/
def slotFrame (b : BlockSlot) : List Byte :=
  match b with
  | .filledRead tag order sequence length check data =>
    frameBytes 0x82#8 (byteOf tag) (byteOf order :: be16 sequence ++ [boolByte check] ++ data.take length)
  | _ => []

/-- R188: the frame that is begun next, if any item waits. -/
def nextFrame (s : State) : Option OutFrame :=
  match s.lnk.replies with
  | r :: _ => some { carries := .reply, bytes := frameBytes 0x81#8 r.tag (replyBytes r) }
  | [] =>
    match s.bbf.wants with
    | w :: _ =>
      some { carries := .want,
             bytes := frameBytes 0x83#8 (byteOf w.tag) (be16 w.first ++ [byteOf w.number]) }
    | [] =>
      match s.bbf.delivery with
      | i :: _ => some { carries := .slot, bytes := slotFrame (s.bbf.slots.getD i .free) }
      | [] =>
        match s.ntu.queue with
        | m :: _ =>
          if m.sending then none
          else some { carries := .notice, bytes := frameBytes 0x84#8 (byteOf m.body.tag) (noticeBytes m.body) }
        | [] => none

/-- The marks of what is being sent (R131, R132, R176). -/
def markSending (o : Outbound) (s : State) : State :=
  match o with
  | .reply => s
  | .want =>
    s.updBbf fun e => { e with wants := e.wants.modifyHead fun w => { w with sending := true } }
  | .slot => s.updBbf fun e => { e with sendingSlot := true }
  | .notice =>
    s.updNtu fun n => { n with queue := n.queue.modifyHead fun m => { m with sending := true } }

/-- R183, R188, R189: whether LNK may begin a frame. -/
def laneOpen (s : State) : Bool := s.lnk.out.isNone && s.pins.ready && !s.pins.linkReset

/-- R188: LNK begins a frame if the lane is idle, the ready line asserted and something waits. -/
def beginFrame (s : State) : State :=
  if laneOpen s then
    match nextFrame s with
    | some f => (markSending f.carries s).updLnk fun l => { l with out := some f }
    | none => s
  else s

/-- The host has acknowledged the last byte of the frame under way, if it is of this kind (log 25). -/
def delivered (o : Outbound) (act : State → State) (s : State) : State :=
  match s.lnk.out with
  | some f => if f.carries = o then act (s.updLnk fun l => { l with out := none }) else s
  | none => s

/-- R188: a delivered reply leaves the list. -/
def replyLeaves (s : State) : State := s.updLnk fun l => { l with replies := l.replies.tail }

end Sys2Proof.Machine
end

