-- ==== Sys2Proof/Machine/Settle.lean ====
section
/-! DEFINITION. How a step comes to rest: the reports the blocks have sent each other are taken in order,
then what the rules say happens "in the same event" wherever its condition holds, until nothing is left
(log 3). -/

namespace Sys2Proof.Machine

/-! ## Reports -/

/-- R23: VOL and CHE at a change of head state (R56, R57, R106, R108), then PWR (R160, R163) and RCV
(R149). -/
def reactHead (was now : HeadState) (s : State) : State :=
  let t := if was = .loading ∧ now = .following then volLoaded s else s
  let t := jobHead was now (passHead now t)
  match now with
  | .loading => pwrLoading t
  | .parked => rcvParked (pwrParked t)
  | .following | .seeking | .settling | .reacquiring | .unloading | .retracting => t

/-- R170: VOL, CHE and RCV at a supply fault, then the attention events. -/
def reactSupplyFault (s : State) : State :=
  let before := s.pwr.beforeFault.getD .sleep
  let t := rcvSupplyFault (cheSupplyFault (volAbandon .powerFault s))
  attend (.powerState .faultHold before) (attend (.supplyFault before) t)

def Signal.isAttention : Signal → Bool
  | .attention _ => true
  | _ => false

/-- R29, R43: the attention event is NTU's once every report of the event has been taken. -/
def reactAttention (a : Attention) (s : State) : State :=
  if s.inbox.all Signal.isAttention then attend a s else s.send (.attention a)

/-- What the blocks do with one report. Neither requester does anything at WITHDRAWN (R153, R161, R162,
R170). -/
def react (m : Signal) (s : State) : State :=
  match m with
  | .spindle st => pwrSpindle st s
  | .stopped .pwr => pwrStopped s
  | .stopped .rcv => rcvStopped s
  | .startWithdrawn _ => s
  | .stopWithdrawn _ => s
  | .lockLoss => jobFault .speedFault (volAbandon .speedFault s)
  | .spinFault => jobSpinFault (passSpinFault s)
  | .head was now => reactHead was now s
  | .loaded .vol => passLoaded s
  | .loaded .che => jobLoaded s
  | .loadFailed .vol => volAbandon .positionLost s
  | .loadFailed .che => jobLoadFailed s
  | .seekAnswer .vol x => passSeekAnswer x s
  | .seekAnswer .che x => jobSeekAnswer x s
  | .boundaryLost => boundaryLost s
  | .boundary w e out data => boundaryWedge w e out data s
  | .opening w => openWedge w s
  | .positionLost => pwrPositionLost (jobFault .positionLost (volAbandon .positionLost s))
  | .mountEnded v => jobMounted v s
  | .lentPassAbandoned code => jobPassAbandoned code s
  | .reached => jobReached s
  | .supplyFault => reactSupplyFault s
  | .ejectStarted => cheEjectStarted s
  | .sequenceEnded => cheSequenceEnded s
  | .orderEnd code => orderEnded code s
  | .enterUnloading => rcvReenter s
  | .attention a => reactAttention a s

/-! ## Rules that act wherever their condition holds -/

/-- What is left to do once every report has been taken. -/
inductive Rule where
  | drained
  | startFree (i : Nat)
  | ejectDue (i tag : Nat)
  | lend (v : Vol)
  | serveRead (j : Job)
  | serveWrite (c : Chain)
  | unload (contested : Bool)
  | grant (g : Grant) (contested : Bool)
  | frame (bytes : List Byte)
  deriving DecidableEq, Repr

/-- R160, R103: PWR's unload and the arbiter's grant. Where both may come first, the choice is free
(log 7). -/
def unloadOrGrant (s : State) : Option Rule :=
  if unloadDue s = true ∧ unloadAllowed s = true then
    match arbiterChoice s with
    | some g => if Config.unloadBeforeGrant s.choice then some (.unload true) else some (.grant g true)
    | none => some (.unload false)
  else (arbiterChoice s).map fun g => .grant g false

/-- The rule that acts next, if any (log 3). -/
def idleRule (s : State) : Option Rule :=
  if drained s then some .drained
  else
    match freeStarter s with
    | some i => some (.startFree i)
    | none =>
      match heldEjectDue s with
      | some p => some (.ejectDue p.1 p.2)
      | none =>
        match lendsTo s with
        | some v => some (.lend v)
        | none =>
          match readWaits s with
          | some j => some (.serveRead j)
          | none =>
            match writeNeeds s with
            | some c => some (.serveWrite c)
            | none =>
              match unloadOrGrant s with
              | some r => some r
              | none => (waitingFrame s).map .frame

/-- One free choice has been made (log 7). -/
def chosen (contested : Bool) (s : State) : State :=
  if contested then { s with choice := s.choice + 1 } else s

/-- A rule acts. -/
def fire (r : Rule) (s : State) : State :=
  match r with
  | .drained => rcvEnterUnloading s
  | .startFree i => chainReach 16 i s
  | .ejectDue i tag => orderEject i tag s
  | .lend v => passGrant v true s
  | .serveRead j => serveRead j s
  | .serveWrite c => reserveWrite c s
  | .unload contested => actUnload (chosen contested s)
  | .grant g contested => grant g (chosen contested s)
  | .frame bytes => takeWaiting bytes s

/-! ## Coming to rest -/

/-- One report taken, or one rule acting; none where the part is at rest. -/
def settleOnce (s : State) : Option State :=
  match s.inbox with
  | m :: rest => some (react m { s with inbox := rest })
  | [] => (idleRule s).map fun r => fire r s

/-- Reactions, up to a number of them. -/
def settle : Nat → State → State
  | 0, s => s
  | n + 1, s =>
    match settleOnce s with
    | some t => settle n t
    | none => s

/-- The bound on the reactions of one step (log 3). -/
def reactionBound : Nat := 4096

/-- The end of every step: the part comes to rest, the lamp follows its record (R156), and LNK begins a
frame if it may (R188). -/
def conclude (s : State) : Host.Outcome State Fault Refusal :=
  let t := settle reactionBound s
  if (settleOnce t).isNone then .next (beginFrame (setLamp t)) else .fault .unsettled

/-- A part at rest: nothing is left to react to, the lamp shows its record, and no frame may begin. -/
def State.settled (s : State) : Bool :=
  (settleOnce s).isNone && decide (s.rcv.lamp = lampOf s) && !(laneOpen s && (nextFrame s).isSome)

end Sys2Proof.Machine
end

