-- ==== Sys2Proof/Machine/Commands.lean ====
section
/-! DEFINITION. The meaning of every command: one definition per row of the table, each over the one
operation of the block that takes it. -/

namespace Sys2Proof.Machine

/-- A command that one block takes. While the 5 V supply holds the part in reset nothing is taken
(R172, log 6). -/
def run (f : State → State) (s : State) : Host.Outcome State Fault Refusal :=
  if s.pins.logicLow then .next s else conclude (f s)

/-- A command that sets an input level, which stands whether or not the part is held in reset. -/
def runPins (p : Pins → Pins) (f : State → State) (s : State) : Host.Outcome State Fault Refusal :=
  run f (s.updPins p)

/-- R172: every block takes its power-on values; a start-up in fault raises SUPPLY FAULT. -/
def powerOnActs (motorGood : Bool) (s : State) : State :=
  let t := { State.powerOn motorGood { s.pins with logicLow := false } with
             choice := s.choice, pending := s.pending }
  if motorGood then t else attend (.supplyFault .sleep) t

/-- R172: the part held in power-on reset while the 5 V supply is low (log 6). -/
def held (s : State) : State :=
  { State.powerOn true { s.pins with logicLow := true } with choice := s.choice, pending := s.pending }

/-- A frame as received, with its own check byte (R185). -/
def rawFrame (kind tag : Byte) (payload : List Byte) (check : Byte) : List Byte :=
  [0xC3#8, kind, tag] ++ be16 payload.length ++ payload ++ [check]

/-- R31: the unload timer expires. -/
def actUnloadExpiry (s : State) : State :=
  if s.act.head = .unloading ∧ s.act.unload.isSome = true then actPark s else s

/-- R33: the retract timer expires. -/
def actRetractExpiry (s : State) : State :=
  if s.act.head = .retracting ∧ s.act.retract.isSome = true then actPark s else s

/-- R2: TACH_PULSE. -/
def execTachPulse (ticks : Nat) (s : State) : Host.Outcome State Fault Refusal :=
  run (spcTachPulse ticks) s

/-- R2: SATURATED_INTERVAL. -/
def execSaturatedInterval (s : State) : Host.Outcome State Fault Refusal :=
  run spcSaturated s

/-- R15: START_TIMER_EXPIRY. -/
def execStartTimerExpiry (s : State) : Host.Outcome State Fault Refusal :=
  run spcStartExpiry s

/-- R16: RELOCK_TIMER_EXPIRY. -/
def execRelockTimerExpiry (s : State) : Host.Outcome State Fault Refusal :=
  run spcRelockExpiry s

/-- R17: BRAKE_TIMER_EXPIRY. -/
def execBrakeTimerExpiry (s : State) : Host.Outcome State Fault Refusal :=
  run spcBrakeExpiry s

/-- R25: WEDGE_REPORT. -/
def execWedgeReport (wedge cylinder : Nat) (error : Int) (outcome : ReadOutcome) (data : List Byte) (s : State) : Host.Outcome State Fault Refusal :=
  run (actWedge wedge cylinder error outcome data) s

/-- R44: CLOSING_WEDGE_UNREAD. -/
def execClosingWedgeUnread (data : List Byte) (s : State) : Host.Outcome State Fault Refusal :=
  run (closingUnread data) s

/-- R29: ACQUISITION_TIMER_EXPIRY. -/
def execAcquisitionTimerExpiry (s : State) : Host.Outcome State Fault Refusal :=
  run actAcquisitionExpiry s

/-- R25, R31, R33: RAMP_REPORT. -/
def execRampReport (s : State) : Host.Outcome State Fault Refusal :=
  run actRamp s

/-- R31: UNLOAD_TIMER_EXPIRY. -/
def execUnloadTimerExpiry (s : State) : Host.Outcome State Fault Refusal :=
  run actUnloadExpiry s

/-- R33: RETRACT_TIMER_EXPIRY. -/
def execRetractTimerExpiry (s : State) : Host.Outcome State Fault Refusal :=
  run actRetractExpiry s

/-- R36: PLAN_TIME_END. -/
def execPlanTimeEnd (s : State) : Host.Outcome State Fault Refusal :=
  run actPlanEnd s

/-- R37: SETTLE_PERIOD_END. -/
def execSettlePeriodEnd (s : State) : Host.Outcome State Fault Refusal :=
  run actSettleEnd s

/-- R38: SEEK_TIMEOUT_EXPIRY. -/
def execSeekTimeoutExpiry (s : State) : Host.Outcome State Fault Refusal :=
  run actSeekTimeout s

/-- R41: STAGE_1_EXPIRY. -/
def execStage1Expiry (s : State) : Host.Outcome State Fault Refusal :=
  run actStage1 s

/-- R43: STAGE_2_EXPIRY. -/
def execStage2Expiry (s : State) : Host.Outcome State Fault Refusal :=
  run actStage2 s

/-- R100: CHAIN. -/
def execChain (tag : Byte) (payload : List Byte) (s : State) : Host.Outcome State Fault Refusal :=
  run (lnkReceive (frameBytes 0x01#8 tag payload)) s

/-- R113: CANCEL. -/
def execCancel (tag : Byte) (payload : List Byte) (s : State) : Host.Outcome State Fault Refusal :=
  run (lnkReceive (frameBytes 0x03#8 tag payload)) s

/-- R133: DATA. -/
def execData (tag : Byte) (payload : List Byte) (s : State) : Host.Outcome State Fault Refusal :=
  run (lnkReceive (frameBytes 0x02#8 tag payload)) s

/-- R135: WANT_TIMER_EXPIRY. -/
def execWantTimerExpiry (tag first : Nat) (s : State) : Host.Outcome State Fault Refusal :=
  run (wantExpired tag first) s

/-- R141: PRESENCE_SWITCH_CHANGE; the tab is that of what the switch meets (log 13). -/
def execPresenceSwitchChange (closed tab : Bool) (s : State) : Host.Outcome State Fault Refusal :=
  runPins (fun p => { p with presenceClosed := closed, tabProtect := tab })
    (rcvPresenceSwitch s.pins.presenceClosed closed) s

/-- R141: PRESENCE_DEBOUNCE_END. -/
def execPresenceDebounceEnd (s : State) : Host.Outcome State Fault Refusal :=
  run rcvPresenceDebounced s

/-- R144: BUTTON_SWITCH_CHANGE. -/
def execButtonSwitchChange (pressed : Bool) (s : State) : Host.Outcome State Fault Refusal :=
  runPins (fun p => { p with buttonDown := pressed }) (rcvButtonSwitch s.pins.buttonDown pressed) s

/-- R144: BUTTON_DEBOUNCE_END. -/
def execButtonDebounceEnd (s : State) : Host.Outcome State Fault Refusal :=
  run rcvButtonDebounced s

/-- R145: HOLD_TIMER_EXPIRY. -/
def execHoldTimerExpiry (s : State) : Host.Outcome State Fault Refusal :=
  run rcvHoldExpiry s

/-- R144: REFUSAL_INDICATION_EXPIRY. -/
def execRefusalIndicationExpiry (s : State) : Host.Outcome State Fault Refusal :=
  run rcvRefusalExpiry s

/-- R151: REMOVAL_TIMER_EXPIRY. -/
def execRemovalTimerExpiry (s : State) : Host.Outcome State Fault Refusal :=
  run rcvRemovalExpiry s

/-- R152: DOOR_OPEN_WINDOW_EXPIRY. -/
def execDoorOpenWindowExpiry (s : State) : Host.Outcome State Fault Refusal :=
  run rcvWindowExpiry s

/-- R165: ONE_SECOND_TICK. -/
def execOneSecondTick (s : State) : Host.Outcome State Fault Refusal :=
  run pwrTick s

/-- R166: IDLE_LIMIT_REACHED; the tick at which the counter comes to match a limit (log 4). -/
def execIdleLimitReached (s : State) : Host.Outcome State Fault Refusal :=
  run pwrLimitTick s

/-- R169: SUPPLY_FALL. -/
def execSupplyFall (s : State) : Host.Outcome State Fault Refusal :=
  run pwrFall s

/-- R169: SUPPLY_RISE. -/
def execSupplyRise (s : State) : Host.Outcome State Fault Refusal :=
  run pwrRise s

/-- R169: HOLD_OFF_TIMER_EXPIRY. -/
def execHoldOffTimerExpiry (s : State) : Host.Outcome State Fault Refusal :=
  run pwrHoldOffExpiry s

/-- R172: POWER_ON_RESET. -/
def execPowerOnReset (motorGood : Bool) (s : State) : Host.Outcome State Fault Refusal :=
  conclude (powerOnActs motorGood s)

/-- R179: DRIVE_STATUS. -/
def execDriveStatus (tag : Byte) (rest : List Byte) (s : State) : Host.Outcome State Fault Refusal :=
  run (lnkReceive (frameBytes 0x04#8 tag (0 :: rest))) s

/-- R180: VOLUME_STATUS. -/
def execVolumeStatus (tag : Byte) (rest : List Byte) (s : State) : Host.Outcome State Fault Refusal :=
  run (lnkReceive (frameBytes 0x04#8 tag (1 :: rest))) s

/-- R180: DEFECT_LIST. -/
def execDefectList (tag : Byte) (rest : List Byte) (s : State) : Host.Outcome State Fault Refusal :=
  run (lnkReceive (frameBytes 0x04#8 tag (3 :: rest))) s

/-- R181: CHAIN_STATUS. -/
def execChainStatus (tag : Byte) (rest : List Byte) (s : State) : Host.Outcome State Fault Refusal :=
  run (lnkReceive (frameBytes 0x04#8 tag (2 :: rest))) s

/-- R187: SETTINGS. -/
def execSettings (tag : Byte) (payload : List Byte) (s : State) : Host.Outcome State Fault Refusal :=
  run (lnkReceive (frameBytes 0x05#8 tag payload)) s

/-- R190: LINK_RESET. -/
def execLinkReset (tag : Byte) (payload : List Byte) (s : State) : Host.Outcome State Fault Refusal :=
  run (lnkReceive (frameBytes 0x06#8 tag payload)) s

/-- R185: UNKNOWN_FRAME_KIND. -/
def execUnknownFrameKind (kind tag : Byte) (payload : List Byte) (s : State) : Host.Outcome State Fault Refusal :=
  run (lnkReceive (frameBytes kind tag payload)) s

/-- R189: LINK_RESET_LINE_ASSERTED; a second reset is not taken while the line stays asserted. -/
def execLinkResetLineAsserted (s : State) : Host.Outcome State Fault Refusal :=
  runPins (fun p => { p with linkReset := true }) (if s.pins.linkReset then id else lnkLineReset) s

/-- R189: LINK_RESET_LINE_RELEASED. -/
def execLinkResetLineReleased (s : State) : Host.Outcome State Fault Refusal :=
  runPins (fun p => { p with linkReset := false }) id s

/-- R183, R188: HOST_READY_ASSERTED. -/
def execHostReadyAsserted (s : State) : Host.Outcome State Fault Refusal :=
  runPins (fun p => { p with ready := true }) id s

/-- R188: REPLY_DELIVERED. -/
def execReplyDelivered (s : State) : Host.Outcome State Fault Refusal :=
  run (delivered .reply replyLeaves) s

/-- R131: DATA_FRAME_DELIVERED. -/
def execDataFrameDelivered (s : State) : Host.Outcome State Fault Refusal :=
  run (delivered .slot slotDelivered) s

/-- R132: DATA_WANTED_DELIVERED. -/
def execDataWantedDelivered (s : State) : Host.Outcome State Fault Refusal :=
  run (delivered .want wantDelivered) s

/-- R176: NOTICE_DELIVERED. -/
def execNoticeDelivered (s : State) : Host.Outcome State Fault Refusal :=
  run (delivered .notice noticeAcknowledged) s

/-- R184: AWAIT_LEAD_BYTE_DISCARDED. -/
def execAwaitLeadByteDiscarded (byte : Byte) (s : State) : Host.Outcome State Fault Refusal :=
  run (lnkReceive [byte]) s

/-- R185: FRAME_REFUSED_CHECK. -/
def execFrameRefusedCheck (kind tag : Byte) (payload : List Byte) (check : Byte) (s : State) : Host.Outcome State Fault Refusal :=
  run (lnkReceive (rawFrame kind tag payload check)) s

/-- R179: UNKNOWN_QUERY_SUBKIND. -/
def execUnknownQuerySubkind (tag : Byte) (payload : List Byte) (s : State) : Host.Outcome State Fault Refusal :=
  run (lnkReceive (frameBytes 0x04#8 tag payload)) s

/-- R183: HOST_READY_DEASSERTED. -/
def execHostReadyDeasserted (s : State) : Host.Outcome State Fault Refusal :=
  runPins (fun p => { p with ready := false }) id s

/-- R172: LOGIC_SUPPLY_FALL; the part is held in power-on reset (log 6). -/
def execLogicSupplyFall (s : State) : Host.Outcome State Fault Refusal :=
  .next (held s)

/-- R123: SLOT_IDENTITY_READ. -/
def execSlotIdentityRead (identity : Option Identity) (s : State) : Host.Outcome State Fault Refusal :=
  run (identityRead identity) s

end Sys2Proof.Machine
end

