-- ==== Sys2Proof/Machine/Dispatch.lean ====
section
/-! DEFINITION. The dispatch of a command to its meaning. -/

namespace Sys2Proof.Machine

def exec (i : Instr) (s : State) : Host.Outcome State Fault Refusal :=
  match i with
  | .tachPulse ticks => Sys2Proof.Machine.execTachPulse ticks s
  | .saturatedInterval => Sys2Proof.Machine.execSaturatedInterval s
  | .startTimerExpiry => Sys2Proof.Machine.execStartTimerExpiry s
  | .relockTimerExpiry => Sys2Proof.Machine.execRelockTimerExpiry s
  | .brakeTimerExpiry => Sys2Proof.Machine.execBrakeTimerExpiry s
  | .wedgeReport wedge cylinder error outcome data => Sys2Proof.Machine.execWedgeReport wedge cylinder error outcome data s
  | .closingWedgeUnread data => Sys2Proof.Machine.execClosingWedgeUnread data s
  | .acquisitionTimerExpiry => Sys2Proof.Machine.execAcquisitionTimerExpiry s
  | .rampReport => Sys2Proof.Machine.execRampReport s
  | .unloadTimerExpiry => Sys2Proof.Machine.execUnloadTimerExpiry s
  | .retractTimerExpiry => Sys2Proof.Machine.execRetractTimerExpiry s
  | .planTimeEnd => Sys2Proof.Machine.execPlanTimeEnd s
  | .settlePeriodEnd => Sys2Proof.Machine.execSettlePeriodEnd s
  | .seekTimeoutExpiry => Sys2Proof.Machine.execSeekTimeoutExpiry s
  | .stage1Expiry => Sys2Proof.Machine.execStage1Expiry s
  | .stage2Expiry => Sys2Proof.Machine.execStage2Expiry s
  | .chain tag payload => Sys2Proof.Machine.execChain tag payload s
  | .cancel tag payload => Sys2Proof.Machine.execCancel tag payload s
  | .data tag payload => Sys2Proof.Machine.execData tag payload s
  | .wantTimerExpiry tag first => Sys2Proof.Machine.execWantTimerExpiry tag first s
  | .presenceSwitchChange closed tab => Sys2Proof.Machine.execPresenceSwitchChange closed tab s
  | .presenceDebounceEnd => Sys2Proof.Machine.execPresenceDebounceEnd s
  | .buttonSwitchChange pressed => Sys2Proof.Machine.execButtonSwitchChange pressed s
  | .buttonDebounceEnd => Sys2Proof.Machine.execButtonDebounceEnd s
  | .holdTimerExpiry => Sys2Proof.Machine.execHoldTimerExpiry s
  | .refusalIndicationExpiry => Sys2Proof.Machine.execRefusalIndicationExpiry s
  | .removalTimerExpiry => Sys2Proof.Machine.execRemovalTimerExpiry s
  | .doorOpenWindowExpiry => Sys2Proof.Machine.execDoorOpenWindowExpiry s
  | .oneSecondTick => Sys2Proof.Machine.execOneSecondTick s
  | .idleLimitReached => Sys2Proof.Machine.execIdleLimitReached s
  | .supplyFall => Sys2Proof.Machine.execSupplyFall s
  | .supplyRise => Sys2Proof.Machine.execSupplyRise s
  | .holdOffTimerExpiry => Sys2Proof.Machine.execHoldOffTimerExpiry s
  | .powerOnReset motorGood => Sys2Proof.Machine.execPowerOnReset motorGood s
  | .driveStatus tag rest => Sys2Proof.Machine.execDriveStatus tag rest s
  | .volumeStatus tag rest => Sys2Proof.Machine.execVolumeStatus tag rest s
  | .defectList tag rest => Sys2Proof.Machine.execDefectList tag rest s
  | .chainStatus tag rest => Sys2Proof.Machine.execChainStatus tag rest s
  | .settings tag payload => Sys2Proof.Machine.execSettings tag payload s
  | .linkReset tag payload => Sys2Proof.Machine.execLinkReset tag payload s
  | .unknownFrameKind kind tag payload => Sys2Proof.Machine.execUnknownFrameKind kind tag payload s
  | .linkResetLineAsserted => Sys2Proof.Machine.execLinkResetLineAsserted s
  | .linkResetLineReleased => Sys2Proof.Machine.execLinkResetLineReleased s
  | .hostReadyAsserted => Sys2Proof.Machine.execHostReadyAsserted s
  | .replyDelivered => Sys2Proof.Machine.execReplyDelivered s
  | .dataFrameDelivered => Sys2Proof.Machine.execDataFrameDelivered s
  | .dataWantedDelivered => Sys2Proof.Machine.execDataWantedDelivered s
  | .noticeDelivered => Sys2Proof.Machine.execNoticeDelivered s
  | .awaitLeadByteDiscarded byte => Sys2Proof.Machine.execAwaitLeadByteDiscarded byte s
  | .frameRefusedCheck kind tag payload check => Sys2Proof.Machine.execFrameRefusedCheck kind tag payload check s
  | .unknownQuerySubkind tag payload => Sys2Proof.Machine.execUnknownQuerySubkind tag payload s
  | .hostReadyDeasserted => Sys2Proof.Machine.execHostReadyDeasserted s
  | .logicSupplyFall => Sys2Proof.Machine.execLogicSupplyFall s
  | .slotIdentityRead identity => Sys2Proof.Machine.execSlotIdentityRead identity s

end Sys2Proof.Machine
end

