-- ==== Sys2Proof/Safety.lean ====
section
/-! DEFINITION. What a good state of the C62 is: the part at rest, and the laws the manual states of each
block. Statements speak in these terms. -/

namespace Sys2Proof.Machine

/-! ## The part at rest -/

/-- The part is powered and at rest: the state every command but a power loss leaves it in. -/
structure State.Ready (s : State) : Prop where
  settled : s.settled = true
  powered : s.pins.logicLow = false

/-- At rest, with no bytes waiting on the inbound lane, the assembly between frames, room for a reply and
the lane acknowledging: the next frame is taken in its own step (R184, R189). -/
structure State.Listening (s : State) : Prop extends s.Ready where
  between : s.lnk.stage = .awaitLead
  none_waiting : s.lnk.waiting = []
  room : s.lnk.replies.length < 2
  lane : s.pins.linkReset = false

/-- At rest with nothing on hand but a move of PWR's: no chain in the table, the mechanism free, no pass wanted,
no eject sequence and no bytes waiting. -/
structure State.Clear (s : State) : Prop extends s.Ready where
  no_chain : s.chains = []
  mech : s.che.mech = .free
  no_job : s.che.job = none
  no_pass : s.pass = none
  pass0 : s.vol0.pass = .none
  pass1 : s.vol1.pass = .none
  stage : s.rcv.stage = .none
  none_waiting : s.lnk.waiting = []

/-- At rest with nothing on hand, a move of PWR's among it. -/
structure State.Quiet (s : State) : Prop extends s.Clear where
  progress : s.pwr.progress = .none

/-- How every step ends: the lamp follows its record (R156), and LNK begins a frame if it may (R188). -/
def State.rest (s : State) : State := beginFrame (setLamp s)

/-- A frame has been taken and answered, and nothing of it is held (R184, R186). -/
def State.replied (r : Reply) (s : State) : State :=
  State.rest { s with lnk := { s.lnk.clear with replies := s.lnk.replies ++ [r] } }

/-- R19: a tach pulse counted toward the purge in LOCKING and LOCKED. -/
def Spc.counted (p : Spc) : Spc :=
  if p.purge = 0 then p
  else if p.purgePulses < 7 then { p with purgePulses := p.purgePulses + 1 }
  else { p with purge := p.purge - 1, purgePulses := 0 }

/-- R10, R19: a spindle record once a start has been taken, with the purge VOL's answer calls for. -/
def Spc.started (long : Bool) (p : Spc) : Spc :=
  { p with
    state := .accelerating, level := 255, brake := false, purge := if long then 1200 else 100, purgePulses := 0,
    inRun := 0, slowRun := 0, outRun := 0, satRun := 0, stopConfirmed := false, startTimer := some 15000000,
    relockTimer := none, brakeTimer := none, waitPwr := false, waitRcv := false, heldStart := none }

/-- R13, R14: a turning spindle record once PWR's stop has been taken. -/
def Spc.braked (cause : StopCause) (p : Spc) : Spc :=
  { p with
    state := .braking, level := 0, brake := true, lastStop := cause, inRun := 0, slowRun := 0, outRun := 0,
    satRun := 0, startTimer := none, relockTimer := none, brakeTimer := some 20000000, waitPwr := true,
    heldStart := none }

/-- R31: the position record of heads on their way to the ramp, with any seek ended (R32, R39). -/
def Act.toRamp (a : Act) : Act :=
  { a.leave with head := .unloading, seek := none, targetEnded := a.targetEnded || a.seek.isSome,
                 unload := some 300000 }

/-- R33: the position record of heads that retract, with any seek ended (R39). -/
def Act.retracted (a : Act) : Act :=
  { a.leave with head := .retracting, seek := none, targetEnded := a.targetEnded || a.seek.isSome,
                 retract := some 300000 }

/-! ## How an order at work comes to its end -/

/-- What a wedge read on a followed servo leaves at a block boundary (R24, R25, R44, R45). -/
def Act.boundary (a : Act) (cylinder : Nat) (error : Int) : Act :=
  { a.hear cylinder error with stage1 := some 1875, gate := false }

/-- The order at work is the last of the only chain, no cancel is taken for it, nobody else waits for the
mechanism, and a notice has a place. -/
structure State.LastOrder (s : State) (i : Nat) (c : Chain) (j : Job) : Prop where
  job : s.che.job = some j
  running : j.phase ≠ .ending
  mech : s.che.mech = .order
  chain : j.chain = some i
  only : s.chains = [(i, c)]
  order : c.order = some j.order
  last : j.order.flags.link = false ∧ j.order.flags.chain = false
  cancel : c.cancel = false
  no_pass : s.pass = none
  pass0 : s.vol0.pass ≠ .pending
  pass1 : s.vol1.pass ≠ .pending
  stage : s.rcv.stage = .none
  progress : s.pwr.progress = .none
  none_waiting : s.lnk.waiting = []
  place : s.ntu.queue.length < 8

/-- R109 to R112: the order at work in `s` has ended, and its chain with it: the completion is the newest notice,
the mechanism is free, and the chain's slots and wants are gone. A held EJECT and a SET POWER's wait go with the
order (log 37). -/
def State.ChainOver (s : State) (b : Completion) (t : State) : Prop :=
  t = { s with act := { s.act with gate := false, loads := s.act.loads.filter fun r => r.party != .che },
               xfer := none, che := t.che, bbf := t.bbf, lnk := t.lnk, ntu := { s.ntu with queue := t.ntu.queue },
               pwr := { s.pwr with idle := 0, setWait := none }, rcv := { s.rcv with heldEject := none } } ∧
    t.chains = [] ∧ t.che.mech = .free ∧ t.che.job = none ∧ t.che.counter = s.che.counter ∧
    t.bbf.slots = (s.bbf.slots.map fun x => if x.heldFor b.tag then .free else x) ∧
    t.bbf.delivery = s.bbf.delivery ∧ (∀ w ∈ t.bbf.wants, w.tag ≠ b.tag) ∧
    t.bbf.records = (s.bbf.records.filter fun w => w.tag != b.tag) ∧ t.lnk = { s.lnk with out := t.lnk.out } ∧
    t.ntu.queue.map (·.body) = s.ntu.queue.map (·.body) ++ [.completion b]

/-- R34, R35: the heads, over a valid position elsewhere, have begun the order's seek to a place. -/
def State.SeekBegun (s : State) (g : Target) (t : State) : Prop :=
  t.act = { s.act with
    head := .seeking, gate := false, target := some g, targetEnded := false, retries := 0, comb := g.comb,
    seek := some { party := .che, target := g, phase := .running }, arrived := false, settle := none,
    settleTime := t.act.settleTime, plan := t.act.plan, seekTimeout := t.act.seekTimeout } ∧
  let d := distance g.cylinder s.act.cylinder
  let plan := 1000 * planTime d (decide (g.comb ≠ s.act.comb))
  let settle := if d = 0 then 0 else 2000
  t.act.plan = some plan ∧ t.act.settleTime = settle ∧ t.act.seekTimeout = some (2 * (plan + settle))

/-- R80: the order at work in `s` has begun a header write of its volume's context, under the label `l`: its seek
is under way, and all four blocks are to be written. -/
def State.HeaderBegun (s : State) (j : Job) (l : Label) (use : HeaderUse) (t : State) : Prop :=
  t = beginFrame { s with
    act := t.act, xfer := none,
    che := { s.che with job := some { j with
      phase := .seek, task := .header use, todo := (List.range 4).map fun k => { slot := k, rewrites := 0 },
      firstWrite := true, header := headerBytes l (s.vol j.vol).slips (s.vol j.vol).alts,
      placed := t.che.job.bind (·.placed) } } } ∧
    State.SeekBegun s { cylinder := 0, comb := 2 * j.order.volume } t

/-! ## The laws of the blocks -/

/-- R1: what each spindle state fixes of the two outputs. -/
def Spc.Outputs (p : Spc) : Prop :=
  match p.state with
  | .stopped => p.level = 0 ∧ p.brake = false
  | .accelerating => p.level = 255 ∧ p.brake = false
  | .locking | .locked => 40 ≤ p.level ∧ p.level ≤ 255 ∧ p.brake = false
  | .braking => p.level = 0 ∧ p.brake = true
  | .spinFault => p.level = 0 ∧ p.brake = !p.stopConfirmed

/-- R5 to R7, R14, R19: the ranges of the runs and of the purge; the run that would end the present state
stays below its end. -/
def Spc.Ranges (p : Spc) : Prop :=
  p.inRun ≤ 24 ∧ p.slowRun ≤ 8 ∧ p.outRun ≤ 4 ∧ p.satRun ≤ 6 ∧ p.purge ≤ 1200 ∧ p.purgePulses ≤ 7 ∧
    (p.state = .locking → p.inRun < 24 ∧ p.slowRun < 8) ∧ (p.state = .locked → p.outRun < 4)

/-- R23, R26: heads off the ramp, and load permission, only on a locked and purged spindle. -/
def State.HeadLaw (s : State) : Prop :=
  (s.act.head.loaded = true → s.spc.state = .locked ∧ s.spc.purge = 0) ∧
    (s.act.permission = true → s.spc.state = .locked ∧ s.spc.purge = 0)

/-- R45: write gate only in FOLLOWING, with the last position error within ±12%, over a volume that is not
write-protected. -/
def State.GateLaw (s : State) : Prop :=
  s.act.gate = true → s.act.head = .following ∧ withinError 12 s.act.error = true ∧
    (s.vol (Vol.ofComb s.act.comb)).writeProtect = false

/-- R142: the latch is released only over a stopped spindle and parked heads, in the two stages that
release it. -/
def State.LatchLaw (s : State) : Prop :=
  s.rcv.latch = .released →
    s.spc.state = .stopped ∧ s.act.head = .parked ∧ (s.rcv.stage = .releasing ∨ s.rcv.stage = .doorOpen)

/-- R158: a descent's cause is HOST ORDER or IDLE. -/
def State.DescentLaw (s : State) : Prop := ∀ c ∈ s.pwr.descent, c = .hostOrder ∨ c = .idle

/-- 6.4, R57: the holder of the mechanism is the order or the pass at work in it. -/
def State.MechanismLaw (s : State) : Prop :=
  (s.che.mech = .order ↔ s.che.job.isSome = true) ∧
    ∀ v, s.che.mech = .pass v ↔ ∃ p, s.pass = some p ∧ p.lent = false ∧ p.volume = v

/-- The attention kinds NTU holds, in the queue and in the attention set. -/
def Ntu.kinds (n : Ntu) : List Nat :=
  (n.queue.filterMap fun m => match m.body with | .attention a => some a.code | _ => none) ++ n.set.map (·.code)

/-- R173: at most 8 notices, one of each attention kind over queue and set together, and nothing waiting
while a place is free. -/
def State.NoticeLaw (s : State) : Prop :=
  s.ntu.queue.length ≤ 8 ∧ s.ntu.kinds.Nodup ∧
    (∀ p ∈ s.chains, p.2.state = .ended → p.2.completion.isSome = true) ∧
    (s.ntu.queue.length < 8 →
      s.ntu.set = [] ∧ ∀ p ∈ s.chains, p.2.state ≠ .ended ∧ p.2.progress = none)

/-- A slot holds a read block for the host (R129). -/
def BlockSlot.isFilledRead : BlockSlot → Bool
  | .filledRead _ _ _ _ _ _ => true
  | _ => false

/-- R129, R131: eight slots; the delivery queue holds the FILLED-READ ones, each once. -/
def Bbf.BufferLaw (b : Bbf) : Prop :=
  b.slots.length = 8 ∧ b.delivery.Nodup ∧
    ∀ i, i ∈ b.delivery ↔ (b.slots.getD i .free).isFilledRead = true

/-- R67: strictly ascending by track. -/
def ascending (slips : List Slip) : Prop := slips.Pairwise fun a b => a.track < b.track

/-- R50, R53, R67, R68: a context's tables in their form, no block in two alternate slots, and its counters in
their ranges. -/
def VolCtx.TableLaw (c : VolCtx) : Prop :=
  ascending c.slips ∧ c.slips.length ≤ 128 ∧ (∀ e ∈ c.slips, e.track ≤ 819 ∧ e.slot ≤ 31) ∧
    c.alts.length = 64 ∧ (assignedBlocks c.alts).Nodup ∧ (∀ b ∈ assignedBlocks c.alts, b ≤ 25419) ∧
    c.generation ≤ 65535 ∧ c.corrected ≤ 65535 ∧
    c.rereads ≤ 65535 ∧ c.dataChecks ≤ 65535

/-- R49, R51: the states each volume can have, and the protection that volume 0 never has. -/
def State.VolumeLaw (s : State) : Prop :=
  s.vol0.TableLaw ∧ s.vol1.TableLaw ∧ s.vol0.writeProtect = false ∧
    s.vol0.state ≠ .empty ∧ s.vol0.state ≠ .present ∧ s.vol0.state ≠ .leaving ∧ s.vol1.state ≠ .unmounted

/-- What an order at work has made sure of, for the tables it will change: a task is begun after the range
check (R83, R105); a track is formatted only where the list has room for its entry (R89); an alternate slot is
written only while no slot is ASSIGNED to the block (R93). -/
def Job.WorkLaw (j : Job) (c : VolCtx) : Prop :=
  (j.phase = .start ∨ j.phase = .load ∨ j.phase = .mount ∨ j.phase = .ejectHeld ∨ j.phase = .power →
      j.task = .none) ∧
    (j.task ≠ .none ∨ j.phase = .load ∧ stateCheck j.order.kind c = .passes → rangeCheck j.order = true) ∧
    match j.task with
    | .none | .block | .seekOnly | .altTrack _ => True
    | .header use =>
      use = .stale →
        j.order.kind = .formatTrack ∧ tableFull j.order c.slips = false ∨ j.order.kind = .assignAlternate
    | .format => j.order.kind = .formatTrack ∧ tableFull j.order c.slips = false
    | .altRead => j.order.kind = .assignAlternate
    | .altWrite _ | .altVerify _ => j.order.kind = .assignAlternate ∧ j.order.block ∉ assignedBlocks c.alts

/-- Between steps: no report on its way, the mechanism with its holder, a lent pass with the order that waits
for it, and the order at work as its checks left it. -/
def State.WorkLaw (s : State) : Prop :=
  s.inbox = [] ∧ s.MechanismLaw ∧ (∀ p ∈ s.pass, p.lent = true → ∃ j ∈ s.che.job, j.phase = .mount) ∧
    ∀ j ∈ s.che.job, j.WorkLaw (s.vol j.vol)

/-- R183, R184: bytes that are one whole frame, whatever its check, or one byte that is no lead. -/
def WholeFrame (bytes : List Byte) : Prop :=
  (∃ b, b ≠ 0xC3#8 ∧ bytes = [b]) ∨
    ∃ kind tag payload check, payload.length ≤ 65535 ∧ bytes = rawFrame kind tag payload check

/-- R184, R188: between frames, with at most two replies, if the commands on hand are the hardware's. -/
def State.LinkLaw (s : State) : Prop :=
  s.lnk.stage = .awaitLead ∧ s.lnk.replies.length ≤ 2 ∧ (∀ b ∈ s.lnk.waiting, WholeFrame b) ∧
    ∀ c ∈ s.pending, c.wellFormed = true

/-- A law that every step keeps. -/
def KeptByStep (law : State → Prop) : Prop := ∀ s t, law s → step s = .next t → law t

end Sys2Proof.Machine
end

