-- ==== Sys2Proof/Certificates/Slice0/Obligations.lean ====
section
/-! DEFINITION. The statements for the provers. `Ready`, `Listening`, `Clear` and `Quiet` (Sys2Proof/Safety.lean) name
the states a command meets; a result written `.next { s with … }` is also its frame: whatever it does not
name is as before. -/

open Sys2Proof Sys2Proof.Machine

/-! ## The whole part -/

/-- A step runs the command at the front of the queue on the queue's rest; an empty queue idles (log 28). -/
def Obligations.StepRunsTheFrontCommand : Prop :=
  ∀ (c : Instr) (rest : List Instr) (s : State),
    step { s with pending := c :: rest } = exec c { s with pending := rest } ∧
      step { s with pending := [] } = .next { s with pending := [] }

/-- R156, R188: every command but one taken under a low 5 V supply leaves the part at rest; the lamp shows its
table and an open lane has nothing to send. That the table goes before the sentence of R156 that has the lamp OFF in
DOOR OPEN, where a refusal indication runs there, is the model's choice (log 45). -/
def Obligations.EveryStepEndsAtRest : Prop :=
  (∀ s t : State, s.pending ≠ [] → step s = .next t → t.pins.logicLow = true ∨ t.settled = true) ∧
  ∀ (c : Instr) (s t : State), exec c s = .next t → t.pins.logicLow = false →
    (t.rcv.lamp =
      if t.rcv.stage = .draining ∨ t.rcv.stage = .unloading ∨ t.rcv.stage = .stopping ∨
          t.rcv.stage = .releasing ∨ t.rcv.refusal.isSome = true then .flashing
      else if t.rcv.latch = .locked ∧ t.rcv.presence = true ∧ t.spc.state ≠ .stopped then .on
      else .off) ∧
    (t.lnk.out = none → t.pins.ready = true → t.pins.linkReset = false →
      t.lnk.replies = [] ∧ t.bbf.wants = [] ∧ t.bbf.delivery = [] ∧
        ∀ m ∈ t.ntu.queue.head?, m.sending = true)

/-- R103, R104: after every command a free mechanism has nobody it could be granted to. -/
def Obligations.ArbiterLeavesNothingWaiting : Prop :=
  ∀ (c : Instr) (s t : State), exec c s = .next t → t.pins.logicLow = false → t.che.mech = .free →
    t.pwr.state ≠ .faultHold →
      (t.rcv.stage = .none → t.vol0.pass ≠ .pending ∧ t.vol1.pass ≠ .pending) ∧
      ∀ p ∈ t.chains, p.2.state ≠ .paused ∧
        (t.rcv.stage = .none → p.2.state = .queued → p.2.order = none)

/-! ## Laws that every step keeps -/

/-- R1: drive level and brake are those of the spindle state, and the runs and the purge stay in range. -/
def Obligations.SpindleLawKept : Prop := KeptByStep fun s => s.spc.Outputs ∧ s.spc.Ranges

/-- R45: write gate is on only in FOLLOWING, within ±12%, over a volume that is not write-protected. -/
def Obligations.GateLawKept : Prop := KeptByStep State.GateLaw

/-- R23, R26, R142, R158: the heads are off the ramp only over a locked and purged spindle, the latch is released
only over a stopped one with the heads parked, and PWR's stops carry no cause but HOST ORDER and IDLE. -/
def Obligations.HeadAndLatchLawKept : Prop := KeptByStep fun s => s.HeadLaw ∧ s.LatchLaw ∧ s.DescentLaw

/-- 6.4: the holder of the mechanism is the order or the pass at work. -/
def Obligations.MechanismLawKept : Prop := KeptByStep State.MechanismLaw

/-- R173: nothing waits while the notice queue has a place, and no attention kind is held twice. -/
def Obligations.NoticeLawKept : Prop := KeptByStep State.NoticeLaw

/-- R129, R131: the delivery queue is the FILLED-READ slots, each once. -/
def Obligations.BufferLawKept : Prop := KeptByStep fun s => s.bbf.BufferLaw

/-- R50, R51, R67, R68: the tables keep their form, with at most 128 slip entries in range and no block in two
alternate slots, and volume 0 is never write-protected; the work of table-changing orders keeps them so. -/
def Obligations.VolumeLawKept : Prop := KeptByStep fun s => s.VolumeLaw ∧ s.WorkLaw

/-- R184, R188: between frames, with at most two replies held. -/
def Obligations.LinkLawKept : Prop := KeptByStep State.LinkLaw

/-- The state after power-on reset meets every law, whatever the 12 V supply and the input levels. -/
def Obligations.ResetMeetsEveryLaw : Prop :=
  ∀ (good : Bool) (pins : Pins),
    let s := State.powerOn good pins
    s.spc.Outputs ∧ s.spc.Ranges ∧ s.HeadLaw ∧ s.GateLaw ∧ s.LatchLaw ∧ s.DescentLaw ∧ s.MechanismLaw ∧
      s.NoticeLaw ∧ s.bbf.BufferLaw ∧ s.VolumeLaw ∧ s.WorkLaw ∧ s.LinkLaw

/-! ## What several statements speak of -/

/-- R4: the drive level after one regulation step for an interval of `t` ticks: a quarter of t - 5,000, truncated
toward zero and held within ±12, is added, and the sum is held within 40 to 255. -/
def levelAfter (level t : Nat) : Nat :=
  let quarter : Int := if 5000 ≤ t then ((t - 5000) / 4 : Nat) else -((5000 - t) / 4 : Nat)
  let step := if quarter < -12 then -12 else if 12 < quarter then 12 else quarter
  let sum : Int := level + step
  if sum < 40 then 40 else if 255 < sum then 255 else sum.toNat

/-- R159, R168: the power state becomes `p`, with its POWER STATE event where that is a change; a SET POWER wait for
it is over. -/
def powerBecomes (p : PowerState) (s : State) : State :=
  if s.pwr.state = p then s
  else
    { s with
      pwr := { s.pwr with state := p, setWait := if s.pwr.setWait = some p then none else s.pwr.setWait },
      ntu := s.ntu.attend (.powerState p s.pwr.state) }

/-- R65, R161: the power state becomes the target and the move is over; both contexts are dropped at DORMANT. -/
def targetReached (s : State) : State :=
  let t := powerBecomes s.pwr.target { s with pwr := { s.pwr with progress := .none, descent := none } }
  if s.pwr.target = .dormant ∧ s.pwr.state ≠ .dormant then
    { t with
      vol0 := s.vol0.drop .unmounted none,
      vol1 := match s.vol1.state with
        | .empty => s.vol1.drop .empty none
        | .leaving => s.vol1.drop .leaving (some .present)
        | _ => s.vol1.drop .present none }
  else t

/-- R161, R170: what a STOPPED answer to PWR does, where PWR waits for it. -/
def stoppedAnswered (s : State) : State :=
  if s.spc.waitPwr = true ∧ s.pwr.progress = .waitStopped then
    if s.pwr.state = .faultHold then { s with pwr := { s.pwr with progress := .none } } else targetReached s
  else s

/-- R19, R54: the purge of a start is the long one. -/
def purgeIsLong (s : State) : Bool := decide (s.vol1.state = .present) && !s.vol1.mountedSince

/-! ## Spindle Controller -/

/-- R2, R3: ACCELERATING ends at an interval of 5,250 ticks or less; a pulse at the moment of saturation is
followed by no interval of length 0. -/
def Obligations.AcceleratingInterval : Prop :=
  ∀ (s : State) (ticks : Nat), s.Ready → s.spc.state = .accelerating →
    exec (.tachPulse ticks) s = .next
      (if 0 < s.spc.interval + ticks ∧ min 65535 (s.spc.interval + ticks) ≤ 5250 then
        { s with spc := { s.spc with interval := 0, state := .locking, level := 160, inRun := 0, slowRun := 0 },
                 act := { s.act with permission := false } }
      else { s with spc := { s.spc with interval := 0 } }) ∧
    exec .saturatedInterval s = .next { s with spc := { s.spc with interval := 0 } }

/-- R2, R4 to R6, R19: an interval in LOCKING that does not reach lock, ended by a pulse or by saturation; the
eighth slow one in a row returns to ACCELERATING. A pulse at the moment of saturation is counted toward the purge
and starts no interval of length 0. -/
def Obligations.LockingInterval : Prop :=
  ∀ (s : State) (ticks : Nat), s.Ready → s.spc.state = .locking → s.spc.slowRun < 8 →
    let taken := fun (c : Instr) (t : Nat) (p : Spc) =>
      let run := if 4975 ≤ t ∧ t ≤ 5025 then s.spc.inRun + 1 else 0
      let slow := if 5750 < t then s.spc.slowRun + 1 else 0
      (run < 24 → slow < 8 → exec c s = .next
        { s with spc := { p with interval := 0, level := levelAfter p.level t, inRun := run, slowRun := slow } }) ∧
      (slow = 8 → exec c s = .next
        { s with spc := { p with interval := 0, state := .accelerating, level := 255, inRun := 0, slowRun := 0 },
                 act := { s.act with permission := false } })
    let t := min 65535 (s.spc.interval + ticks)
    (t = 0 → exec (.tachPulse ticks) s = .next { s with spc := { s.spc.counted with interval := 0 } }) ∧
    (0 < t → taken (.tachPulse ticks) t s.spc.counted) ∧ taken .saturatedInterval 65535 s.spc

/-- R5, R20, R28, R163: the 24th in-window interval brings LOCKED, and with the purge done, load permission, with
which a waiting load over parked heads starts. PWR's move up to STANDBY or ACTIVE ends at LOCKED, and a load raises the
drive to ACTIVE. -/
def Obligations.LockReached : Prop :=
  ∀ (s : State) (ticks : Nat), s.Ready → s.spc.state = .locking → s.spc.inRun = 23 →
    (∀ j ∈ s.che.job, j.phase ≠ .power) →
    let t := min 65535 (s.spc.interval + ticks)
    let p := s.spc.counted
    4975 ≤ t → t ≤ 5025 →
    let low := s.pwr.state = .sleep ∨ s.pwr.state = .dormant
    let up :=
      if s.pwr.target = .standby ∧ low then PowerState.standby
      else if s.pwr.target = .active ∧ s.pwr.progress = .waitSpin ∧ (low ∨ s.pwr.state = .standby) then .active
      else s.pwr.state
    let lockedAt :=
      { s with spc := { p with interval := 0, level := levelAfter p.level t, inRun := 24, slowRun := 0,
                               state := .locked, outRun := 0, startTimer := none, relockTimer := none },
               act := { s.act with permission := s.act.permission || decide (p.purge = 0) },
               pwr := { s.pwr with progress := if up = s.pwr.state then s.pwr.progress else .none } }
    ((p.purge ≠ 0 ∨ s.act.head ≠ .parked ∨ s.act.loads = []) →
      exec (.tachPulse ticks) s = .next (State.rest (powerBecomes up lockedAt))) ∧
    (∀ r rest, p.purge = 0 → s.act.head = .parked → s.act.loads = r :: rest →
      let risen := powerBecomes up lockedAt
      let loading :=
        { risen with
          act := { risen.act with
            head := .loading, comb := 2 * r.volume.toNat, attempt := 1, acquisition := some 400000 }
          pwr := { risen.pwr with target := .active, progress := .none, descent := none } }
      exec (.tachPulse ticks) s = .next (State.rest
        (if up = .faultHold then loading else powerBecomes .active loading)))

/-- R2, R4, R7, R19, R20: an interval in LOCKED that keeps lock, ended by a pulse or by saturation, and a pulse at
the moment of saturation; load permission comes with the purge's end. -/
def Obligations.LockedInterval : Prop :=
  ∀ (s : State) (ticks : Nat), s.Ready → s.spc.state = .locked → s.act.loads = [] →
    let taken := fun (c : Instr) (p : Spc) (level run : Nat) => exec c s = .next
      { s with spc := { p with interval := 0, level := level, outRun := run },
               act := { s.act with permission :=
                 s.act.permission || (decide (s.spc.purge ≠ 0) && decide (p.purge = 0)) } }
    let t := min 65535 (s.spc.interval + ticks)
    let p := s.spc.counted
    let run := if 4975 ≤ t ∧ t ≤ 5025 then 0 else s.spc.outRun + 1
    (t = 0 → taken (.tachPulse ticks) p p.level p.outRun) ∧
    (0 < t → run < 4 → taken (.tachPulse ticks) p (levelAfter p.level t) run) ∧
    (s.spc.outRun < 3 → taken .saturatedInterval s.spc (levelAfter s.spc.level 65535) (s.spc.outRun + 1))

/-- R7, R8, R32: the lock loss, by a pulse or by a saturated interval, over heads that are loaded and over heads
that are not. That the second reports nothing to an order that waits for a load is the model's reading (log 9), and so
is that no load permission comes with a purge that the same pulse ends (log 39). -/
def Obligations.LockLoss : Prop :=
  ∀ (s : State) (c : Instr) (t : Nat) (p : Spc), s.spc.state = .locked → s.spc.outRun = 3 →
    (c = .saturatedInterval ∧ t = 65535 ∧ p = s.spc ∨
      ∃ ticks, c = .tachPulse ticks ∧ t = min 65535 (s.spc.interval + ticks) ∧ 0 < t ∧ p = s.spc.counted) →
    ¬ (4975 ≤ t ∧ t ≤ 5025) →
    let spc := { p with interval := 0, level := levelAfter p.level t, outRun := 4, state := .locking, inRun := 0,
                        slowRun := 0, relockTimer := some 5000000 }
    (s.Ready → s.act.head.loaded = false → exec c s = .next
      { s with spc := spc, act := { s.act with permission := false } }) ∧
    (s.Quiet → s.act.head.loaded = true → exec c s = .next
      { s with spc := spc, act := { s.act.toRamp with permission := false }, xfer := none })

/-- R2, R10, R13, R14, R18: the stop test in BRAKING, and in SPIN FAULT until it has passed. A tach pulse starts it
again, whatever its interval; a saturated interval counts. The sixth in a row stops the spindle: the waiters are
answered, and a start held in BRAKING is taken; in SPIN FAULT with no waiter the stop is only confirmed. That a pulse at
the moment of saturation starts the test again too is the model's reading (log 8). -/
def Obligations.StopTest : Prop :=
  ∀ (s : State) (ticks : Nat),
    (s.spc.state = .braking ∨ s.spc.state = .spinFault ∧ s.spc.stopConfirmed = false) →
    let answered := stoppedAnswered { s with act := { s.act with permission := false } }
    let done := { s.spc with interval := 0, satRun := 6, brake := false }
    (s.Ready → exec (.tachPulse ticks) s = .next { s with spc := { s.spc with interval := 0, satRun := 0 } }) ∧
    (s.Ready → s.spc.satRun < 5 → exec .saturatedInterval s = .next
      { s with spc := { s.spc with interval := 0, satRun := s.spc.satRun + 1 } }) ∧
    (s.Clear → s.spc.satRun = 5 → s.spc.state = .braking → exec .saturatedInterval s = .next (State.rest
      { answered with
        spc := if s.spc.heldStart = none then
            { done with state := .stopped, level := 0, brakeTimer := none, waitPwr := false, waitRcv := false }
          else { s.spc with interval := 0 }.started (purgeIsLong s) })) ∧
    (s.Clear → s.spc.satRun = 5 → s.spc.state = .spinFault → (s.spc.waitPwr = true ∨ s.spc.waitRcv = true) →
      exec .saturatedInterval s = .next (State.rest { answered with
        spc := { done with state := .stopped, waitPwr := false, waitRcv := false } })) ∧
    (s.Ready → s.spc.satRun = 5 → s.spc.state = .spinFault → s.spc.waitPwr = false → s.spc.waitRcv = false →
      exec .saturatedInterval s = .next { s with spc := { done with stopConfirmed := true } })

/-- R15 to R18, R159, R161, R164: the three timeouts bring SPIN FAULT, and PWR falls to SLEEP, or from DORMANT rises
to it where that becomes its target, with the POWER STATE event. In FAULT HOLD the power record stands. -/
def Obligations.SpinFaultEntered : Prop :=
  ∀ (s : State) (c : Instr), s.Clear → s.act.head.loaded = false →
    (c = .startTimerExpiry ∧ s.spc.startTimer ≠ none ∧
        (s.spc.state = .accelerating ∨ s.spc.state = .locking) ∨
      c = .relockTimerExpiry ∧ s.spc.relockTimer ≠ none ∧
        (s.spc.state = .accelerating ∨ s.spc.state = .locking) ∨
      c = .brakeTimerExpiry ∧ s.spc.brakeTimer ≠ none ∧ s.spc.state = .braking) →
    let fault := { s with
      spc := { s.spc with
        state := .spinFault, level := 0, brake := true, stopConfirmed := false, lastStop := .spinFault,
        startTimer := none, relockTimer := none, brakeTimer := none, inRun := 0, slowRun := 0, outRun := 0,
        satRun := if s.spc.state = .braking then s.spc.satRun else 0 }
      act := { s.act with permission := false } }
    let low := fun (p : PowerState) => if p = .active ∨ p = .standby then PowerState.sleep else p
    let state := if s.pwr.state = .dormant then low s.pwr.target else low s.pwr.state
    let target := low s.pwr.target
    (s.pwr.state = .faultHold → exec c s = .next (State.rest fault)) ∧
    (s.pwr.state ≠ .faultHold → exec c s = .next (State.rest (powerBecomes state { fault with
      pwr := { s.pwr with
        target := target, progress := if s.pwr.progress = .waitSpin then .none else s.pwr.progress,
        descent := if target.below state then s.pwr.descent else none } })))

/-! ## Placement Unit -/

/-- R73: the track and the position of a block with no alternate. -/
def Obligations.PrimaryPlacement : Prop :=
  ∀ (slips : List Slip) (alts : List Alt) (v block : Nat), block ≤ 25419 →
    (∀ a, alts.getD a .free ≠ .assigned block) →
    ∃ p, translate slips alts v block = some p ∧ p.kind = .primary (block / 31) (block % 31) ∧
      block / 31 ≤ 819 ∧ block % 31 ≤ 30 ∧ p.cylinder = 2 + block / 31 / 2 ∧ 2 ≤ p.cylinder ∧
      p.cylinder ≤ 411 ∧ p.volumeHead = block / 31 % 2 ∧ block / 31 = 2 * (p.cylinder - 2) + p.volumeHead ∧
      ∀ k, (block / 31 = 2 * k → p.cylinder = 2 + k ∧ p.volumeHead = 0) ∧
        (block / 31 = 2 * k + 1 → p.cylinder = 2 + k ∧ p.volumeHead = 1)

/-- R72: a block with an alternate slot ASSIGNED to it is placed there, and only such a block. -/
def Obligations.AlternatePlacement : Prop :=
  ∀ (slips : List Slip) (alts : List Alt) (v block : Nat), block ≤ 25419 →
    (∀ a b, alts.getD a .free = .assigned block → alts.getD b .free = .assigned block → a = b) →
    (∀ a, alts.getD a .free = .assigned block → translate slips alts v block =
      some { volume := v, block := block, kind := .alternate a, cylinder := 1, volumeHead := a / 32,
             comb := 2 * v + a / 32, slot := a % 32 }) ∧
    ((∀ a, alts.getD a .free ≠ .assigned block) →
      ∀ p, translate slips alts v block = some p → ∀ a, p.kind ≠ .alternate a)

/-- R74: the slip adjustment, and where a placement can lie. -/
def Obligations.SlipAdjustment : Prop :=
  ∀ (slips : List Slip) (alts : List Alt) (v block : Nat), block ≤ 25419 → alts.length = 64 →
    (∃ p, translate slips alts v block = some p ∧ p.comb = 2 * v + p.volumeHead ∧ 1 ≤ p.cylinder ∧
      p.cylinder ≤ 411 ∧ p.slot ≤ 31 ∧ ((∃ a, p.kind = .alternate a) → p.cylinder = 1) ∧
      ∀ track r, p.kind = .primary track r → 2 ≤ p.cylinder ∧
        (findSlip slips track = none → p.slot = r) ∧
        ∀ e, findSlip slips track = some e →
          p.slot = (if e.slot ≤ r then r + 1 else r) ∧ p.slot ≠ e.slot) ∧
    ∀ e : Slip,
      (∀ q r, q < r → slipAdjust (some e) q < slipAdjust (some e) r) ∧
      (e.slot ≤ 31 → ∀ slot, slot ≤ 31 → slot ≠ e.slot → ∃ r, r ≤ 30 ∧ slipAdjust (some e) r = slot)

/-- R71 to R74: two blocks of a volume never share a place on the medium. -/
def Obligations.PlacementsAreDistinct : Prop :=
  ∀ (slips : List Slip) (alts : List Alt) (v a b : Nat) (p q : Placement), alts.length = 64 →
    translate slips alts v a = some p → translate slips alts v b = some q →
    p.cylinder = q.cylinder → p.comb = q.comb → p.slot = q.slot → a = b

/-! ## Formats -/

/-- R59, R80, 12.5: a header written is 2,048 bytes and reads back as what was written. -/
def Obligations.HeaderReadsBack : Prop :=
  ∀ (label : Label) (slips : List Slip) (alts : List Alt), label.formatCount < 65536 →
    label.serial < 4294967296 → slips.length ≤ 128 → ascending slips →
    (∀ e ∈ slips, e.track ≤ 819 ∧ e.slot ≤ 31) → alts.length = 64 →
    (∀ b ∈ assignedBlocks alts, b ≤ 25419) → (assignedBlocks alts).Nodup →
      (headerBytes label slips alts).length = 2048 ∧
        readHeader (headerBytes label slips alts) = some { label := label, slips := slips, alts := alts }

/-- 11.2, R184, R192: the bytes of a frame are taken as that frame, and its check makes their sum 0. -/
def Obligations.FrameAssembled : Prop :=
  ∀ (s : State) (kind tag check : Byte) (payload : List Byte), s.lnk.stage = .awaitLead →
    payload.length ≤ 65535 →
      lnkBytes (rawFrame kind tag payload check) s =
        takeFrame (frameSum kind tag payload check) kind tag payload.length (payload.take 640)
          (s.updLnk Lnk.clear) ∧
      (frameBytes kind tag payload).foldl (· + ·) 0 = 0 ∧
      ∃ c, frameBytes kind tag payload = rawFrame kind tag payload c ∧ frameSum kind tag payload c = 0

/-- The 14 bytes of an order record (12.2), reserved bytes 0. -/
def orderBytes (o : Order) : List Byte :=
  let code : OrderKind → Nat
    | .read => 0 | .write => 1 | .verify => 2 | .seek => 3 | .formatTrack => 4 | .assignAlternate => 5
    | .initializeVolume => 6 | .holdMedium => 7 | .releaseMedium => 8 | .eject => 9 | .setPower => 10
  let bit := fun (b : Bool) (n : Nat) => if b then n else 0
  [byteOf (code o.kind),
   byteOf (bit o.flags.chain 1 + bit o.flags.link 2 + bit o.flags.acceptShort 4 + bit o.flags.notify 8),
   byteOf o.volume, byteOf (bit o.generation.isSome 1 + bit o.slip.isSome 2)] ++
    be16 o.block ++ be16 o.count ++ be16 (o.generation.getD 0) ++
    match o.kind with
    | .initializeVolume => be32 o.serial
    | .formatTrack => be16 o.track ++ [byteOf (o.slip.getD 0), 0]
    | .setPower => [byteOf ((o.power.map PowerState.toCode).getD 0), 0, 0, 0]
    | _ => [0, 0, 0, 0]

/-- An order whose fields fit their bytes, with the fields its kind does not carry at rest (R98). -/
def orderFits (o : Order) : Prop :=
  o.volume < 256 ∧ o.block < 65536 ∧ o.count < 65536 ∧ (∀ g ∈ o.generation, g < 65536) ∧
    o.serial < 4294967296 ∧ o.track < 65536 ∧ (∀ p ∈ o.slip, p < 256) ∧
    (o.kind ≠ .initializeVolume → o.serial = 0) ∧ (o.kind ≠ .formatTrack → o.track = 0 ∧ o.slip = none) ∧
    (o.kind = .setPower → o.power ≠ none ∧ o.power ≠ some .faultHold) ∧ (o.kind ≠ .setPower → o.power = none)

/-- 12.2, R191: every order of a CHAIN frame is read back as it was written, whichever of the 11 kinds. -/
def Obligations.OrderRecordsReadBack : Prop :=
  ∀ orders : List Order, orders.length ≤ 255 → (∀ o ∈ orders, orderFits o) →
    readOrders (byteOf orders.length :: orders.flatMap orderBytes) = orders.map some

/-! ## Actuator Controller -/

/-- R25, R28, R42, R44, R45: a wedge report in every head state but SETTLING, where no transfer, no seek, no order
and no pass waits on it. -/
def Obligations.WedgeHeard : Prop :=
  ∀ (s : State) (w cyl : Nat) (err : Int) (out : ReadOutcome) (data : List Byte), s.Ready →
    ((s.act.head = .parked ∨ s.act.head = .unloading ∨ s.act.head = .retracting) →
      exec (.wedgeReport w cyl err out data) s = .next s) ∧
    (s.act.head = .seeking → exec (.wedgeReport w cyl err out data) s = .next
      { s with act := { s.act with
          error := err, cylinder := if s.act.valid then cyl else s.act.cylinder, stage1 := some 1875 } }) ∧
    (s.act.head = .following → s.xfer = none → s.che.job = none → s.pass = none → s.act.seek = none →
      exec (.wedgeReport w cyl err out data) s = .next
        { s with act := { s.act with
            error := err, cylinder := if s.act.valid then cyl else s.act.cylinder, stage1 := some 1875,
            gate := false } }) ∧
    (s.act.head = .reacquiring → s.act.seek = none → (∀ j ∈ s.che.job, j.phase ≠ .busy) →
      (∀ p ∈ s.pass, p.phase ≠ .busy) → exec (.wedgeReport w cyl err out data) s = .next
        { s with act := { s.act with
            head := .following, error := err, cylinder := if s.act.valid then cyl else s.act.cylinder,
            stage2 := none, watchdog := .stage1, stage1 := some 1875 } }) ∧
    (s.act.head = .loading → s.che.job = none → s.pass = none → s.act.seek = none → s.act.loads.length ≤ 2 →
      (s.vol0.state.mountNeed = false ∨ s.vol0.pass ≠ .none) →
      (s.vol1.state.mountNeed = false ∨ s.vol1.pass ≠ .none) →
      exec (.wedgeReport w cyl err out data) s = .next
        { s with act := { s.act with
            head := .following, error := err, cylinder := cyl, valid := true, acquisition := none, attempt := 0,
            watchdog := .stage1, stage1 := some 1875, loads := [] } })

/-- R28, R34, R56 to R58: heads that come to FOLLOWING over an unmounted volume 0 begin its mount pass, which
takes the mechanism and asks for cylinder 0. -/
def Obligations.LoadBeginsMountPass : Prop :=
  ∀ (s : State) (w cyl : Nat) (err : Int) (out : ReadOutcome) (data : List Byte), s.Quiet →
    s.act.head = .loading → s.act.seek = none → s.act.loads.length ≤ 2 → s.vol0.state = .unmounted →
    s.vol1.state.mountNeed = false → s.pwr.state ≠ .faultHold →
    ∃ t, exec (.wedgeReport w cyl err out data) s = .next t ∧
      t = { s with act := t.act, vol0 := t.vol0, pass := t.pass, che := t.che } ∧
      t.vol0 = { s.vol0 with state := .mounting, pass := .running } ∧
      t.che = { s.che with mech := .pass .v0 } ∧
      t.act.cylinder = cyl ∧ t.act.valid = true ∧ t.act.comb = 0 ∧ t.act.loads = [] ∧
      t.act.target = some { cylinder := 0, comb := 0 } ∧ t.act.gate = false ∧
      (if cyl = 0 ∧ s.act.comb = 0 then
        t.act.head = .following ∧ t.act.seek = none ∧ ∃ p, t.pass = some p ∧ p.volume = .v0 ∧ p.phase = .read
      else
        t.act.head = .seeking ∧ t.act.plan = some (1000 * planTime cyl (decide (s.act.comb ≠ 0))) ∧
          ∃ p, t.pass = some p ∧ p.volume = .v0 ∧ p.phase = .seek)

/-- R25, R29, R31, R33: the acquisition timer gives a second attempt, and then the load has failed; the ramp report
and the two timers end an unload or a retract, and a ramp report in any other head state is ignored. -/
def Obligations.LoadAndUnloadTimers : Prop :=
  (∀ s : State, s.act.head = .loading → s.act.acquisition ≠ none →
    (s.Ready → s.act.attempt = 1 → exec .acquisitionTimerExpiry s = .next
      { s with act := { s.act with attempt := 2, acquisition := some 400000 } }) ∧
    (s.Quiet → s.act.attempt = 2 → s.act.loads.length ≤ 2 → exec .acquisitionTimerExpiry s = .next
      (State.rest { s with act := { s.act.toRamp with loads := [] }, xfer := none,
                           ntu := s.ntu.attend (.positionLostLoadFault true) }))) ∧
  ∀ (s : State) (c : Instr), s.Ready →
    (c = .rampReport ∧ (s.act.head = .unloading ∨ s.act.head = .retracting) ∨
      c = .unloadTimerExpiry ∧ s.act.head = .unloading ∧ s.act.unload ≠ none ∨
      c = .retractTimerExpiry ∧ s.act.head = .retracting ∧ s.act.retract ≠ none →
      s.act.loads = [] → s.rcv.stage ≠ .unloading → s.pwr.progress ≠ .waitParked →
      exec c s = .next { s with act := { s.act with head := .parked, unload := none, retract := none } }) ∧
    (s.act.head ≠ .unloading → s.act.head ≠ .retracting → exec .rampReport s = .next s)

/-- R36, R37: the end of the plan time; the wedges of SETTLING that do not fail the attempt, those of another cylinder
between two settle periods among them; and the completion, at the end of a settle period or at the arrival wedge of a
head switch, which answers the order or the pass that asked. -/
def Obligations.SeekEnds : Prop :=
  ∀ (s : State) (w cyl : Nat) (err : Int) (out : ReadOutcome) (data : List Byte), s.Ready →
    let heard := { s.act with
      error := err, cylinder := if s.act.valid then cyl else s.act.cylinder, stage1 := some 1875 }
    (s.act.head = .seeking → s.act.plan ≠ none → exec .planTimeEnd s = .next
      { s with act := { s.act with head := .settling, plan := none, settle := none, arrived := false } }) ∧
    (s.act.head = .settling → ∀ k ∈ s.act.seek,
      (cyl = k.target.cylinder → s.act.arrived = false → s.act.settleTime ≠ 0 →
        exec (.wedgeReport w cyl err out data) s = .next
          { s with act := { heard with arrived := true, settle := some 2000 } }) ∧
      (cyl = k.target.cylinder → s.act.arrived = true → exec (.wedgeReport w cyl err out data) s = .next
        { s with act := { heard with
            settle := if 12 < err.natAbs then none else if s.act.settle = none then some 2000 else s.act.settle } }) ∧
      (cyl ≠ k.target.cylinder → s.act.arrived = true → s.act.settle = none →
        exec (.wedgeReport w cyl err out data) s = .next { s with act := heard }) ∧
      ∀ (c : Instr) (a : Act),
        (c = .settlePeriodEnd ∧ s.act.settle ≠ none ∧ a = s.act ∨
          c = .wedgeReport w cyl err out data ∧ cyl = k.target.cylinder ∧ s.act.arrived = false ∧
            s.act.settleTime = 0 ∧ a = heard) →
        let act := { a with head := .following, seekTimeout := none, plan := none, settle := none, seek := none }
        (∀ j ∈ s.che.job, k.party = .che → j.phase = .seek → j.task ≠ .seekOnly → s.pass = none →
          (jobCancelled j s = false ∨ j.pastFirstWrite = true) →
          exec c s = .next { s with act := act, che := { s.che with job := some { j with phase := .ready } } }) ∧
        (∀ p ∈ s.pass, k.party = .vol → p.phase = .seek → (∀ j ∈ s.che.job, j.phase ≠ .busy) →
          exec c s = .next { s with act := act, pass := some { p with phase := .read } }))

/-- R35, R37, R38, R42: a seek attempt fails by its timeout, by an arrival wedge or a wedge of a settle period that
names another cylinder, or by the wedge that ends its interruption: a re-seek starts twice, and the third failure is a
SEEK ERROR. -/
def Obligations.SeekFails : Prop :=
  ∀ (s : State) (c : Instr) (a : Act) (w cyl : Nat) (err : Int) (out : ReadOutcome) (data : List Byte), s.Ready →
    ∀ k ∈ s.act.seek,
    let heard := { s.act with
      error := err, cylinder := if s.act.valid then cyl else s.act.cylinder, stage1 := some 1875 }
    (c = .seekTimeoutExpiry ∧ (s.act.head = .seeking ∨ s.act.head = .settling) ∧ s.act.seekTimeout ≠ none ∧
        a = s.act ∨
      c = .wedgeReport w cyl err out data ∧ s.act.head = .settling ∧ cyl ≠ k.target.cylinder ∧
        (s.act.arrived = false ∨ s.act.settle ≠ none) ∧ a = heard ∨
      c = .wedgeReport w cyl err out data ∧ s.act.head = .reacquiring ∧ k.phase = .interrupted ∧
        a = { heard with stage2 := none, watchdog := .stage1 }) →
      let d := distance k.target.cylinder a.cylinder
      let again := { a with
        gate := false, settle := none, arrived := false, retries := s.act.retries + 1, comb := k.target.comb,
        seek := some { k with phase := .running }, settleTime := 2000 }
      let plan := 1000 * planTime d (decide (k.target.comb ≠ s.act.comb))
      (s.act.retries < 2 → exec c s = .next
        { s with act :=
            if d = 0 then { again with head := .settling, plan := none, seekTimeout := some 4000 }
            else { again with head := .seeking, plan := some plan, seekTimeout := some (2 * (plan + 2000)) } }) ∧
      (2 ≤ s.act.retries → s.che.job = none → s.pass = none → exec c s = .next
        { s with act := { a with
            head := .following, valid := false, seek := none, seekTimeout := none, plan := none,
            settle := none } })

/-- R41, R43, R44, R164: the two stages of the servo watchdog. The first abandons a transfer under way, to be
made again; the second loses the position. That this takes in a write whose gate was refused, without counting, and the
write of FORMAT TRACK's BAD slot, which R90 also has written once, is the model's choice (log 40). -/
def Obligations.WatchdogExpires : Prop :=
  ∀ s : State,
    let lost := { s.act with
      head := .reacquiring, gate := false, watchdog := .stage2, stage1 := none, stage2 := some 50000,
      seekTimeout := none, plan := none, settle := none, seek := s.act.seek.map Seek.lose }
    (s.Ready → (s.act.head = .following ∨ s.act.head = .seeking ∨ s.act.head = .settling) →
      s.act.stage1 ≠ none → s.pass = none →
      (s.che.job = none → exec .stage1Expiry s = .next { s with act := lost, xfer := none }) ∧
      (∀ j ∈ s.che.job, j.phase = .under → jobStops j s = false → j.due = none →
        exec .stage1Expiry s = .next
          { s with act := lost, xfer := none, che := { s.che with job := some { j with phase := .ready } } })) ∧
    (s.Quiet → s.act.head = .reacquiring → s.act.stage2 ≠ none → exec .stage2Expiry s = .next
      (State.rest { s with
        act := s.act.toRamp, xfer := none, ntu := s.ntu.attend (.positionLostLoadFault false),
        pwr := if s.pwr.target = .active ∧ s.pwr.state ≠ .faultHold then
            { s.pwr with target := .standby, descent := some .idle, progress := .waitParked }
          else s.pwr }))

/-- R123: the identity of the slot under way: unreadable, as expected, of the right cylinder but wrong, or of
another cylinder, which has ACT seek the place again; a try counted at the place before stands, but for one of a seek
that ended early (R39). That an order whose want has expired is placed again too, and that a write whose gate was refused has its
identity read and is placed again uncounted, is the model's choice (log 40). -/
def Obligations.SlotIdentity : Prop :=
  ∀ (s : State) (i : Identity), s.Ready → ∀ x ∈ s.xfer, x.kind ≠ .writeSlot → x.seen = .notRead →
    exec (.slotIdentityRead none) s = .next { s with xfer := some { x with seen := .unreadable } } ∧
    (x.identity = some i →
      exec (.slotIdentityRead (some i)) s = .next { s with xfer := some { x with seen := .agrees } }) ∧
    (x.identity ≠ some i → i.cylinder = x.place.cylinder →
      exec (.slotIdentityRead (some i)) s = .next { s with xfer := some { x with seen := .disagrees } }) ∧
    (x.identity ≠ some i → i.cylinder ≠ x.place.cylinder → s.act.head = .following → s.pass = none →
      ∀ j ∈ s.che.job, j.phase = .under →
        let place : Target := { cylinder := x.place.cylinder, comb := x.place.comb }
        let tries := if s.act.target = some place ∧ s.act.targetEnded = false then s.act.retries else 0
        tries < 2 →
        ∃ t, exec (.slotIdentityRead (some i)) s = .next t ∧
          t = { s with act := t.act, xfer := none,
                       che := { s.che with job := some { j with phase := .seek } } } ∧
          t.act.target = some place ∧ t.act.retries = tries + 1 ∧ t.act.gate = false ∧
          t.act.comb = x.place.comb ∧
          t.act.head = (if x.place.cylinder = s.act.cylinder then .settling else .seeking))

/-- R44, R46, R47, R124 to R128, R130, R138, R139: the closing wedge of a block of READ, WRITE or VERIFY. One that
goes unread sets a read aside and abandons a write, and the block is tried again. One that gives a read its final
outcome, or keeps a write, counts the block's bytes and moves the stream on: a READ block's slot becomes FILLED-READ, with
the check mark where the data could not be read, and joins the delivery queue; a read's outcome is counted by the volume,
and the first of the run that could not be read gives the chain its fault location; a WRITE block's slot becomes FREE.
The order goes on with its next block, which may begin at the same wedge; where it has none and ends its chain, the chain
ends DATA CHECK, LENGTH MISMATCH or CLEAN by the flags of the run. That a transfer closed with no identity reported counts
as one with an unreadable identity is the model's reading (log 10, DEDUCED), no rule's; so is it that the chain's end also
clears a held EJECT and a SET POWER's wait (log 37, DEDUCED). That a write whose gate was refused stays under way to its
closing wedge, and is counted there, is the model's choice (log 40). -/
def Obligations.BlockCloses : Prop :=
  ∀ (s : State) (data : List Byte), s.Ready → s.pass = none → ∀ x ∈ s.xfer, ∀ j ∈ s.che.job,
    j.task = .block → x.seen ≠ .disagrees → jobStops j s = false →
    (x.kind = .read → j.tries < 3 → exec (.closingWedgeUnread data) s = .next
      { s with xfer := none, act := { s.act with gate := false },
               che := { s.che with job := some { j with phase := .ready, tries := j.tries + 1 } } }) ∧
    (x.kind = .writeData → j.due = none → j.tries < 2 → exec (.closingWedgeUnread data) s = .next
      { s with xfer := none, act := { s.act with gate := false },
               che := { s.che with job := some { j with phase := .ready, tries := j.tries + 1 } } }) ∧
    ∀ (cyl : Nat) (err : Int) (out final : ReadOutcome) (i b : Nat) (c : Chain) (p : Placement),
      s.act.head = .following → s.act.seek = none → j.chain = some i → s.chainAt i = some c → j.due = none →
      j.placement = some p → j.phase = .under → data.length = 512 →
      let length := if j.blk + 1 = j.order.blocks ∧ j.order.count % 512 ≠ 0 then j.order.count % 512 else 512
      let report := Instr.wedgeReport ((x.place.slot + 1) % 32) cyl err out data
      let read := x.kind = .read ∧
        (x.seen = .agrees ∧ out ≠ .uncorrectable ∧ x.openError.natAbs ≤ 20 ∧ err.natAbs ≤ 20 ∧ final = out ∨
          j.tries = 3 ∧ (x.seen ≠ .agrees ∨ out = .uncorrectable ∨ 20 < x.openError.natAbs ∨ 20 < err.natAbs) ∧
            final = .uncorrectable)
      let kept := x.kind = .writeData ∧ x.seen = .agrees ∧ x.gated = true ∧ x.openError.natAbs ≤ 12 ∧
        err.natAbs ≤ 12 ∧ final = .clean
      let lost := decide (final = .uncorrectable)
      let fault := if final = .uncorrectable ∧ c.fault = none then
          some { volume := p.volume, block := p.block, cylinder := p.cylinder, comb := p.comb, slot := p.slot }
        else c.fault
      let flags := { j.flags with corrected := j.flags.corrected || decide (final = .corrected),
                                  dataCheck := j.flags.dataCheck || lost }
      let filled := { s.bbf with
        slots := s.bbf.slots.set b (.filledRead c.tag c.index c.sequence length lost (data.take length)),
        delivery := s.bbf.delivery ++ [b] }
      let freed := { s.bbf with slots := s.bbf.slots.set b .free }
      let closed := fun (bbf : Bbf) =>
        { (s.updVol j.vol fun v => if x.kind = .writeData then v else { v with
            corrected := if final = .corrected then min 65535 (v.corrected + 1) else v.corrected,
            rereads := min 65535 (v.rereads + j.tries),
            dataChecks := if final = .uncorrectable then min 65535 (v.dataChecks + 1) else v.dataChecks }) with
          act := s.act.boundary cyl err, xfer := none, bbf := bbf }
      let goesOn := fun (bbf : Bbf) (lane : Bool) =>
        ∃ t, exec report s = .next t ∧ (lane = false → t.bbf = bbf ∧ t.lnk = s.lnk) ∧
          t = { closed bbf with
                act := t.act, xfer := t.xfer, che := t.che, bbf := t.bbf, lnk := { s.lnk with out := t.lnk.out } } ∧
          t.chainAt i = some { c with
            transferred := c.transferred + length, sequence := c.sequence + 1, fault := fault,
            state := ((t.chainAt i).map (·.state)).getD c.state } ∧
          (∃ k, t.che.job = some k ∧ k.order = j.order ∧ k.blk = j.blk + 1 ∧ k.tries = 0 ∧ k.flags = flags) ∧
          t.bbf.delivery = bbf.delivery ∧ t.bbf.records = bbf.records ∧
          ∀ n, bbf.slots.getD n .free ≠ .free → t.bbf.slots.getD n .free = bbf.slots.getD n .free
      let ends := fun (bbf : Bbf) =>
        let short := decide (j.order.count % 512 ≠ 0) && !j.order.flags.acceptShort
        let raised := c.flags.join { flags with lengthMismatch := flags.lengthMismatch || short }
        ∃ t, exec report s = .next t ∧ State.ChainOver (closed bbf)
          { tag := c.tag, flags := raised, reached := c.index,
            code := if raised.dataCheck then .dataCheck else if raised.lengthMismatch then .lengthMismatch else .clean,
            residual := j.order.count - (c.transferred + length),
            fault := if raised.dataCheck then fault else none } t
      (j.order.kind = .verify → read →
        (j.blk + 1 < j.order.blocks → goesOn s.bbf false) ∧
        (j.order.blocks = j.blk + 1 → s.LastOrder i c j → ends s.bbf)) ∧
      (j.order.kind = .read → read → s.bbf.slots.findIdx? (BlockSlot.readFor c.tag c.sequence) = some b →
        (j.blk + 1 < j.order.blocks → goesOn filled true) ∧
        (j.order.blocks = j.blk + 1 → s.LastOrder i c j → ends filled)) ∧
      (j.order.kind = .write → kept → s.bbf.slots.findIdx? (BlockSlot.carries c.tag c.sequence) = some b →
        (j.blk + 1 < j.order.blocks →
          (∀ q, c.sequence < q → q < runBlocks c.run → ∃ n, n ≠ b ∧
            BlockSlot.carries c.tag q (s.bbf.slots.getD n .free) = true) → goesOn freed false) ∧
        (j.order.blocks = j.blk + 1 → s.LastOrder i c j → ends freed))

/-! ## Mount passes and table-changing orders -/

/-- R51, R53, R54, R57 to R60: the closing wedge of a header block ends a mount pass that runs under its own grant. A
block set aside for the fourth time ends it HEADER FAULT; the last block accepted ends it MOUNTED, with what the
header says, if all four were read under their own identities and the header is valid, and otherwise UNFORMATTED. That a block
whose identity was never reported counts as one with an unreadable identity, and so is set aside, is the model's reading
(log 10, DEDUCED), no rule's. -/
def Obligations.MountPassEnds : Prop :=
  ∀ (s : State) (p : Pass) (x : Xfer) (b : HeaderBlock) (cyl : Nat) (err : Int) (out : ReadOutcome)
    (data : List Byte), s.Ready → s.act.head = .following → s.act.seek = none → s.pass = some p → p.lent = false →
    (s.vol p.volume).state ≠ .leaving → s.che.mech = .pass p.volume → s.che.job = none → s.chains = [] →
    s.vol0.pass ≠ .pending → s.vol1.pass ≠ .pending → s.rcv.stage = .none → s.pwr.progress = .none →
    s.lnk.waiting = [] → s.xfer = some x → p.blocks[x.place.slot]? = some b → x.place.slot < 4 →
    (∀ q ∈ p.blocks, q.setAside ≤ 3) →
    let v := p.volume
    let c := s.vol v
    let aside := x.seen = .notRead ∨ x.seen = .unreadable ∨ out = .uncorrectable ∨ 20 < x.openError.natAbs ∨
      20 < err.natAbs
    let fault := { c with
      state := .headerFault, pass := .none, stale := false, label := none, slips := [],
      alts := List.replicate 64 .free, writeProtect := if v = .v1 then s.pins.tabProtect else c.writeProtect,
      mountedSince := if v = .v1 then true else c.mountedSince }
    let unformatted := { fault with
      state := .unformatted, generation := if c.generation < 65535 then c.generation + 1 else 1, corrected := 0,
      rereads := 0, dataChecks := 0 }
    let ends := fun (c' : VolCtx) => exec (.wedgeReport (x.place.slot + 1) cyl err out data) s = .next (State.rest
      { (s.updVol v fun _ => c') with
        act := { s.act.boundary cyl err with loads := s.act.loads.filter fun r => r.party != .vol },
        xfer := none, pass := none, che := { s.che with mech := .free },
        ntu := s.ntu.attend (.mediumMounted v c'.state c'.generation) })
    let blocks := p.blocks.set x.place.slot
      { b with tried := true, data := some data, identityOk := decide (x.seen = .agrees) }
    let header := readHeader (blocks.flatMap fun q => q.data.getD [])
    (aside → b.setAside = 3 → ends fault) ∧
    (¬ aside → (∀ q ∈ blocks, q.data ≠ none) →
      (∀ h, header = some h → (∀ q ∈ blocks, q.identityOk = true) →
        ends { unformatted with state := .mounted, label := some h.label, slips := h.slips, alts := h.alts }) ∧
      (header = none ∨ (∃ q ∈ blocks, q.identityOk = false) → ends unformatted))

/-- R80, R85 to R87, R90, R91: the last slot of a table-changing order's work that is written. A track formatted
changes the slip list and has the header written, or, with the list as it was, ends the order CLEAN; a header write
clears header-stale and ends its order CLEAN, or sets it and ends its order HEADER FAULT at a third abandoned write;
the second alternate track completes INITIALIZE VOLUME, which ends CLEAN or has the retirements written. That an
order's end also clears a held EJECT and a SET POWER's wait is the model's reading (log 37); that a write whose gate was
refused stays under way to its closing wedge, and is counted there, is its choice (log 40). -/
def Obligations.TableOrdersWrite : Prop :=
  ∀ (s : State) (x : Xfer) (j : Job) (i : Nat) (c : Chain) (l : Label) (n cyl : Nat) (err : Int)
    (out : ReadOutcome) (data : List Byte), s.Ready → s.act.head = .following → s.act.seek = none →
    s.act.valid = true → s.pass = none → s.xfer = some x → x.kind = .writeSlot → s.che.job = some j →
    j.phase = .under → j.todo = [{ slot := x.place.slot, rewrites := n }] →
    let v := s.vol j.vol
    let kept := x.gated = true ∧ x.openError.natAbs ≤ 12 ∧ err.natAbs ≤ 12
    let report := Instr.wedgeReport ((x.place.slot + 1) % 32) cyl err out data
    let closed := fun (f : VolCtx → VolCtx) =>
      { (s.updVol j.vol f) with act := s.act.boundary cyl err, xfer := none }
    let completion := fun (code : EndCode) (fault : Option FaultLocation) =>
      ({ tag := c.tag, code := code, flags := c.flags.join j.flags, reached := c.index, residual := 0,
         fault := fault } : Completion)
    (j.order.kind = .formatTrack → j.task = .format → kept ∨ j.order.slip = some x.place.slot →
      ascending v.slips → ∀ new, ascending new →
      (∀ e : Slip, e ∈ new ↔ e.track = j.order.track ∧ some e.slot = j.order.slip ∨
        e.track ≠ j.order.track ∧ e ∈ v.slips) →
      (new ≠ v.slips → v.label = some l → cyl ≠ 0 → ∃ t, exec report s = .next t ∧
        State.HeaderBegun (closed fun v => { v with slips := new }) { j with todo := [] } l
          (.own .clean .headerFault) t) ∧
      (new = v.slips → s.LastOrder i c j → (c.flags.join j.flags).dataCheck = false →
        (c.flags.join j.flags).lengthMismatch = false →
        ∃ t, exec report s = .next t ∧ State.ChainOver (closed id) (completion .clean none) t)) ∧
    (j.order.kind = .formatTrack → j.task = .header (.own .clean .headerFault) → s.LastOrder i c j →
      (c.flags.join j.flags).dataCheck = false → (c.flags.join j.flags).lengthMismatch = false →
      j.placed = some x.place →
      (kept → ∃ t, exec report s = .next t ∧
        State.ChainOver (closed fun v => { v with stale := false }) (completion .clean none) t) ∧
      (¬ kept → 2 ≤ n → ∃ t, exec report s = .next t ∧
        State.ChainOver (closed fun v => { v with stale := true }) (completion .headerFault (some
          { volume := j.order.volume, block := 31 * j.order.track, cylinder := x.place.cylinder,
            comb := x.place.comb, slot := x.place.slot })) t)) ∧
    (j.order.kind = .initializeVolume → j.task = .altTrack 1 → kept ∨ 2 ≤ n → ∀ failed,
      failed = (if kept then j.failed else j.failed ++ [32 + x.place.slot]) →
      let generation := if v.generation < 65535 then v.generation + 1 else 1
      let mounted := fun (v : VolCtx) => { v with
        state := if v.state = .leaving then .leaving else .mounted,
        before := if v.state = .leaving then some .mounted else v.before, label := j.newLabel, slips := [],
        alts := (List.range 64).map fun a => if a ∈ failed then .retired else .free, generation := generation,
        mountedSince := if j.vol = .v1 then true else v.mountedSince }
      let done := { closed mounted with ntu := s.ntu.attend (.mediumMounted j.vol .mounted generation) }
      (failed = [] → s.LastOrder i c j → s.ntu.queue.length < 7 → (c.flags.join j.flags).dataCheck = false →
        (c.flags.join j.flags).lengthMismatch = false →
        ∃ t, exec report s = .next t ∧ State.ChainOver done (completion .clean none) t) ∧
      (failed ≠ [] → j.newLabel = some l → cyl ≠ 0 → ∃ t, exec report s = .next t ∧
        State.HeaderBegun done { j with todo := [], failed := failed } l .retirements t))

/-- R92 to R95: ASSIGN ALTERNATE. Its read fills the transfer copy, is counted, and retires an old alternate; the
lowest-indexed FREE slot is sought and written, a kept write is verified in place, and the verify assigns the slot to
the block and has the header written, or retires the slot and goes on to the next FREE one; with none left and the map
changed, the header is written on the way to NO ALTERNATE. Two things are the model's reading, no rule's: that the end of
the order's read counts as its first write (log 34, DEDUCED), and that a verify read with a wrong identity is counted with
the outcome the channel gave it (log 37, DEDUCED). -/
def Obligations.AlternatesAssigned : Prop :=
  ∀ (s : State) (x : Xfer) (j : Job) (l : Label) (a cyl : Nat) (err : Int) (out : ReadOutcome) (data : List Byte),
    s.Ready → s.act.head = .following → s.act.seek = none → s.act.valid = true → s.pass = none → s.xfer = some x →
    s.che.job = some j → j.phase = .under → j.order.kind = .assignAlternate → data.length = 512 →
    (s.vol j.vol).alts.length = 64 → err.natAbs ≤ 20 → x.openError.natAbs ≤ 20 →
    let v := s.vol j.vol
    let block := j.order.block
    let report := Instr.wedgeReport ((x.place.slot + 1) % 32) cyl err out data
    let place := fun (a : Nat) => ({ cylinder := 1, comb := 2 * j.order.volume + a / 32 } : Target)
    let counted := fun (o : ReadOutcome) (n : Nat) (v : VolCtx) => { v with
      corrected := if o = ReadOutcome.corrected then min 65535 (v.corrected + 1) else v.corrected,
      rereads := min 65535 (v.rereads + n),
      dataChecks := if o = ReadOutcome.uncorrectable then min 65535 (v.dataChecks + 1) else v.dataChecks }
    let lowest := fun (alts : List Alt) (a : Nat) => alts[a]? = some .free ∧ ∀ b, b < a → alts[b]? ≠ some .free
    let closed := fun (f : VolCtx → VolCtx) =>
      { (s.updVol j.vol f) with act := s.act.boundary cyl err, xfer := none }
    (x.kind = .read → j.task = .altRead → jobStops j s = false → (assignedBlocks v.alts).Nodup → ∀ final copied,
      (x.seen = .agrees ∧ out ≠ .uncorrectable ∧ final = out ∧ copied = data ∨
        (x.seen = .unreadable ∨ x.seen = .agrees ∧ out = .uncorrectable) ∧ j.tries = 3 ∧
          final = .uncorrectable ∧ copied = List.replicate 512 0) →
      let alts := v.alts.map fun y => if y = .assigned block then .retired else y
      let read := { closed (fun v => { counted final j.tries v with alts := alts }) with copy := copied }
      let job := { j with
        firstWrite := true, changed := j.changed || decide (alts ≠ v.alts),
        flags := { j.flags with corrected := j.flags.corrected || decide (final = .corrected),
                                dataCheck := j.flags.dataCheck || decide (final = .uncorrectable) } }
      (lowest alts a → cyl ≠ 1 → ∃ t, exec report s = .next t ∧ State.SeekBegun read (place a) t ∧
        t = { read with
          act := t.act
          che := { s.che with
            job := some { job with phase := .seek, task := .altWrite a, tries := 0,
                                   placed := t.che.job.bind (·.placed) } } }) ∧
      (.free ∉ alts → alts ≠ v.alts → v.label = some l → cyl ≠ 0 → ∃ t, exec report s = .next t ∧
        State.HeaderBegun read job l (.own .noAlternate .noAlternate) t)) ∧
    (x.kind = .writeSlot → j.task = .altWrite a → j.firstWrite = true → x.place.slot = a % 32 → cyl = 1 →
      s.act.comb = (place a).comb → x.gated = true → x.openError.natAbs ≤ 12 → err.natAbs ≤ 12 →
      ∃ t, exec report s = .next t ∧ t = { closed id with
        che := { s.che with
          job := some { j with phase := .ready, task := .altVerify a, tries := 0,
                               placed := t.che.job.bind (·.placed) } } }) ∧
    (x.kind = .read → j.task = .altVerify a → v.alts[a]? = some .free → j.firstWrite = true → cyl = 1 →
      (out = .clean → x.seen = .agrees → data = s.copy → v.label = some l → ∃ t, exec report s = .next t ∧
        State.HeaderBegun (closed fun v => { counted .clean 0 v with alts := v.alts.set a (.assigned block) })
          { j with changed := true } l (.own .clean .headerFault) t) ∧
      (x.seen = .agrees ∧ ¬ (out = .clean ∧ data = s.copy) ∨ x.seen = .disagrees →
        let alts := v.alts.set a .retired
        let failed := closed fun v => { counted out 0 v with alts := alts }
        (∀ b, lowest alts b → ∃ t, exec report s = .next t ∧
          t = { failed with act := t.act, xfer := t.xfer, che := t.che } ∧
          t.che = { s.che with job := t.che.job } ∧ ∃ k, t.che.job = some k ∧
            k = { j with changed := true, task := .altWrite b, tries := 0, phase := k.phase, placed := k.placed,
                         transferred := k.transferred }) ∧
        (.free ∉ alts → v.label = some l → ∃ t, exec report s = .next t ∧
          State.HeaderBegun failed { j with changed := true } l (.own .noAlternate .noAlternate) t)))

/-! ## Chain Engine -/

/-- R102: which of two chains is older, across the wrap of the acceptance number; and of chains whose numbers
were given out within six of one another, the oldest is the one accepted first. -/
def Obligations.OlderChain : Prop :=
  (∀ a b : Nat, a < 65536 → b < 65536 →
    (olderNumber a b = true ↔ 1 ≤ ((b : Int) - a) % 65536 ∧ ((b : Int) - a) % 65536 ≤ 32767)) ∧
  (∀ n i j : Nat, i < 6 → j < 6 → (olderNumber ((n + i) % 65536) ((n + j) % 65536) = true ↔ i < j)) ∧
  ∀ (n : Nat) (ps : List (Nat × Chain)), (∀ p ∈ ps, ∃ i, i < 6 ∧ p.2.number = (n + i) % 65536) →
    (oldest ps = none ↔ ps = []) ∧
    ∀ p, oldest ps = some p → p ∈ ps ∧ ∀ q ∈ ps, q.2.number ≠ p.2.number → olderNumber p.2.number q.2.number = true

/-- R100, R101, R186: a CHAIN frame that passes every check takes the lowest FREE slot, QUEUED, and while the
arbiter may not grant it the mechanism, it waits there. -/
def Obligations.ChainAccepted : Prop :=
  ∀ (s : State) (tag : Byte) (payload : List Byte) (o : Order) (i : Nat), s.Listening →
    payload.length = 1 + 14 * (byteAt payload 0).toNat → payload.length ≤ 640 →
    acceptanceRefusal tag.toNat (readOrders payload) s = none →
    (readOrders payload)[0]? = some (some o) → o.kind.mechanismFree = false →
    (s.che.mech ≠ .free ∨ s.rcv.stage ≠ .none ∨ s.pwr.state = .faultHold) →
    (∀ j ∈ s.che.job, ∀ k ∈ j.chain, (s.chainAt k).isSome = true) →
    s.che.table.findIdx? (·.isNone) = some i →
    exec (.chain tag payload) s = .next
      (State.replied { kind := 0x01#8, tag := tag, reason := none, body := [] }
        { s with
          che := { s.che with
            table := s.che.table.set i (some
              { tag := tag.toNat, number := s.che.counter, orders := (readOrders payload).filterMap id, index := 0,
                state := .queued, transferred := 0, sequence := 0, flags := Flags.empty, cancel := false,
                progress := none, fault := none, completion := none })
            counter := (s.che.counter + 1) % 65536 }
          pwr := { s.pwr with idle := 0 } })

/-- R100, R113, R133, R185, R186, R191: a frame that is refused, by LNK or by its owner, adds its reply and
does nothing else. -/
def Obligations.RefusedFrames : Prop :=
  ∀ (s : State) (tag : Byte) (payload : List Byte), s.Listening →
    let refuse := fun (kind : Byte) (r : Reason) =>
      State.replied { kind := kind, tag := tag, reason := some r, body := [] } s
    (payload.length = 1 + 14 * (byteAt payload 0).toNat → payload.length ≤ 640 →
      ∀ r ∈ acceptanceRefusal tag.toNat (readOrders payload) s,
        exec (.chain tag payload) s = .next (refuse 0x01#8 r)) ∧
    (payload.length ≠ 1 + 14 * (byteAt payload 0).toNat → payload.length ≤ 65535 →
      exec (.chain tag payload) s = .next (refuse 0x01#8 .length)) ∧
    (s.findTag tag.toNat = none → exec (.cancel tag []) s = .next (refuse 0x03#8 .unknownTag)) ∧
    (∀ i ∈ s.findTag tag.toNat, ∀ c ∈ s.chainAt i, c.state = .ended →
      exec (.cancel tag []) s = .next (refuse 0x03#8 .tooLate)) ∧
    (3 ≤ payload.length → payload.length ≤ 514 →
      s.bbf.slots.any (BlockSlot.awaits tag.toNat (numberAt payload 0 2)) = false →
        exec (.data tag payload) s = .next (refuse 0x02#8 .unwanted)) ∧
    (∀ kind : Byte, inboundKind kind = false → payload.length ≤ 65535 →
      exec (.unknownFrameKind kind tag payload) s = .next (refuse kind .kind)) ∧
    (∀ kind check : Byte, frameSum kind tag payload check ≠ 0 → payload.length ≤ 65535 →
      exec (.frameRefusedCheck kind tag payload check) s = .next (refuse kind .check)) ∧
    (payload.length = 2 → 4 ≤ (byteAt payload 0).toNat →
      exec (.unknownQuerySubkind tag payload) s = .next (refuse 0x04#8 .kind))

/-- R101, R110 to R112, R114, R143: a chain of one HOLD MEDIUM or RELEASE MEDIUM runs in the event that accepts it,
with the outcome R114 gives: a hold over an EMPTY or LEAVING volume 1, or beyond 15, changes no count. -/
def Obligations.HoldMediumRunsAtOnce : Prop :=
  ∀ (s : State) (tag : Byte) (payload : List Byte) (o : Order) (code : EndCode) (holds : Nat), s.Listening →
    s.Quiet → payload.length = 15 → byteAt payload 0 = 1#8 → readOrders payload = [some o] →
    o.flags.notify = false → acceptanceRefusal tag.toNat (readOrders payload) s = none →
    s.pwr.state ≠ .faultHold → s.ntu.queue.length < 8 →
    (o.kind = .releaseMedium ∧ code = .clean ∧ holds = s.rcv.holds - 1 ∨
      o.kind = .holdMedium ∧
        (s.vol1.state = .empty ∧ code = .noMedium ∧ holds = s.rcv.holds ∨
          s.vol1.state = .leaving ∧ code = .mediumLeaving ∧ holds = s.rcv.holds ∨
          s.vol1.state ≠ .empty ∧ s.vol1.state ≠ .leaving ∧
            (15 ≤ s.rcv.holds ∧ code = .holdLimit ∧ holds = s.rcv.holds ∨
              s.rcv.holds < 15 ∧ code = .clean ∧ holds = s.rcv.holds + 1))) →
    ∃ t, exec (.chain tag payload) s = .next t ∧
      t = { s with rcv := { s.rcv with holds := holds }, pwr := { s.pwr with idle := 0 },
                   che := t.che, bbf := t.bbf, ntu := t.ntu, lnk := t.lnk } ∧
      t.chains = [] ∧ t.che.counter = (s.che.counter + 1) % 65536 ∧ t.che.mech = .free ∧
      t.lnk.replies = s.lnk.replies ++ [{ kind := 0x01#8, tag := tag, reason := none, body := [] }] ∧
      t.ntu.queue.map (·.body) = s.ntu.queue.map (·.body) ++ [.completion
        { tag := tag.toNat, code := code, flags := Flags.empty, reached := 0, residual := 0, fault := none }]

/-- R9, R10, R13, R162: the spindle record after a start that PWR asks for. -/
def wokenSpindle (s : State) : Spc :=
  match s.spc.state with
  | .stopped => if s.rcv.latch = .locked then s.spc.started (purgeIsLong s) else s.spc
  | .accelerating | .locking | .locked => s.spc
  | .braking => if s.spc.waitRcv then s.spc else { s.spc with waitPwr := false, heldStart := some .pwr }
  | .spinFault =>
    if s.spc.stopConfirmed = false ∧ s.spc.waitRcv = true then s.spc else s.spc.started (purgeIsLong s)

/-- R75, R80, R82, R85, R89, R92, R101, R103, R105, R106, R108, R115, R116, R132, R146, R147, R160, R162, R163, R168:
a chain of one mechanical order that is granted the mechanism in the event that accepts it. A medium-addressing order
that fails a start check ends with its code; one that passes them, with the heads on track elsewhere, goes to its place:
that of its block, of its track, or of a header to be written first. With the heads not loaded it asks for a load and a
wake, and over parked heads with load permission the load starts. A WRITE has its slots reserved and its data wanted.
EJECT ends MEDIUM HELD under holds, waits for the first presence report, or starts a sequence, which unloads the heads.
SET POWER ends CLEAN at the power state it names, or moves the drive down, which unloads the heads. That an order's end
also clears a held EJECT and a SET POWER's wait is the model's reading (log 37). -/
def Obligations.OrdersGranted : Prop :=
  ∀ (s : State) (tag : Byte) (payload : List Byte) (o : Order), s.Listening → s.Quiet →
    payload.length = 15 → byteAt payload 0 = 1#8 → readOrders payload = [some o] → o.flags.notify = false →
    acceptanceRefusal tag.toNat (readOrders payload) s = none → s.pwr.state ≠ .faultHold →
    s.ntu.queue.length < 8 →
    let reply : Reply := { kind := 0x01#8, tag := tag, reason := none, body := [] }
    let chain := fun (st : ChainState) =>
      ({ tag := tag.toNat, number := s.che.counter, orders := [o], index := 0, state := st, transferred := 0,
         sequence := 0, flags := Flags.empty, cancel := false, progress := none, fault := none,
         completion := none } : Chain)
    let taken := fun (st : ChainState) (mech : Holder) (job : Option Job) =>
      ({ table := s.che.table.set 0 (some (chain st)), counter := (s.che.counter + 1) % 65536, mech := mech,
         job := job } : Che)
    let ends := fun (code : EndCode) (w : Pwr) =>
      ∃ t, exec (.chain tag payload) s = .next t ∧
        t = { s with pwr := { w with idle := 0 }, che := t.che, ntu := { s.ntu with queue := t.ntu.queue },
                     lnk := { s.lnk.clear with replies := t.lnk.replies, out := t.lnk.out },
                     act := { s.act with gate := false, loads := s.act.loads.filter fun r => r.party != .che },
                     xfer := none, rcv := { s.rcv with heldEject := none },
                     bbf := { s.bbf with
                       slots := s.bbf.slots.map fun b => if b.heldFor tag.toNat then .free else b,
                       wants := t.bbf.wants, sendingSlot := t.bbf.sendingSlot,
                       records := s.bbf.records.filter fun w => w.tag != tag.toNat } } ∧
        t.chains = [] ∧ t.che.mech = .free ∧ t.che.job = none ∧ t.che.counter = (s.che.counter + 1) % 65536 ∧
        t.lnk.replies = s.lnk.replies ++ [reply] ∧
        t.ntu.queue.map (·.body) = s.ntu.queue.map (·.body) ++ [.completion
          { tag := tag.toNat, code := code, flags := Flags.empty, reached := 0,
            residual := if o.kind.transfer then o.count else 0, fault := none }]
    let c := s.vol (Vol.ofByte o.volume)
    (o.kind.mediumAddressing = true →
      (∀ code, startCheck o c = .fails code → ends code { s.pwr with setWait := none }) ∧
      (startCheck o c = .passes → s.act.head = .following → s.act.seek = none → s.act.valid = true →
        let full := o.kind = .formatTrack ∧ o.slip ≠ none ∧ (∀ e ∈ c.slips, e.track ≠ o.track) ∧
          128 ≤ c.slips.length
        let stale := (o.kind = .formatTrack ∨ o.kind = .assignAlternate) ∧ c.stale = true
        let begins := fun (g : Target) (task : Task) (more : Job → Prop) =>
          (g.cylinder ≠ s.act.cylinder ∨ g.comb ≠ s.act.comb) →
          ∃ t, exec (.chain tag payload) s = .next t ∧ State.SeekBegun s g t ∧
            (∃ j, t.che.job = some j ∧ j.chain = some 0 ∧ j.order = o ∧ j.phase = .seek ∧ j.task = task ∧ more j) ∧
            t = State.replied reply { s with
              act := t.act, che := taken .active .order t.che.job, pwr := { s.pwr with idle := 0 },
              bbf := if o.kind = .write then (reserveWrite (chain .active) s).bbf else s.bbf }
        let writes := fun (use : HeaderUse) (header : List Byte) =>
          begins { cylinder := 0, comb := 2 * o.volume } (.header use) fun j =>
            j.header = header ∧ j.todo = (List.range 4).map fun k => { slot := k, rewrites := 0 }
        (full → ends .tableFull { s.pwr with setWait := none }) ∧
        (¬ full → stale → ∀ l, c.label = some l → writes .stale (headerBytes l c.slips c.alts)) ∧
        (o.kind = .formatTrack → ¬ full → ¬ stale →
          begins { cylinder := 2 + o.track / 2, comb := 2 * o.volume + o.track % 2 } .format fun j =>
            j.todo = (List.range 32).map fun k => { slot := k, rewrites := 0 }) ∧
        (o.kind = .initializeVolume →
          let format := fun (l : Label) => if l.formatCount < 65535 then l.formatCount + 1 else 1
          let label := { formatCount := (c.label.map format).getD 1, serial := o.serial }
          writes .fresh (headerBytes label [] (List.replicate 64 .free))) ∧
        (¬ stale → ∀ p, translate c.slipsInForce c.altsInForce o.volume o.block = some p →
          (o.kind = .read ∨ o.kind = .write ∨ o.kind = .verify ∨ o.kind = .seek ∨ o.kind = .assignAlternate) →
          begins { cylinder := p.cylinder, comb := p.comb }
            (if o.kind = .seek then .seekOnly else if o.kind = .assignAlternate then .altRead else .block)
            fun j => j.placement = some p ∧ j.blk = 0)) ∧
      (startCheck o c = .passes ∨ startCheck o c = .waits → s.act.loads = [] →
        let request : LoadRequest := { party := .che, volume := Vol.ofByte o.volume }
        let waits := fun (more : State → State) =>
          ∃ j, j.chain = some 0 ∧ j.order = o ∧ j.phase = .load ∧ j.task = .none ∧
            exec (.chain tag payload) s = .next (State.replied reply (more { s with
              che := taken .active .order (some j)
              act := { s.act with loads := [request] }
              pwr := { s.pwr with idle := 0, target := .active, descent := none }
              bbf := if o.kind = .write ∧ startCheck o c = .passes then (reserveWrite (chain .active) s).bbf
                else s.bbf }))
        (s.act.head.needsLoad = true → s.act.head ≠ .parked ∨ s.act.permission = false →
          waits fun t => { t with
            spc := wokenSpindle s
            act := { t.act with permission := s.act.permission && decide ((wokenSpindle s).state = s.spc.state) }
            pwr := { t.pwr with progress := if s.pwr.state = .active then .none else .waitSpin } }) ∧
        (s.act.head = .parked → s.act.permission = true → s.spc.state = .locked →
          waits fun t => powerBecomes .active { t with
            act := { t.act with head := .loading, comb := 2 * request.volume.toNat, attempt := 1,
                                acquisition := some 400000 }
            pwr := { t.pwr with progress := .none } }))) ∧
    (o.kind = .eject → s.rcv.firstReport = true → 0 < s.rcv.holds →
      ends .mediumHeld { s.pwr with setWait := none }) ∧
    (o.kind = .eject → s.rcv.firstReport = false → ∃ t, exec (.chain tag payload) s = .next t ∧
      (∃ j, t.che.job = some j ∧ j.order = o ∧ j.phase = .ejectHeld ∧ j.chain = some 0) ∧
      t = State.replied reply { s with che := taken .active .order t.che.job, pwr := { s.pwr with idle := 0 },
                                       rcv := { s.rcv with heldEject := some tag.toNat } }) ∧
    (o.kind = .eject → s.rcv.firstReport = true → s.rcv.holds = 0 → s.rcv.pause = false →
      s.act.head.loaded = true → exec (.chain tag payload) s = .next (State.replied reply
        { s with
          che := taken .ejectWait .free none, pwr := { s.pwr with idle := 0 }, act := s.act.toRamp, xfer := none,
          vol1 := s.vol1.leave
          rcv := { s.rcv with
            stage := .unloading, source := some .host, heldEject := none,
            purpose := some (if s.rcv.presence then .cartridgeOut else .doorOpen) } })) ∧
    (o.kind = .setPower → ∀ level, o.power = some level →
      (s.pwr.state = level →
        ends .clean { s.pwr with target := level, progress := .none, descent := none, setWait := none }) ∧
      (s.pwr.state = .active → level ≠ .active → s.act.head.loaded = true →
        ∃ t, exec (.chain tag payload) s = .next t ∧
          (∃ j, t.che.job = some j ∧ j.order = o ∧ j.phase = .power ∧ j.chain = some 0) ∧
          t = State.replied reply
            { s with
              che := taken .active .order t.che.job, act := s.act.toRamp, xfer := none
              pwr := { s.pwr with idle := 0, target := level, descent := some .hostOrder, progress := .waitParked,
                                  setWait := some level } }))

/-- R112, R113: a cancel ends a QUEUED chain at once, with the residual of its order; under a block it is only
taken. -/
def Obligations.CancelTaken : Prop :=
  ∀ (s : State) (tag : Byte) (i : Nat) (c : Chain), s.Listening → s.findTag tag.toNat = some i →
    s.chainAt i = some c →
    let reply : Reply := { kind := 0x03#8, tag := tag, reason := none, body := [] }
    (c.state = .queued → s.che.job = none → s.ntu.queue.length < 8 →
      ∃ t, exec (.cancel tag []) s = .next t ∧
        t = { s with che := { s.che with table := s.che.table.set i none }, pwr := { s.pwr with idle := 0 },
                     bbf := t.bbf, ntu := t.ntu, lnk := t.lnk } ∧
        t.lnk.replies = s.lnk.replies ++ [reply] ∧
        t.ntu.queue.map (·.body) = s.ntu.queue.map (·.body) ++ [.completion
          { tag := c.tag, code := .cancelled, flags := c.flags, reached := c.index, residual := c.residual,
            fault := c.fault }]) ∧
    ((c.state = .active ∨ c.state = .dataWait) →
      (∀ j ∈ s.che.job, j.chain = some i ∧ (j.phase = .under ∨ j.phase = .seek)) →
      exec (.cancel tag []) s = .next (State.replied reply
        { s with che := { s.che with table := s.che.table.set i (some { c with cancel := true }) } }))

/-- R105: the start checks are passed by an order whose generation is the volume's, whose volume is mounted
(or, for INITIALIZE VOLUME, was read), whose range lies in it and which does not write to a protected one. -/
def Obligations.StartChecksPass : Prop :=
  ∀ (o : Order) (c : VolCtx), startCheck o c = .passes ↔
    (∀ g ∈ o.generation, g = c.generation) ∧
    (∃ st, st = (if c.state = .leaving then c.before else some c.state) ∧
      (st = some .mounted ∨ o.kind = .initializeVolume ∧ st = some .unformatted)) ∧
    inRange o = true ∧ (o.kind = .formatTrack → ∀ p ∈ o.slip, p ≤ 31) ∧
    (o.kind.writes = true → c.writeProtect = false)

/-- R37, R106, R109 to R112: the arrival of a SEEK order ends it CLEAN, and its chain with it. That the order's end also
clears a held EJECT and a SET POWER's wait is the model's reading (log 37). -/
def Obligations.SeekOrderEnds : Prop :=
  ∀ (s : State) (i : Nat) (c : Chain) (j : Job) (k : Seek), s.Ready → s.act.head = .settling →
    s.act.settle ≠ none → s.act.seek = some k → k.party = .che → s.che.mech = .order → s.che.job = some j →
    j.chain = some i → s.chains = [(i, c)] → j.phase = .seek → j.task = .seekOnly → j.order.flags.link = false →
    j.order.flags.chain = false → j.flags = Flags.empty → c.flags = Flags.empty → c.cancel = false →
    c.order = some j.order → j.order.kind = .seek → s.pass = none → s.vol0.pass ≠ .pending →
    s.vol1.pass ≠ .pending → s.rcv.stage = .none → s.pwr.progress = .none → s.lnk.waiting = [] →
    s.act.loads = [] → s.ntu.queue.length < 8 →
    ∃ t, exec .settlePeriodEnd s = .next t ∧
      t = { s with
        act := { s.act with head := .following, seekTimeout := none, plan := none, settle := none, seek := none,
                            gate := false },
        xfer := none, che := t.che, bbf := t.bbf, ntu := t.ntu, lnk := t.lnk,
        pwr := { s.pwr with idle := 0, setWait := none }, rcv := { s.rcv with heldEject := none } } ∧
      t.chains = [] ∧ t.che.mech = .free ∧ t.che.job = none ∧
      t.ntu.queue.map (·.body) = s.ntu.queue.map (·.body) ++ [.completion
        { tag := c.tag, code := .clean, flags := Flags.empty, reached := c.index, residual := 0, fault := none }]

/-- R70, R128, R139: the blocks of a transfer order carry exactly its count, and the order is in range when
every one of them lies in the volume. -/
def Obligations.BlocksCarryTheCount : Prop :=
  ∀ o : Order, 1 ≤ o.count → o.count ≤ 65535 →
    1 ≤ o.blocks ∧ o.blocks ≤ 128 ∧ ((List.range o.blocks).map o.blockLength).sum = o.count ∧
    (∀ k, k < o.blocks → 1 ≤ o.blockLength k ∧ o.blockLength k ≤ 512) ∧
    (o.kind.transfer = true → (inRange o = true ↔ ∀ k, k < o.blocks → o.block + k ≤ 25419))

/-! ## Block Buffer -/

/-- R132: a reservation takes FREE slots, lowest first, for the sequences of the run still needed, lowest first, until
either runs out, and makes one want of them, with its record and 5 s timer; with none of either it does nothing. -/
def Obligations.ReservationsWanted : Prop :=
  ∀ (c : Chain) (s : State) (free needed : List Nat), free.Pairwise (· < ·) → needed.Pairwise (· < ·) →
    (∀ i, i ∈ free ↔ s.bbf.slots[i]? = some .free) →
    (∀ q, q ∈ needed ↔ c.sequence ≤ q ∧ q < runBlocks c.run ∧ ∀ b ∈ s.bbf.slots,
      b ≠ .reserved c.tag q .write ∧ ∀ n d, b ≠ .filledWrite c.tag q n d) →
    let t := reserveWrite c s
    (free = [] ∨ needed = [] → t = s) ∧
    (∀ q rest, needed = q :: rest → free ≠ [] →
      t = { s with bbf := { s.bbf with
        slots := t.bbf.slots
        wants := s.bbf.wants ++ [{ tag := c.tag, first := q, number := min free.length needed.length,
                                   sending := false }]
        records := s.bbf.records ++ [{ tag := c.tag, first := q, number := min free.length needed.length,
                                       timer := some 5000000 }] } } ∧
      ∀ i, t.bbf.slots[i]? =
        match (free.zip needed).lookup i with
        | some k => some (.reserved c.tag k .write)
        | none => s.bbf.slots[i]?) ∧
    (hasFreeSlot t = false ∨ neededSequences c t = [])

/-- R133, R186: wanted data fill their slot; data of another length are refused. That this holds too of a slot still
RESERVED whose want has expired under a block (R135) is the model's choice (log 44). -/
def Obligations.DataTaken : Prop :=
  ∀ (s : State) (tag : Byte) (payload : List Byte) (i : Nat), s.Listening → 3 ≤ payload.length →
    payload.length ≤ 514 →
    let q := numberAt payload 0 2
    let data := payload.drop 2
    let expected := (((s.findTag tag.toNat).bind fun k => s.chainAt k).map fun c => runLength c.run q).getD 512
    s.bbf.slots.findIdx? (BlockSlot.awaits tag.toNat q) = some i →
    (data.length = expected → (∀ j ∈ s.che.job, j.phase ≠ .dataWait) →
      exec (.data tag payload) s = .next
        (State.replied { kind := 0x02#8, tag := tag, reason := none, body := [] }
          (let slots := s.bbf.slots.set i (.filledWrite tag.toNat q data.length data)
          { s with bbf := { s.bbf with slots := slots, records := s.bbf.records.filter (·.open slots) } }))) ∧
    (data.length ≠ expected → exec (.data tag payload) s = .next
      (State.replied { kind := 0x02#8, tag := tag, reason := some .badLength, body := [] } s))

/-- R110 to R112, R135, R136: a want's timer ends the order DATA TIMEOUT, at once in DATA-WAIT and at the
closing wedge of a block under way. That the record is kept with its timer stopped, and that the order's end clears a
held EJECT and a SET POWER's wait, is the model's reading (log 37). -/
def Obligations.WantTimeout : Prop :=
  ∀ (s : State) (j : Job) (i first : Nat) (c : Chain), s.Ready → s.che.job = some j → j.chain = some i →
    s.chains = [(i, c)] → c.tag = j.tag → c.order = some j.order →
    s.bbf.records.any (fun w => w.tag == j.tag && w.first == first && w.timer.isSome) = true →
    (j.phase = .under → exec (.wantTimerExpiry j.tag first) s = .next
      { s with
        bbf := { s.bbf with records := s.bbf.records.map fun w =>
          (if w.tag == j.tag && w.first == first then { w with timer := none } else w) },
        che := { s.che with job := some { j with due := some .dataTimeout } } }) ∧
    (j.phase = .dataWait → s.che.mech = .order → c.cancel = false → s.pass = none → s.vol0.pass ≠ .pending →
      s.vol1.pass ≠ .pending → s.rcv.stage = .none → s.pwr.progress = .none → s.lnk.waiting = [] →
      s.ntu.queue.length < 8 →
      ∃ t, exec (.wantTimerExpiry j.tag first) s = .next t ∧
        t = { s with
          act := { s.act with loads := s.act.loads.filter fun r => r.party != .che, gate := false },
          xfer := none, che := t.che, bbf := t.bbf, ntu := t.ntu, lnk := t.lnk,
          pwr := { s.pwr with idle := 0, setWait := none }, rcv := { s.rcv with heldEject := none } } ∧
        t.chains = [] ∧ t.che.mech = .free ∧ t.che.job = none ∧
        t.bbf.slots = (s.bbf.slots.map fun b => if b.heldFor j.tag then .free else b) ∧
        (∀ w ∈ t.bbf.records, w.tag ≠ j.tag) ∧
        t.ntu.queue.map (·.body) = s.ntu.queue.map (·.body) ++ [.completion
          { tag := c.tag, code := .dataTimeout, flags := c.flags.join j.flags, reached := c.index,
            residual := c.residual, fault := none }])

/-- R131, R132, R176, R177, R188: what the delivery of each outbound frame does; the next frame is begun in
the same event. A place that a notice frees goes to the completion of the oldest ENDED chain, else to the attention
set's entry of lowest kind code, else to the pending progress of the oldest chain that holds one. -/
def Obligations.FramesDelivered : Prop :=
  ∀ (s : State) (f : OutFrame), s.Ready → s.lnk.out = some f → s.lnk.waiting = [] →
    (f.carries = .reply → exec .replyDelivered s = .next
      (beginFrame { s with lnk := { s.lnk with out := none, replies := s.lnk.replies.tail } })) ∧
    (f.carries = .slot → s.che.job = none → ∀ i rest, s.bbf.delivery = i :: rest → s.bbf.sendingSlot = true →
      exec .dataFrameDelivered s = .next (beginFrame
        { s with lnk := { s.lnk with out := none },
                 bbf := { s.bbf with slots := s.bbf.slots.set i .free, delivery := rest, sendingSlot := false } })) ∧
    (f.carries = .want → ∀ w rest, s.bbf.wants = w :: rest → w.sending = true →
      exec .dataWantedDelivered s = .next (beginFrame
        { s with lnk := { s.lnk with out := none }, bbf := { s.bbf with wants := rest } })) ∧
    (f.carries = .notice → ∀ m rest, s.ntu.queue = m :: rest → m.sending = true →
      (m.replaced = true → exec .noticeDelivered s = .next (beginFrame
        { s with lnk := { s.lnk with out := none },
                 ntu := { s.ntu with queue := { m with sending := false, replaced := false } :: rest } })) ∧
      (m.replaced = false →
        let ended := s.chains.filter fun p => decide (p.2.state = .ended)
        let offers := s.chains.filter fun p => decide (p.2.progress ≠ none)
        let joins := fun (b : NoticeBody) (set : List Attention) (table : List (Option Chain)) =>
          exec .noticeDelivered s = .next (beginFrame
            { s with lnk := { s.lnk with out := none }, che := { s.che with table := table }
                     ntu := { s.ntu with set := set, queue := rest ++
                       [{ body := b, sending := false, replaced := false }] } })
        (∀ p b, oldest ended = some p → p.2.completion = some b → rest.length < 8 →
          (∀ j ∈ s.che.job, j.chain ≠ some p.1) →
          joins (.completion b) s.ntu.set (s.che.table.set p.1 none)) ∧
        (ended = [] → ∀ a ∈ s.ntu.set, (∀ b ∈ s.ntu.set, b = a ∨ a.code < b.code) →
          joins (.attention a) (s.ntu.set.filter fun b => b ≠ a) s.che.table) ∧
        (ended = [] → s.ntu.set = [] → ∀ p n, oldest offers = some p → p.2.progress = some n →
          joins (.progress p.2.tag n) [] (s.che.table.set p.1 (some { p.2 with progress := none }))) ∧
        (ended = [] → s.ntu.set = [] → offers = [] → exec .noticeDelivered s = .next (beginFrame
          { s with lnk := { s.lnk with out := none }, ntu := { s.ntu with queue := rest } })))) ∧
    (∀ c, (c = .replyDelivered ∧ f.carries ≠ .reply ∨ c = .dataFrameDelivered ∧ f.carries ≠ .slot ∨
        c = .dataWantedDelivered ∧ f.carries ≠ .want ∨ c = .noticeDelivered ∧ f.carries ≠ .notice) →
      exec c s = .next s)

/-! ## Receiver Controller -/

/-- R66, R141, R144, R156, R174: a change of a switch starts its debounce and a change back ends it; the first
debounced presence sets volume 1 PRESENT or EMPTY; outside a sequence a later one sets the presence alone. The debounced
button is ignored before the first presence report and during a sequence, and refused while holds are in force; its
release stops the hold timer; the refusal indication ends. A lamp under a refusal indication in DOOR OPEN is the model's
choice (log 45). -/
def Obligations.SwitchesAndButton : Prop :=
  (∀ s : State, s.Ready →
    (∀ closed tab : Bool, s.rcv.latch = .locked →
      exec (.presenceSwitchChange closed tab) s = .next
        { s with
          pins := { s.pins with presenceClosed := closed, tabProtect := tab },
          rcv := if s.pins.presenceClosed = closed then s.rcv
            else if s.rcv.firstReport = true ∧ closed = s.rcv.presence then
              { s.rcv with presenceDebounce := none }
            else { s.rcv with presenceDebounce := some 250000 } }) ∧
    (∀ pressed : Bool, exec (.buttonSwitchChange pressed) s = .next
      { s with
        pins := { s.pins with buttonDown := pressed },
        rcv := if s.pins.buttonDown = pressed then s.rcv
          else if pressed = s.rcv.button then { s.rcv with buttonDebounce := none }
          else { s.rcv with buttonDebounce := some 40000 } }) ∧
    (s.rcv.presenceDebounce ≠ none → s.rcv.firstReport = false → s.che.job = none →
      exec .presenceDebounceEnd s = .next (setLamp
        { s with
          rcv := { s.rcv with presenceDebounce := none, firstReport := true, presence := s.pins.presenceClosed },
          vol1 := { s.vol1 with state := if s.pins.presenceClosed then .present else .empty } })) ∧
    (s.rcv.presenceDebounce ≠ none → s.rcv.firstReport = true → s.rcv.stage ≠ .releasing →
      s.rcv.stage ≠ .doorOpen → exec .presenceDebounceEnd s = .next (setLamp
        { s with rcv := { s.rcv with presenceDebounce := none, presence := s.pins.presenceClosed } }))) ∧
  ∀ s : State, s.Ready →
    (s.rcv.buttonDebounce ≠ none → s.rcv.button = false → s.pins.buttonDown = true →
      let pressed := { s.rcv with button := true, buttonDebounce := none }
      (s.rcv.firstReport = false → exec .buttonDebounceEnd s = .next { s with rcv := pressed }) ∧
      (s.rcv.firstReport = true → s.rcv.stage ≠ .none →
        exec .buttonDebounceEnd s = .next { s with rcv := { pressed with holdTimer := some 5000000 } }) ∧
      (s.rcv.firstReport = true → s.rcv.stage = .none → 0 < s.rcv.holds →
        exec .buttonDebounceEnd s = .next (State.rest
          { s with rcv := { pressed with holdTimer := some 5000000, refusal := some 2000000 },
                   ntu := s.ntu.attend (.ejectRefused s.rcv.holds) }))) ∧
    (s.rcv.buttonDebounce ≠ none → s.rcv.button = true → s.pins.buttonDown = false →
      exec .buttonDebounceEnd s = .next
        { s with rcv := { s.rcv with button := false, buttonDebounce := none, holdTimer := none } }) ∧
    exec .refusalIndicationExpiry s = .next (setLamp { s with rcv := { s.rcv with refusal := none } })

/-- R62, R144, R145, R147 to R152: an eject sequence at rest. A press, or a button held for 5 s with or without
holds in force, runs it through its stages to the released latch in one event. Two things are the model's choice: when
the ejector's output ends (log 24), and the lamp in DOOR OPEN while a refusal indication runs (log 45). -/
def Obligations.EjectSequenceAtRest : Prop :=
  ∀ s : State, s.Quiet → s.spc.state = .stopped → s.act.head = .parked → s.rcv.pause = false →
    s.rcv.firstReport = true →
    let released := fun (r : Rcv) (source : EjectSource) (s : State) => setLamp
      { s with
        vol1 := s.vol1.leave
        rcv := if s.rcv.presence then
            { r with source := some source, purpose := some .cartridgeOut, stage := .releasing, latch := .released,
                     ejector := true, removalTimer := some 2000000 }
          else
            { r with source := some source, purpose := some .doorOpen, stage := .doorOpen, latch := .released,
                     window := some 30000000 } }
    (s.rcv.buttonDebounce ≠ none → s.rcv.button = false → s.pins.buttonDown = true → s.rcv.holds = 0 →
      exec .buttonDebounceEnd s = .next (released
        { s.rcv with button := true, buttonDebounce := none, holdTimer := some 5000000 } .button s)) ∧
    (s.rcv.holdTimer ≠ none → exec .holdTimerExpiry s = .next (released
      { s.rcv with holdTimer := none, holds := 0 } (if 0 < s.rcv.holds then .override else .button) s))

/-- R63, R64, R151 to R153: the four ends of an eject sequence, with no chain in the table: RCV has the stopped
spindle start again where PWR's target is ACTIVE or STANDBY and no supply pause holds it. That the ejector output rests
with the latch locked is the model's choice (log 24). -/
def Obligations.SequenceEnds : Prop :=
  ∀ s : State, s.Ready → s.chains = [] → s.che.job = none → s.pass = none → s.vol0.pass = .none →
    s.lnk.waiting = [] → s.pwr.progress = .none →
    ((s.pwr.target = .active ∨ s.pwr.target = .standby) → s.rcv.pause = false → s.spc.state = .stopped) →
    let shut := { s.rcv with
      stage := .none, purpose := none, source := none, latch := .locked, removalTimer := none, window := none,
      ejector := false }
    let source := s.rcv.source.getD .host
    let ended := fun (t : State) => State.rest
      (if (s.pwr.target = .active ∨ s.pwr.target = .standby) ∧ s.rcv.pause = false then
        { t with spc := s.spc.started (purgeIsLong t), act := { s.act with permission := false } }
      else t)
    (s.rcv.stage = .releasing → s.rcv.presenceDebounce ≠ none → s.rcv.firstReport = true →
      s.rcv.presence = true → s.pins.presenceClosed = false → exec .presenceDebounceEnd s = .next (ended
        { s with rcv := { shut with presenceDebounce := none, presence := false, holds := 0 },
                 vol1 := { s.vol1.drop .empty none with mountedSince := false },
                 ntu := s.ntu.attend (.cartridgeRemoved source) })) ∧
    (s.rcv.stage = .releasing → s.rcv.removalTimer ≠ none → s.pins.presenceClosed = true →
      exec .removalTimerExpiry s = .next (ended
        { s with rcv := shut, vol1 := s.vol1.drop .present none, ntu := s.ntu.attend (.ejectJammed source) })) ∧
    (s.rcv.stage = .doorOpen → s.rcv.presenceDebounce ≠ none → s.rcv.firstReport = true →
      s.rcv.presence = false → s.pins.presenceClosed = true → exec .presenceDebounceEnd s = .next (ended
        { s with rcv := { shut with presenceDebounce := none, presence := true },
                 vol1 := { s.vol1.drop .present none with mountedSince := false },
                 ntu := s.ntu.attend (.cartridgeInserted source) })) ∧
    (s.rcv.stage = .doorOpen → s.rcv.window ≠ none → s.pins.presenceClosed = false →
      exec .doorOpenWindowExpiry s = .next (ended { s with rcv := shut, vol1 := s.vol1.drop .empty none }))

/-! ## Power Manager -/

/-- R160, R165, R166: the 1 s tick counts while no chain is outside ENDED, and with no limit matching does no
more. A limit reached with the heads loaded and nothing on hand has PWR unload them; with the heads parked, the
move to STANDBY is made at once, and one to SLEEP or DORMANT sends SPC a stop with the cause IDLE. IDLE LIMIT REACHED
is the tick that raises the counter to a limit; where none is there it does nothing (the model's choice, log 4). -/
def Obligations.IdleCounter : Prop :=
  (∀ s : State, s.Ready →
    (((∃ p ∈ s.chains, p.2.state ≠ .ended) ∨ 65535 ≤ s.pwr.idle) → exec .oneSecondTick s = .next s) ∧
    ((∀ p ∈ s.chains, p.2.state = .ended) → s.pwr.idle < 65535 →
      s.pwr.standby ≠ s.pwr.idle + 1 → s.pwr.sleep ≠ s.pwr.idle + 1 → s.pwr.dormant ≠ s.pwr.idle + 1 →
      exec .oneSecondTick s = .next { s with pwr := { s.pwr with idle := s.pwr.idle + 1 } }) ∧
    (s.pwr.standby ≠ s.pwr.idle + 1 → s.pwr.sleep ≠ s.pwr.idle + 1 → s.pwr.dormant ≠ s.pwr.idle + 1 →
      exec .idleLimitReached s = .next s)) ∧
  ∀ (s : State) (n : Nat) (c : Instr) (level : PowerState), s.Quiet →
    (c = .oneSecondTick ∨ c = .idleLimitReached) → n = s.pwr.idle + 1 → n ≤ 65535 →
    s.pwr.state = .active → s.pwr.target = .active →
    level = (if s.pwr.dormant = n then .dormant else if s.pwr.sleep = n then .sleep else .standby) →
    (s.pwr.dormant = n ∨ s.pwr.sleep = n ∨ s.pwr.standby = n) →
    (s.act.head.loaded = true → exec c s = .next
      { s with pwr := { s.pwr with idle := n, target := level, descent := some .idle, progress := .waitParked },
               act := s.act.toRamp, xfer := none }) ∧
    let down := { s with pwr := { s.pwr with idle := n, target := level } }
    (s.act.head = .parked → level = .standby ∨ s.spc.state = .stopped →
      exec c s = .next (State.rest (targetReached down))) ∧
    (s.act.head = .parked → level ≠ .standby → s.spc.state.turning = true → exec c s = .next
      { down with pwr := { down.pwr with descent := some .idle, progress := .waitStopped },
                  spc := s.spc.braked .idle, act := { s.act with permission := false } }) ∧
    (s.act.head = .parked → level ≠ .standby → s.spc.state = .braking → exec c s = .next
      { down with pwr := { down.pwr with descent := some .idle, progress := .waitStopped },
                  spc := { s.spc with waitPwr := true, heldStart := none } })

/-- R12, R13, R33, R159, R169 to R171: the supply monitor: a fall in GOOD retracts the heads, brakes the spindle and
holds the drive in FAULT HOLD; a rise starts the hold-off, a fall ends it, and its end is the recovery, at which a wait
for the spindle's stop stands. -/
def Obligations.SupplyMonitored : Prop :=
  ∀ s : State,
    (s.Ready → s.pwr.supply = .fault → exec .supplyFall s = .next s ∧ exec .supplyRise s = .next
      { s with pwr := { s.pwr with supply := .holdOff, holdOff := some 1000000 } }) ∧
    (s.Ready → s.pwr.supply = .holdOff → exec .supplyRise s = .next s ∧ exec .supplyFall s = .next
      { s with pwr := { s.pwr with supply := .fault, holdOff := none } }) ∧
    (s.Ready → s.pwr.supply = .good → exec .supplyRise s = .next s) ∧
    (s.Clear → s.pwr.supply = .good →
      let rests := s.spc.state = .stopped ∨ s.spc.state = .spinFault ∧ s.spc.stopConfirmed = true
      let onRamp := s.act.head = .parked ∨ s.act.head = .retracting
      let act := if onRamp then s.act else s.act.retracted
      exec .supplyFall s = .next (State.rest { s with
        spc := match s.spc.state with
          | .accelerating | .locking | .locked => s.spc.braked .supply
          | .braking => { s.spc with waitPwr := true, heldStart := none }
          | .stopped => s.spc
          | .spinFault =>
            if s.spc.stopConfirmed then { s.spc with state := .stopped, stopConfirmed := false, heldStart := none }
            else { s.spc with waitPwr := true, heldStart := none }
        act := { act with permission :=
          s.act.permission && !(s.spc.state.turning || (decide (s.spc.state = .spinFault) && s.spc.stopConfirmed)) }
        xfer := if onRamp then s.xfer else none
        rcv := { s.rcv with pause := true }
        pwr := { s.pwr with
          supply := .fault, beforeFault := some s.pwr.state, state := .faultHold, target := .sleep,
          descent := none, setWait := none, progress := if rests then .none else .waitStopped }
        ntu := (s.ntu.attend (.supplyFault s.pwr.state)).attend (.powerState .faultHold s.pwr.state) })) ∧
    (s.Clear → s.pwr.supply = .holdOff → s.pwr.holdOff ≠ none → exec .holdOffTimerExpiry s = .next (State.rest
      { s with
        pwr := { s.pwr with supply := .good, holdOff := none, state := .sleep, target := .sleep,
                            beforeFault := none, idle := 0 }
        rcv := { s.rcv with pause := false }
        ntu := (s.ntu.attend (.supplyRecovered (s.pwr.beforeFault.getD .sleep))).attend
          (.powerState .sleep s.pwr.state) }))

/-- R22, R48, R66, R121, R129, R157, R172, R182, R184: power-on reset gives every block its values, whatever
came before; a start-up in fault raises SUPPLY FAULT. The levels at the inputs stand, and so does what the
model adds (logs 5, 7, 33). While the 5 V supply is low the part is held in reset, and only the levels at its inputs
change (the model's choice, log 6). -/
def Obligations.PowerOnReset : Prop :=
  (∀ s : State, exec .logicSupplyFall s = .next (held s) ∧
    ∀ c : Instr, s.pins.logicLow = true → c ≠ .logicSupplyFall → (∀ g, c ≠ .powerOnReset g) →
      ∃ t, exec c s = .next t ∧ t = { s with pins := t.pins } ∧ t.pins.logicLow = true) ∧
  ∀ (s : State) (good : Bool),
    let volume := fun (st : VolState) =>
      ({ state := st, before := none, generation := 0, writeProtect := false, label := none, slips := [],
         alts := List.replicate 64 .free, stale := false, corrected := 0, rereads := 0, dataChecks := 0,
         mountedSince := false, pass := .none } : VolCtx)
    exec (.powerOnReset good) s = .next (beginFrame
      { spc := { state := .stopped, level := 0, brake := false, interval := 0, inRun := 0, slowRun := 0, outRun := 0,
                 satRun := 0, purge := 0, purgePulses := 0, stopConfirmed := false, startTimer := none,
                 relockTimer := none, brakeTimer := none, waitPwr := false, waitRcv := false, heldStart := none,
                 lastStop := .none }
        act := { head := .parked, cylinder := 0, comb := 0, valid := false, error := 0, attempt := 0,
                 target := none, targetEnded := false, retries := 0, watchdog := .idle, permission := false,
                 loads := [], gate := false, seek := none, settleTime := 0, arrived := false, acquisition := none,
                 seekTimeout := none, plan := none, settle := none, unload := none, retract := none,
                 stage1 := none, stage2 := none }
        vol0 := volume .unmounted, vol1 := volume .empty, pass := none, copy := []
        che := { table := [none, none, none, none, none, none], counter := 0, mech := .free, job := none }
        xfer := none
        bbf := { slots := List.replicate 8 .free, delivery := [], sendingSlot := false, wants := [], records := [] }
        rcv := { presence := false, firstReport := false, latch := .locked, holds := 0, stage := .none,
                 purpose := none, source := none, heldEject := none, pause := !good, button := false,
                 holdTimer := none, removalTimer := none, window := none, refusal := none, lamp := .off,
                 presenceDebounce := some 250000, buttonDebounce := some 40000, ejector := false }
        pwr := { state := if good then .sleep else .faultHold, target := .sleep, progress := .none,
                 descent := none, setWait := none, beforeFault := if good then none else some .sleep, idle := 0,
                 standby := 300, sleep := 1800, dormant := 0, supply := if good then .good else .fault,
                 holdOff := none }
        ntu := { queue := if good then [] else
                   [{ body := .attention (.supplyFault .sleep), sending := false, replaced := false }]
                 set := [], enables := List.replicate 9 true }
        lnk := { stage := .awaitLead, sum := 0, kind := 0, tag := 0, length := 0, got := 0, payload := [],
                 replies := [], out := none, waiting := [] }
        pins := { s.pins with logicLow := false }
        inbox := [], choice := s.choice, pending := s.pending })

/-- R167, R178, R187: a SETTINGS frame sets the three limits, clamped, and the nine enables, and the reply
shows them. -/
def Obligations.SettingsTaken : Prop :=
  ∀ (s : State) (tag : Byte) (payload : List Byte), s.Listening → payload.length = 8 →
    let clamp := fun (low high n : Nat) => if n = 0 then 0 else if n < low then low else if high < n then high else n
    let standby := clamp 10 7200 (numberAt payload 0 2)
    let sleep := clamp 30 14400 (numberAt payload 2 2)
    let dormant := clamp 60 43200 (numberAt payload 4 2)
    let bits := numberAt payload 6 2
    let enables := (List.range 9).map fun k => bits.testBit k
    exec (.settings tag payload) s = .next
      (State.replied { kind := 0x05#8, tag := tag, reason := none,
                       body := be16 standby ++ be16 sleep ++ be16 dormant ++ be16 (bits % 512) }
        { s with
          pwr := { s.pwr with standby := standby, sleep := sleep, dormant := dormant },
          ntu := { s.ntu with enables := enables,
                              set := s.ntu.set.filter fun a => enables.getD (a.code - 1) true } })

/-! ## Link Interface -/

/-- A number in one byte, and in two, most significant first (12.1, R192). -/
def oneByte (n : Nat) : Byte := BitVec.ofNat 8 n

def twoBytes (n : Nat) : List Byte := [oneByte (n / 256), oneByte n]

/-- 12.1: an enumerated field is coded by the position of its value in its list. -/
def codeIn [DecidableEq α] (values : List α) (x : α) : Byte := oneByte (values.idxOf x)

def powerStates : List PowerState := [.active, .standby, .sleep, .dormant, .faultHold]

def volumeStates : List VolState :=
  [.empty, .unmounted, .present, .mounting, .mounted, .unformatted, .headerFault, .leaving]

/-- 12.3: the 20 bytes of a DRIVE STATUS body. -/
def driveStatusBytes (s : State) : List Byte :=
  [codeIn powerStates s.pwr.state, codeIn [.good, .fault, .holdOff] s.pwr.supply] ++ twoBytes s.pwr.idle ++
    [codeIn [.stopped, .accelerating, .locking, .locked, .braking, .spinFault] s.spc.state, oneByte s.spc.level] ++
    twoBytes s.spc.purge ++
    [codeIn [.none, .hostOrder, .idle, .eject, .door, .supply, .spinFault] s.spc.lastStop,
     codeIn [.parked, .loading, .following, .seeking, .settling, .reacquiring, .unloading, .retracting]
       s.act.head] ++
    twoBytes s.act.cylinder ++
    [codeIn [false, true] s.act.valid, codeIn [.locked, .released] s.rcv.latch, codeIn [false, true] s.rcv.presence,
     codeIn [.none, .draining, .unloading, .stopping, .releasing, .doorOpen] s.rcv.stage, oneByte s.rcv.holds,
     oneByte s.chains.length, oneByte s.ntu.queue.length, 0]

/-- R69, 12.3: the slip entries and the alternate slots that are shown of a volume. -/
def tablesShown (c : VolCtx) : List Slip × List Alt :=
  if c.state = .mounted ∨ c.state = .leaving then (c.slips, c.alts) else ([], List.replicate 64 .free)

/-- 12.3: the 22 bytes of a VOLUME STATUS body. -/
def volumeStatusBytes (c : VolCtx) : List Byte :=
  let assigned := (assignedBlocks (tablesShown c).2).length
  [codeIn volumeStates c.state] ++ twoBytes c.generation ++ [codeIn [false, true] c.writeProtect] ++
    (match c.label with
      | some l => [1] ++ twoBytes l.formatCount ++ twoBytes (l.serial / 65536) ++ twoBytes l.serial
      | none => [0, 0, 0, 0, 0, 0, 0]) ++
    [oneByte (tablesShown c).1.length, oneByte ((tablesShown c).2.count .free),
     oneByte ((tablesShown c).2.count .retired), oneByte assigned, codeIn [false, true] c.stale] ++ twoBytes c.corrected ++ twoBytes c.rereads ++ twoBytes c.dataChecks

/-- 12.3: the bytes of a DEFECT LIST body. -/
def defectListBytes (c : VolCtx) : List Byte :=
  [oneByte (tablesShown c).1.length] ++ (tablesShown c).1.flatMap (fun e => twoBytes e.track ++ [oneByte e.slot]) ++
    (tablesShown c).2.flatMap fun a =>
      match a with
      | .free => [0, 0, 0]
      | .assigned b => [1] ++ twoBytes b
      | .retired => [2, 0, 0]

/-- 12.3, R181: the 5 bytes of a CHAIN STATUS body. -/
def chainStatusBytes (c : Chain) : List Byte :=
  let left := match c.orders[c.index]? with
    | some o => if o.kind = .read ∨ o.kind = .write ∨ o.kind = .verify then o.count - c.transferred else 0
    | none => 0
  let bit := fun (b : Bool) (n : Nat) => if b then n else 0
  [codeIn [.queued, .active, .dataWait, .paused, .ejectWait, .ended] c.state, oneByte c.index] ++
    twoBytes ((c.completion.map (·.residual)).getD left) ++
    [oneByte (bit c.flags.dataCheck 1 + bit c.flags.lengthMismatch 2 + bit c.flags.corrected 4)]

/-- R179 to R181, R192, 12.1, 12.3: the four queries answer the state of the moment, byte by byte, and change
nothing. -/
def Obligations.QueriesAnswered : Prop :=
  ∀ (s : State) (tag v : Byte), s.Listening →
    let answer := fun (body : List Byte) =>
      State.replied { kind := 0x04#8, tag := tag, reason := none, body := body } s
    let refuse := fun (r : Reason) => State.replied { kind := 0x04#8, tag := tag, reason := some r, body := [] } s
    exec (.driveStatus tag [v]) s = .next (answer (driveStatusBytes s)) ∧ (driveStatusBytes s).length = 20 ∧
    (v = 0 → exec (.volumeStatus tag [v]) s = .next (answer (volumeStatusBytes s.vol0)) ∧
      exec (.defectList tag [v]) s = .next (answer (defectListBytes s.vol0))) ∧
    (v = 1 → exec (.volumeStatus tag [v]) s = .next (answer (volumeStatusBytes s.vol1)) ∧
      exec (.defectList tag [v]) s = .next (answer (defectListBytes s.vol1))) ∧
    (1 < v.toNat → exec (.volumeStatus tag [v]) s = .next (refuse .malformed) ∧
      exec (.defectList tag [v]) s = .next (refuse .malformed)) ∧
    (∀ i c, s.findTag tag.toNat = some i → s.chainAt i = some c →
      exec (.chainStatus tag [v]) s = .next (answer (chainStatusBytes c))) ∧
    (s.findTag tag.toNat = none → exec (.chainStatus tag [v]) s = .next (refuse .unknownTag))

/-- R120, R121, R129, R157, R165, R167, R182, R189, R190: a link reset by line or by frame, with no order at
work; the line's release lets both lanes go on. -/
def Obligations.LinkResets : Prop :=
  ∀ (s : State) (tag : Byte),
    let reset := fun (s : State) =>
      { s with
        che := { s.che with table := [none, none, none, none, none, none], counter := 0 },
        bbf := { slots := List.replicate 8 .free, delivery := [], sendingSlot := false, wants := [], records := [] },
        ntu := { queue := [], set := [], enables := List.replicate 9 true },
        rcv := { s.rcv with holds := 0, heldEject := none },
        pwr := { s.pwr with standby := 300, sleep := 1800, dormant := 0, idle := 0 } }
    (s.Listening → s.che.job = none → s.rcv.stage ≠ .draining → exec (.linkReset tag []) s = .next
      (State.replied { kind := 0x06#8, tag := tag, reason := none, body := [] } (reset s))) ∧
    (s.Ready → s.che.job = none → s.rcv.stage ≠ .draining → s.pins.linkReset = false →
      exec .linkResetLineAsserted s = .next
        { reset s with lnk := { s.lnk.clear with waiting := [] }, pins := { s.pins with linkReset := true } }) ∧
    (s.Ready → s.pins.linkReset = true → exec .linkResetLineAsserted s = .next s) ∧
    (s.Ready → s.lnk.waiting = [] → exec .linkResetLineReleased s = .next
      (beginFrame { s with pins := { s.pins with linkReset := false } }))

/-- R183, R184, R188: the ready line, and a byte that is no lead. A frame begun is the reply at the head of its
list, otherwise the first want, otherwise the first slot of the delivery queue, otherwise the first notice. -/
def Obligations.ReadyLineAndLane : Prop :=
  ∀ s : State, s.Ready →
    exec .hostReadyDeasserted s = .next { s with pins := { s.pins with ready := false } } ∧
    exec .hostReadyAsserted s = .next (beginFrame { s with pins := { s.pins with ready := true } }) ∧
    (∀ b : Byte, b ≠ 0xC3#8 → s.lnk.stage = .awaitLead → s.lnk.waiting = [] → s.pins.linkReset = false →
      exec (.awaitLeadByteDiscarded b) s = .next s) ∧
    (∀ t : State, t.lnk.out = none → t.pins.ready = true → t.pins.linkReset = false →
      (∀ r rest, t.lnk.replies = r :: rest → (beginFrame t).lnk.out =
        some { carries := .reply, bytes := frameBytes 0x81#8 r.tag (replyBytes r) }) ∧
      (t.lnk.replies = [] → ∀ w rest, t.bbf.wants = w :: rest → (beginFrame t).lnk.out =
        some { carries := .want, bytes := frameBytes 0x83#8 (byteOf w.tag) (be16 w.first ++ [byteOf w.number]) }) ∧
      (t.lnk.replies = [] → t.bbf.wants = [] → ∀ i rest, t.bbf.delivery = i :: rest →
        (beginFrame t).lnk.out = some { carries := .slot, bytes := slotFrame (t.bbf.slots.getD i .free) }) ∧
      (t.lnk.replies = [] → t.bbf.wants = [] → t.bbf.delivery = [] → ∀ m rest, t.ntu.queue = m :: rest →
        m.sending = false → (beginFrame t).lnk.out = some
          { carries := .notice, bytes := frameBytes 0x84#8 (byteOf m.body.tag) (noticeBytes m.body) }))
end

