-- ==== Sys2Proof/Laws/State.lean ====
section
/-! SUPPORT. One lemma per field per update of State, so that no later proof unfolds a record update. -/

namespace Sys2Proof.Machine

section updSpc
variable (f : Spc → Spc) (s : State)
@[simp] theorem State.updSpc_spc : (s.updSpc f).spc = f s.spc := rfl
@[simp] theorem State.updSpc_act : (s.updSpc f).act = s.act := rfl
@[simp] theorem State.updSpc_vol0 : (s.updSpc f).vol0 = s.vol0 := rfl
@[simp] theorem State.updSpc_vol1 : (s.updSpc f).vol1 = s.vol1 := rfl
@[simp] theorem State.updSpc_pass : (s.updSpc f).pass = s.pass := rfl
@[simp] theorem State.updSpc_copy : (s.updSpc f).copy = s.copy := rfl
@[simp] theorem State.updSpc_che : (s.updSpc f).che = s.che := rfl
@[simp] theorem State.updSpc_xfer : (s.updSpc f).xfer = s.xfer := rfl
@[simp] theorem State.updSpc_bbf : (s.updSpc f).bbf = s.bbf := rfl
@[simp] theorem State.updSpc_rcv : (s.updSpc f).rcv = s.rcv := rfl
@[simp] theorem State.updSpc_pwr : (s.updSpc f).pwr = s.pwr := rfl
@[simp] theorem State.updSpc_ntu : (s.updSpc f).ntu = s.ntu := rfl
@[simp] theorem State.updSpc_lnk : (s.updSpc f).lnk = s.lnk := rfl
@[simp] theorem State.updSpc_pins : (s.updSpc f).pins = s.pins := rfl
@[simp] theorem State.updSpc_inbox : (s.updSpc f).inbox = s.inbox := rfl
@[simp] theorem State.updSpc_choice : (s.updSpc f).choice = s.choice := rfl
@[simp] theorem State.updSpc_pending : (s.updSpc f).pending = s.pending := rfl
end updSpc

section updAct
variable (f : Act → Act) (s : State)
@[simp] theorem State.updAct_spc : (s.updAct f).spc = s.spc := rfl
@[simp] theorem State.updAct_act : (s.updAct f).act = f s.act := rfl
@[simp] theorem State.updAct_vol0 : (s.updAct f).vol0 = s.vol0 := rfl
@[simp] theorem State.updAct_vol1 : (s.updAct f).vol1 = s.vol1 := rfl
@[simp] theorem State.updAct_pass : (s.updAct f).pass = s.pass := rfl
@[simp] theorem State.updAct_copy : (s.updAct f).copy = s.copy := rfl
@[simp] theorem State.updAct_che : (s.updAct f).che = s.che := rfl
@[simp] theorem State.updAct_xfer : (s.updAct f).xfer = s.xfer := rfl
@[simp] theorem State.updAct_bbf : (s.updAct f).bbf = s.bbf := rfl
@[simp] theorem State.updAct_rcv : (s.updAct f).rcv = s.rcv := rfl
@[simp] theorem State.updAct_pwr : (s.updAct f).pwr = s.pwr := rfl
@[simp] theorem State.updAct_ntu : (s.updAct f).ntu = s.ntu := rfl
@[simp] theorem State.updAct_lnk : (s.updAct f).lnk = s.lnk := rfl
@[simp] theorem State.updAct_pins : (s.updAct f).pins = s.pins := rfl
@[simp] theorem State.updAct_inbox : (s.updAct f).inbox = s.inbox := rfl
@[simp] theorem State.updAct_choice : (s.updAct f).choice = s.choice := rfl
@[simp] theorem State.updAct_pending : (s.updAct f).pending = s.pending := rfl
end updAct

section updVol0
variable (f : VolCtx → VolCtx) (s : State)
@[simp] theorem State.updVol0_spc : (s.updVol0 f).spc = s.spc := rfl
@[simp] theorem State.updVol0_act : (s.updVol0 f).act = s.act := rfl
@[simp] theorem State.updVol0_vol0 : (s.updVol0 f).vol0 = f s.vol0 := rfl
@[simp] theorem State.updVol0_vol1 : (s.updVol0 f).vol1 = s.vol1 := rfl
@[simp] theorem State.updVol0_pass : (s.updVol0 f).pass = s.pass := rfl
@[simp] theorem State.updVol0_copy : (s.updVol0 f).copy = s.copy := rfl
@[simp] theorem State.updVol0_che : (s.updVol0 f).che = s.che := rfl
@[simp] theorem State.updVol0_xfer : (s.updVol0 f).xfer = s.xfer := rfl
@[simp] theorem State.updVol0_bbf : (s.updVol0 f).bbf = s.bbf := rfl
@[simp] theorem State.updVol0_rcv : (s.updVol0 f).rcv = s.rcv := rfl
@[simp] theorem State.updVol0_pwr : (s.updVol0 f).pwr = s.pwr := rfl
@[simp] theorem State.updVol0_ntu : (s.updVol0 f).ntu = s.ntu := rfl
@[simp] theorem State.updVol0_lnk : (s.updVol0 f).lnk = s.lnk := rfl
@[simp] theorem State.updVol0_pins : (s.updVol0 f).pins = s.pins := rfl
@[simp] theorem State.updVol0_inbox : (s.updVol0 f).inbox = s.inbox := rfl
@[simp] theorem State.updVol0_choice : (s.updVol0 f).choice = s.choice := rfl
@[simp] theorem State.updVol0_pending : (s.updVol0 f).pending = s.pending := rfl
end updVol0

section updVol1
variable (f : VolCtx → VolCtx) (s : State)
@[simp] theorem State.updVol1_spc : (s.updVol1 f).spc = s.spc := rfl
@[simp] theorem State.updVol1_act : (s.updVol1 f).act = s.act := rfl
@[simp] theorem State.updVol1_vol0 : (s.updVol1 f).vol0 = s.vol0 := rfl
@[simp] theorem State.updVol1_vol1 : (s.updVol1 f).vol1 = f s.vol1 := rfl
@[simp] theorem State.updVol1_pass : (s.updVol1 f).pass = s.pass := rfl
@[simp] theorem State.updVol1_copy : (s.updVol1 f).copy = s.copy := rfl
@[simp] theorem State.updVol1_che : (s.updVol1 f).che = s.che := rfl
@[simp] theorem State.updVol1_xfer : (s.updVol1 f).xfer = s.xfer := rfl
@[simp] theorem State.updVol1_bbf : (s.updVol1 f).bbf = s.bbf := rfl
@[simp] theorem State.updVol1_rcv : (s.updVol1 f).rcv = s.rcv := rfl
@[simp] theorem State.updVol1_pwr : (s.updVol1 f).pwr = s.pwr := rfl
@[simp] theorem State.updVol1_ntu : (s.updVol1 f).ntu = s.ntu := rfl
@[simp] theorem State.updVol1_lnk : (s.updVol1 f).lnk = s.lnk := rfl
@[simp] theorem State.updVol1_pins : (s.updVol1 f).pins = s.pins := rfl
@[simp] theorem State.updVol1_inbox : (s.updVol1 f).inbox = s.inbox := rfl
@[simp] theorem State.updVol1_choice : (s.updVol1 f).choice = s.choice := rfl
@[simp] theorem State.updVol1_pending : (s.updVol1 f).pending = s.pending := rfl
end updVol1

section updChe
variable (f : Che → Che) (s : State)
@[simp] theorem State.updChe_spc : (s.updChe f).spc = s.spc := rfl
@[simp] theorem State.updChe_act : (s.updChe f).act = s.act := rfl
@[simp] theorem State.updChe_vol0 : (s.updChe f).vol0 = s.vol0 := rfl
@[simp] theorem State.updChe_vol1 : (s.updChe f).vol1 = s.vol1 := rfl
@[simp] theorem State.updChe_pass : (s.updChe f).pass = s.pass := rfl
@[simp] theorem State.updChe_copy : (s.updChe f).copy = s.copy := rfl
@[simp] theorem State.updChe_che : (s.updChe f).che = f s.che := rfl
@[simp] theorem State.updChe_xfer : (s.updChe f).xfer = s.xfer := rfl
@[simp] theorem State.updChe_bbf : (s.updChe f).bbf = s.bbf := rfl
@[simp] theorem State.updChe_rcv : (s.updChe f).rcv = s.rcv := rfl
@[simp] theorem State.updChe_pwr : (s.updChe f).pwr = s.pwr := rfl
@[simp] theorem State.updChe_ntu : (s.updChe f).ntu = s.ntu := rfl
@[simp] theorem State.updChe_lnk : (s.updChe f).lnk = s.lnk := rfl
@[simp] theorem State.updChe_pins : (s.updChe f).pins = s.pins := rfl
@[simp] theorem State.updChe_inbox : (s.updChe f).inbox = s.inbox := rfl
@[simp] theorem State.updChe_choice : (s.updChe f).choice = s.choice := rfl
@[simp] theorem State.updChe_pending : (s.updChe f).pending = s.pending := rfl
end updChe

section updBbf
variable (f : Bbf → Bbf) (s : State)
@[simp] theorem State.updBbf_spc : (s.updBbf f).spc = s.spc := rfl
@[simp] theorem State.updBbf_act : (s.updBbf f).act = s.act := rfl
@[simp] theorem State.updBbf_vol0 : (s.updBbf f).vol0 = s.vol0 := rfl
@[simp] theorem State.updBbf_vol1 : (s.updBbf f).vol1 = s.vol1 := rfl
@[simp] theorem State.updBbf_pass : (s.updBbf f).pass = s.pass := rfl
@[simp] theorem State.updBbf_copy : (s.updBbf f).copy = s.copy := rfl
@[simp] theorem State.updBbf_che : (s.updBbf f).che = s.che := rfl
@[simp] theorem State.updBbf_xfer : (s.updBbf f).xfer = s.xfer := rfl
@[simp] theorem State.updBbf_bbf : (s.updBbf f).bbf = f s.bbf := rfl
@[simp] theorem State.updBbf_rcv : (s.updBbf f).rcv = s.rcv := rfl
@[simp] theorem State.updBbf_pwr : (s.updBbf f).pwr = s.pwr := rfl
@[simp] theorem State.updBbf_ntu : (s.updBbf f).ntu = s.ntu := rfl
@[simp] theorem State.updBbf_lnk : (s.updBbf f).lnk = s.lnk := rfl
@[simp] theorem State.updBbf_pins : (s.updBbf f).pins = s.pins := rfl
@[simp] theorem State.updBbf_inbox : (s.updBbf f).inbox = s.inbox := rfl
@[simp] theorem State.updBbf_choice : (s.updBbf f).choice = s.choice := rfl
@[simp] theorem State.updBbf_pending : (s.updBbf f).pending = s.pending := rfl
end updBbf

section updRcv
variable (f : Rcv → Rcv) (s : State)
@[simp] theorem State.updRcv_spc : (s.updRcv f).spc = s.spc := rfl
@[simp] theorem State.updRcv_act : (s.updRcv f).act = s.act := rfl
@[simp] theorem State.updRcv_vol0 : (s.updRcv f).vol0 = s.vol0 := rfl
@[simp] theorem State.updRcv_vol1 : (s.updRcv f).vol1 = s.vol1 := rfl
@[simp] theorem State.updRcv_pass : (s.updRcv f).pass = s.pass := rfl
@[simp] theorem State.updRcv_copy : (s.updRcv f).copy = s.copy := rfl
@[simp] theorem State.updRcv_che : (s.updRcv f).che = s.che := rfl
@[simp] theorem State.updRcv_xfer : (s.updRcv f).xfer = s.xfer := rfl
@[simp] theorem State.updRcv_bbf : (s.updRcv f).bbf = s.bbf := rfl
@[simp] theorem State.updRcv_rcv : (s.updRcv f).rcv = f s.rcv := rfl
@[simp] theorem State.updRcv_pwr : (s.updRcv f).pwr = s.pwr := rfl
@[simp] theorem State.updRcv_ntu : (s.updRcv f).ntu = s.ntu := rfl
@[simp] theorem State.updRcv_lnk : (s.updRcv f).lnk = s.lnk := rfl
@[simp] theorem State.updRcv_pins : (s.updRcv f).pins = s.pins := rfl
@[simp] theorem State.updRcv_inbox : (s.updRcv f).inbox = s.inbox := rfl
@[simp] theorem State.updRcv_choice : (s.updRcv f).choice = s.choice := rfl
@[simp] theorem State.updRcv_pending : (s.updRcv f).pending = s.pending := rfl
end updRcv

section updPwr
variable (f : Pwr → Pwr) (s : State)
@[simp] theorem State.updPwr_spc : (s.updPwr f).spc = s.spc := rfl
@[simp] theorem State.updPwr_act : (s.updPwr f).act = s.act := rfl
@[simp] theorem State.updPwr_vol0 : (s.updPwr f).vol0 = s.vol0 := rfl
@[simp] theorem State.updPwr_vol1 : (s.updPwr f).vol1 = s.vol1 := rfl
@[simp] theorem State.updPwr_pass : (s.updPwr f).pass = s.pass := rfl
@[simp] theorem State.updPwr_copy : (s.updPwr f).copy = s.copy := rfl
@[simp] theorem State.updPwr_che : (s.updPwr f).che = s.che := rfl
@[simp] theorem State.updPwr_xfer : (s.updPwr f).xfer = s.xfer := rfl
@[simp] theorem State.updPwr_bbf : (s.updPwr f).bbf = s.bbf := rfl
@[simp] theorem State.updPwr_rcv : (s.updPwr f).rcv = s.rcv := rfl
@[simp] theorem State.updPwr_pwr : (s.updPwr f).pwr = f s.pwr := rfl
@[simp] theorem State.updPwr_ntu : (s.updPwr f).ntu = s.ntu := rfl
@[simp] theorem State.updPwr_lnk : (s.updPwr f).lnk = s.lnk := rfl
@[simp] theorem State.updPwr_pins : (s.updPwr f).pins = s.pins := rfl
@[simp] theorem State.updPwr_inbox : (s.updPwr f).inbox = s.inbox := rfl
@[simp] theorem State.updPwr_choice : (s.updPwr f).choice = s.choice := rfl
@[simp] theorem State.updPwr_pending : (s.updPwr f).pending = s.pending := rfl
end updPwr

section updNtu
variable (f : Ntu → Ntu) (s : State)
@[simp] theorem State.updNtu_spc : (s.updNtu f).spc = s.spc := rfl
@[simp] theorem State.updNtu_act : (s.updNtu f).act = s.act := rfl
@[simp] theorem State.updNtu_vol0 : (s.updNtu f).vol0 = s.vol0 := rfl
@[simp] theorem State.updNtu_vol1 : (s.updNtu f).vol1 = s.vol1 := rfl
@[simp] theorem State.updNtu_pass : (s.updNtu f).pass = s.pass := rfl
@[simp] theorem State.updNtu_copy : (s.updNtu f).copy = s.copy := rfl
@[simp] theorem State.updNtu_che : (s.updNtu f).che = s.che := rfl
@[simp] theorem State.updNtu_xfer : (s.updNtu f).xfer = s.xfer := rfl
@[simp] theorem State.updNtu_bbf : (s.updNtu f).bbf = s.bbf := rfl
@[simp] theorem State.updNtu_rcv : (s.updNtu f).rcv = s.rcv := rfl
@[simp] theorem State.updNtu_pwr : (s.updNtu f).pwr = s.pwr := rfl
@[simp] theorem State.updNtu_ntu : (s.updNtu f).ntu = f s.ntu := rfl
@[simp] theorem State.updNtu_lnk : (s.updNtu f).lnk = s.lnk := rfl
@[simp] theorem State.updNtu_pins : (s.updNtu f).pins = s.pins := rfl
@[simp] theorem State.updNtu_inbox : (s.updNtu f).inbox = s.inbox := rfl
@[simp] theorem State.updNtu_choice : (s.updNtu f).choice = s.choice := rfl
@[simp] theorem State.updNtu_pending : (s.updNtu f).pending = s.pending := rfl
end updNtu

section updLnk
variable (f : Lnk → Lnk) (s : State)
@[simp] theorem State.updLnk_spc : (s.updLnk f).spc = s.spc := rfl
@[simp] theorem State.updLnk_act : (s.updLnk f).act = s.act := rfl
@[simp] theorem State.updLnk_vol0 : (s.updLnk f).vol0 = s.vol0 := rfl
@[simp] theorem State.updLnk_vol1 : (s.updLnk f).vol1 = s.vol1 := rfl
@[simp] theorem State.updLnk_pass : (s.updLnk f).pass = s.pass := rfl
@[simp] theorem State.updLnk_copy : (s.updLnk f).copy = s.copy := rfl
@[simp] theorem State.updLnk_che : (s.updLnk f).che = s.che := rfl
@[simp] theorem State.updLnk_xfer : (s.updLnk f).xfer = s.xfer := rfl
@[simp] theorem State.updLnk_bbf : (s.updLnk f).bbf = s.bbf := rfl
@[simp] theorem State.updLnk_rcv : (s.updLnk f).rcv = s.rcv := rfl
@[simp] theorem State.updLnk_pwr : (s.updLnk f).pwr = s.pwr := rfl
@[simp] theorem State.updLnk_ntu : (s.updLnk f).ntu = s.ntu := rfl
@[simp] theorem State.updLnk_lnk : (s.updLnk f).lnk = f s.lnk := rfl
@[simp] theorem State.updLnk_pins : (s.updLnk f).pins = s.pins := rfl
@[simp] theorem State.updLnk_inbox : (s.updLnk f).inbox = s.inbox := rfl
@[simp] theorem State.updLnk_choice : (s.updLnk f).choice = s.choice := rfl
@[simp] theorem State.updLnk_pending : (s.updLnk f).pending = s.pending := rfl
end updLnk

section updPins
variable (f : Pins → Pins) (s : State)
@[simp] theorem State.updPins_spc : (s.updPins f).spc = s.spc := rfl
@[simp] theorem State.updPins_act : (s.updPins f).act = s.act := rfl
@[simp] theorem State.updPins_vol0 : (s.updPins f).vol0 = s.vol0 := rfl
@[simp] theorem State.updPins_vol1 : (s.updPins f).vol1 = s.vol1 := rfl
@[simp] theorem State.updPins_pass : (s.updPins f).pass = s.pass := rfl
@[simp] theorem State.updPins_copy : (s.updPins f).copy = s.copy := rfl
@[simp] theorem State.updPins_che : (s.updPins f).che = s.che := rfl
@[simp] theorem State.updPins_xfer : (s.updPins f).xfer = s.xfer := rfl
@[simp] theorem State.updPins_bbf : (s.updPins f).bbf = s.bbf := rfl
@[simp] theorem State.updPins_rcv : (s.updPins f).rcv = s.rcv := rfl
@[simp] theorem State.updPins_pwr : (s.updPins f).pwr = s.pwr := rfl
@[simp] theorem State.updPins_ntu : (s.updPins f).ntu = s.ntu := rfl
@[simp] theorem State.updPins_lnk : (s.updPins f).lnk = s.lnk := rfl
@[simp] theorem State.updPins_pins : (s.updPins f).pins = f s.pins := rfl
@[simp] theorem State.updPins_inbox : (s.updPins f).inbox = s.inbox := rfl
@[simp] theorem State.updPins_choice : (s.updPins f).choice = s.choice := rfl
@[simp] theorem State.updPins_pending : (s.updPins f).pending = s.pending := rfl
end updPins

section setPass
variable (p : Option Pass) (s : State)
@[simp] theorem State.setPass_spc : (s.setPass p).spc = s.spc := rfl
@[simp] theorem State.setPass_act : (s.setPass p).act = s.act := rfl
@[simp] theorem State.setPass_vol0 : (s.setPass p).vol0 = s.vol0 := rfl
@[simp] theorem State.setPass_vol1 : (s.setPass p).vol1 = s.vol1 := rfl
@[simp] theorem State.setPass_pass : (s.setPass p).pass = p := rfl
@[simp] theorem State.setPass_copy : (s.setPass p).copy = s.copy := rfl
@[simp] theorem State.setPass_che : (s.setPass p).che = s.che := rfl
@[simp] theorem State.setPass_xfer : (s.setPass p).xfer = s.xfer := rfl
@[simp] theorem State.setPass_bbf : (s.setPass p).bbf = s.bbf := rfl
@[simp] theorem State.setPass_rcv : (s.setPass p).rcv = s.rcv := rfl
@[simp] theorem State.setPass_pwr : (s.setPass p).pwr = s.pwr := rfl
@[simp] theorem State.setPass_ntu : (s.setPass p).ntu = s.ntu := rfl
@[simp] theorem State.setPass_lnk : (s.setPass p).lnk = s.lnk := rfl
@[simp] theorem State.setPass_pins : (s.setPass p).pins = s.pins := rfl
@[simp] theorem State.setPass_inbox : (s.setPass p).inbox = s.inbox := rfl
@[simp] theorem State.setPass_choice : (s.setPass p).choice = s.choice := rfl
@[simp] theorem State.setPass_pending : (s.setPass p).pending = s.pending := rfl
end setPass

section setXfer
variable (x : Option Xfer) (s : State)
@[simp] theorem State.setXfer_spc : (s.setXfer x).spc = s.spc := rfl
@[simp] theorem State.setXfer_act : (s.setXfer x).act = s.act := rfl
@[simp] theorem State.setXfer_vol0 : (s.setXfer x).vol0 = s.vol0 := rfl
@[simp] theorem State.setXfer_vol1 : (s.setXfer x).vol1 = s.vol1 := rfl
@[simp] theorem State.setXfer_pass : (s.setXfer x).pass = s.pass := rfl
@[simp] theorem State.setXfer_copy : (s.setXfer x).copy = s.copy := rfl
@[simp] theorem State.setXfer_che : (s.setXfer x).che = s.che := rfl
@[simp] theorem State.setXfer_xfer : (s.setXfer x).xfer = x := rfl
@[simp] theorem State.setXfer_bbf : (s.setXfer x).bbf = s.bbf := rfl
@[simp] theorem State.setXfer_rcv : (s.setXfer x).rcv = s.rcv := rfl
@[simp] theorem State.setXfer_pwr : (s.setXfer x).pwr = s.pwr := rfl
@[simp] theorem State.setXfer_ntu : (s.setXfer x).ntu = s.ntu := rfl
@[simp] theorem State.setXfer_lnk : (s.setXfer x).lnk = s.lnk := rfl
@[simp] theorem State.setXfer_pins : (s.setXfer x).pins = s.pins := rfl
@[simp] theorem State.setXfer_inbox : (s.setXfer x).inbox = s.inbox := rfl
@[simp] theorem State.setXfer_choice : (s.setXfer x).choice = s.choice := rfl
@[simp] theorem State.setXfer_pending : (s.setXfer x).pending = s.pending := rfl
end setXfer

section setCopy
variable (d : List Byte) (s : State)
@[simp] theorem State.setCopy_spc : (s.setCopy d).spc = s.spc := rfl
@[simp] theorem State.setCopy_act : (s.setCopy d).act = s.act := rfl
@[simp] theorem State.setCopy_vol0 : (s.setCopy d).vol0 = s.vol0 := rfl
@[simp] theorem State.setCopy_vol1 : (s.setCopy d).vol1 = s.vol1 := rfl
@[simp] theorem State.setCopy_pass : (s.setCopy d).pass = s.pass := rfl
@[simp] theorem State.setCopy_copy : (s.setCopy d).copy = d := rfl
@[simp] theorem State.setCopy_che : (s.setCopy d).che = s.che := rfl
@[simp] theorem State.setCopy_xfer : (s.setCopy d).xfer = s.xfer := rfl
@[simp] theorem State.setCopy_bbf : (s.setCopy d).bbf = s.bbf := rfl
@[simp] theorem State.setCopy_rcv : (s.setCopy d).rcv = s.rcv := rfl
@[simp] theorem State.setCopy_pwr : (s.setCopy d).pwr = s.pwr := rfl
@[simp] theorem State.setCopy_ntu : (s.setCopy d).ntu = s.ntu := rfl
@[simp] theorem State.setCopy_lnk : (s.setCopy d).lnk = s.lnk := rfl
@[simp] theorem State.setCopy_pins : (s.setCopy d).pins = s.pins := rfl
@[simp] theorem State.setCopy_inbox : (s.setCopy d).inbox = s.inbox := rfl
@[simp] theorem State.setCopy_choice : (s.setCopy d).choice = s.choice := rfl
@[simp] theorem State.setCopy_pending : (s.setCopy d).pending = s.pending := rfl
end setCopy

section send
variable (m : Signal) (s : State)
@[simp] theorem State.send_spc : (s.send m).spc = s.spc := rfl
@[simp] theorem State.send_act : (s.send m).act = s.act := rfl
@[simp] theorem State.send_vol0 : (s.send m).vol0 = s.vol0 := rfl
@[simp] theorem State.send_vol1 : (s.send m).vol1 = s.vol1 := rfl
@[simp] theorem State.send_pass : (s.send m).pass = s.pass := rfl
@[simp] theorem State.send_copy : (s.send m).copy = s.copy := rfl
@[simp] theorem State.send_che : (s.send m).che = s.che := rfl
@[simp] theorem State.send_xfer : (s.send m).xfer = s.xfer := rfl
@[simp] theorem State.send_bbf : (s.send m).bbf = s.bbf := rfl
@[simp] theorem State.send_rcv : (s.send m).rcv = s.rcv := rfl
@[simp] theorem State.send_pwr : (s.send m).pwr = s.pwr := rfl
@[simp] theorem State.send_ntu : (s.send m).ntu = s.ntu := rfl
@[simp] theorem State.send_lnk : (s.send m).lnk = s.lnk := rfl
@[simp] theorem State.send_pins : (s.send m).pins = s.pins := rfl
@[simp] theorem State.send_inbox : (s.send m).inbox = s.inbox ++ [m] := rfl
@[simp] theorem State.send_choice : (s.send m).choice = s.choice := rfl
@[simp] theorem State.send_pending : (s.send m).pending = s.pending := rfl
end send

section setSlot
variable (i : Nat) (c : Option Chain) (s : State)
@[simp] theorem State.setSlot_spc : (s.setSlot i c).spc = s.spc := rfl
@[simp] theorem State.setSlot_act : (s.setSlot i c).act = s.act := rfl
@[simp] theorem State.setSlot_vol0 : (s.setSlot i c).vol0 = s.vol0 := rfl
@[simp] theorem State.setSlot_vol1 : (s.setSlot i c).vol1 = s.vol1 := rfl
@[simp] theorem State.setSlot_pass : (s.setSlot i c).pass = s.pass := rfl
@[simp] theorem State.setSlot_copy : (s.setSlot i c).copy = s.copy := rfl
@[simp] theorem State.setSlot_che : (s.setSlot i c).che = { s.che with table := s.che.table.set i c } := rfl
@[simp] theorem State.setSlot_xfer : (s.setSlot i c).xfer = s.xfer := rfl
@[simp] theorem State.setSlot_bbf : (s.setSlot i c).bbf = s.bbf := rfl
@[simp] theorem State.setSlot_rcv : (s.setSlot i c).rcv = s.rcv := rfl
@[simp] theorem State.setSlot_pwr : (s.setSlot i c).pwr = s.pwr := rfl
@[simp] theorem State.setSlot_ntu : (s.setSlot i c).ntu = s.ntu := rfl
@[simp] theorem State.setSlot_lnk : (s.setSlot i c).lnk = s.lnk := rfl
@[simp] theorem State.setSlot_pins : (s.setSlot i c).pins = s.pins := rfl
@[simp] theorem State.setSlot_inbox : (s.setSlot i c).inbox = s.inbox := rfl
@[simp] theorem State.setSlot_choice : (s.setSlot i c).choice = s.choice := rfl
@[simp] theorem State.setSlot_pending : (s.setSlot i c).pending = s.pending := rfl
end setSlot

section updChain
variable (i : Nat) (f : Chain → Chain) (s : State)
@[simp] theorem State.updChain_spc : (s.updChain i f).spc = s.spc := rfl
@[simp] theorem State.updChain_act : (s.updChain i f).act = s.act := rfl
@[simp] theorem State.updChain_vol0 : (s.updChain i f).vol0 = s.vol0 := rfl
@[simp] theorem State.updChain_vol1 : (s.updChain i f).vol1 = s.vol1 := rfl
@[simp] theorem State.updChain_pass : (s.updChain i f).pass = s.pass := rfl
@[simp] theorem State.updChain_copy : (s.updChain i f).copy = s.copy := rfl
@[simp] theorem State.updChain_che : (s.updChain i f).che = { s.che with table := s.che.table.modify i (Option.map f) } := rfl
@[simp] theorem State.updChain_xfer : (s.updChain i f).xfer = s.xfer := rfl
@[simp] theorem State.updChain_bbf : (s.updChain i f).bbf = s.bbf := rfl
@[simp] theorem State.updChain_rcv : (s.updChain i f).rcv = s.rcv := rfl
@[simp] theorem State.updChain_pwr : (s.updChain i f).pwr = s.pwr := rfl
@[simp] theorem State.updChain_ntu : (s.updChain i f).ntu = s.ntu := rfl
@[simp] theorem State.updChain_lnk : (s.updChain i f).lnk = s.lnk := rfl
@[simp] theorem State.updChain_pins : (s.updChain i f).pins = s.pins := rfl
@[simp] theorem State.updChain_inbox : (s.updChain i f).inbox = s.inbox := rfl
@[simp] theorem State.updChain_choice : (s.updChain i f).choice = s.choice := rfl
@[simp] theorem State.updChain_pending : (s.updChain i f).pending = s.pending := rfl
end updChain

section updJob
variable (f : Job → Job) (s : State)
@[simp] theorem State.updJob_spc : (s.updJob f).spc = s.spc := rfl
@[simp] theorem State.updJob_act : (s.updJob f).act = s.act := rfl
@[simp] theorem State.updJob_vol0 : (s.updJob f).vol0 = s.vol0 := rfl
@[simp] theorem State.updJob_vol1 : (s.updJob f).vol1 = s.vol1 := rfl
@[simp] theorem State.updJob_pass : (s.updJob f).pass = s.pass := rfl
@[simp] theorem State.updJob_copy : (s.updJob f).copy = s.copy := rfl
@[simp] theorem State.updJob_che : (s.updJob f).che = { s.che with job := s.che.job.map f } := rfl
@[simp] theorem State.updJob_xfer : (s.updJob f).xfer = s.xfer := rfl
@[simp] theorem State.updJob_bbf : (s.updJob f).bbf = s.bbf := rfl
@[simp] theorem State.updJob_rcv : (s.updJob f).rcv = s.rcv := rfl
@[simp] theorem State.updJob_pwr : (s.updJob f).pwr = s.pwr := rfl
@[simp] theorem State.updJob_ntu : (s.updJob f).ntu = s.ntu := rfl
@[simp] theorem State.updJob_lnk : (s.updJob f).lnk = s.lnk := rfl
@[simp] theorem State.updJob_pins : (s.updJob f).pins = s.pins := rfl
@[simp] theorem State.updJob_inbox : (s.updJob f).inbox = s.inbox := rfl
@[simp] theorem State.updJob_choice : (s.updJob f).choice = s.choice := rfl
@[simp] theorem State.updJob_pending : (s.updJob f).pending = s.pending := rfl
end updJob

section setJob
variable (j : Option Job) (s : State)
@[simp] theorem State.setJob_spc : (s.setJob j).spc = s.spc := rfl
@[simp] theorem State.setJob_act : (s.setJob j).act = s.act := rfl
@[simp] theorem State.setJob_vol0 : (s.setJob j).vol0 = s.vol0 := rfl
@[simp] theorem State.setJob_vol1 : (s.setJob j).vol1 = s.vol1 := rfl
@[simp] theorem State.setJob_pass : (s.setJob j).pass = s.pass := rfl
@[simp] theorem State.setJob_copy : (s.setJob j).copy = s.copy := rfl
@[simp] theorem State.setJob_che : (s.setJob j).che = { s.che with job := j } := rfl
@[simp] theorem State.setJob_xfer : (s.setJob j).xfer = s.xfer := rfl
@[simp] theorem State.setJob_bbf : (s.setJob j).bbf = s.bbf := rfl
@[simp] theorem State.setJob_rcv : (s.setJob j).rcv = s.rcv := rfl
@[simp] theorem State.setJob_pwr : (s.setJob j).pwr = s.pwr := rfl
@[simp] theorem State.setJob_ntu : (s.setJob j).ntu = s.ntu := rfl
@[simp] theorem State.setJob_lnk : (s.setJob j).lnk = s.lnk := rfl
@[simp] theorem State.setJob_pins : (s.setJob j).pins = s.pins := rfl
@[simp] theorem State.setJob_inbox : (s.setJob j).inbox = s.inbox := rfl
@[simp] theorem State.setJob_choice : (s.setJob j).choice = s.choice := rfl
@[simp] theorem State.setJob_pending : (s.setJob j).pending = s.pending := rfl
end setJob

section setMech
variable (h : Holder) (s : State)
@[simp] theorem State.setMech_spc : (s.setMech h).spc = s.spc := rfl
@[simp] theorem State.setMech_act : (s.setMech h).act = s.act := rfl
@[simp] theorem State.setMech_vol0 : (s.setMech h).vol0 = s.vol0 := rfl
@[simp] theorem State.setMech_vol1 : (s.setMech h).vol1 = s.vol1 := rfl
@[simp] theorem State.setMech_pass : (s.setMech h).pass = s.pass := rfl
@[simp] theorem State.setMech_copy : (s.setMech h).copy = s.copy := rfl
@[simp] theorem State.setMech_che : (s.setMech h).che = { s.che with mech := h } := rfl
@[simp] theorem State.setMech_xfer : (s.setMech h).xfer = s.xfer := rfl
@[simp] theorem State.setMech_bbf : (s.setMech h).bbf = s.bbf := rfl
@[simp] theorem State.setMech_rcv : (s.setMech h).rcv = s.rcv := rfl
@[simp] theorem State.setMech_pwr : (s.setMech h).pwr = s.pwr := rfl
@[simp] theorem State.setMech_ntu : (s.setMech h).ntu = s.ntu := rfl
@[simp] theorem State.setMech_lnk : (s.setMech h).lnk = s.lnk := rfl
@[simp] theorem State.setMech_pins : (s.setMech h).pins = s.pins := rfl
@[simp] theorem State.setMech_inbox : (s.setMech h).inbox = s.inbox := rfl
@[simp] theorem State.setMech_choice : (s.setMech h).choice = s.choice := rfl
@[simp] theorem State.setMech_pending : (s.setMech h).pending = s.pending := rfl
end setMech

section updVol
variable (v : Vol) (f : VolCtx → VolCtx) (s : State)
@[simp] theorem State.updVol_spc : (s.updVol v f).spc = s.spc := by cases v <;> rfl
@[simp] theorem State.updVol_act : (s.updVol v f).act = s.act := by cases v <;> rfl
@[simp] theorem State.updVol_pass : (s.updVol v f).pass = s.pass := by cases v <;> rfl
@[simp] theorem State.updVol_copy : (s.updVol v f).copy = s.copy := by cases v <;> rfl
@[simp] theorem State.updVol_che : (s.updVol v f).che = s.che := by cases v <;> rfl
@[simp] theorem State.updVol_xfer : (s.updVol v f).xfer = s.xfer := by cases v <;> rfl
@[simp] theorem State.updVol_bbf : (s.updVol v f).bbf = s.bbf := by cases v <;> rfl
@[simp] theorem State.updVol_rcv : (s.updVol v f).rcv = s.rcv := by cases v <;> rfl
@[simp] theorem State.updVol_pwr : (s.updVol v f).pwr = s.pwr := by cases v <;> rfl
@[simp] theorem State.updVol_ntu : (s.updVol v f).ntu = s.ntu := by cases v <;> rfl
@[simp] theorem State.updVol_lnk : (s.updVol v f).lnk = s.lnk := by cases v <;> rfl
@[simp] theorem State.updVol_pins : (s.updVol v f).pins = s.pins := by cases v <;> rfl
@[simp] theorem State.updVol_inbox : (s.updVol v f).inbox = s.inbox := by cases v <;> rfl
@[simp] theorem State.updVol_choice : (s.updVol v f).choice = s.choice := by cases v <;> rfl
@[simp] theorem State.updVol_pending : (s.updVol v f).pending = s.pending := by cases v <;> rfl
@[simp] theorem State.updVol_vol : (s.updVol v f).vol v = f (s.vol v) := by cases v <;> rfl
end updVol

end Sys2Proof.Machine
end

