-- ==== Sys2Proof/Laws/Ops.lean ====
section
/-! SUPPORT. For the operations the blocks share: once, everything each can do. -/

namespace Sys2Proof.Machine

/-! ## Spindle Controller -/

/-- R4: one regulation step keeps the drive level in 40..255 and moves it by at most 12, whatever it was
inside that range. -/
theorem regulate_range (level t : Nat) : 40 ≤ regulate level t ∧ regulate level t ≤ 255 := by
  unfold regulate
  omega

theorem regulate_moves (level t : Nat) (h : 40 ≤ level ∧ level ≤ 255) :
    regulate level t ≤ level + 12 ∧ level ≤ regulate level t + 12 := by
  have hs : -12 ≤ regulationStep t ∧ regulationStep t ≤ 12 := by unfold regulationStep; omega
  unfold regulate
  omega

theorem spcTell_eq (st : SpindleState) (s : State) :
    spcTell st s =
      { s with spc := { s.spc with state := st },
               act := { s.act with permission := s.act.permission && decide (st = .locked) },
               inbox := s.inbox ++ [.spindle st] } := rfl

/-- R13: X's own wait for STOPPED is withdrawn and answered, or X does not wait. -/
theorem spcLeaveWait_cases (x : Requester) (s : State) :
    (s.spc.waits x = true ∧ spcLeaveWait x s =
      { s with spc := s.spc.setWait x false, inbox := s.inbox ++ [.stopWithdrawn x] }) ∨
      (s.spc.waits x = false ∧ spcLeaveWait x s = s) := by
  by_cases h : s.spc.waits x = true
  · exact .inl ⟨h, by simp [spcLeaveWait, h, State.updSpc, State.send]⟩
  · exact .inr ⟨by simpa using h, by simp [spcLeaveWait, h]⟩

/-- R13: a held start is dropped and answered, or none is held. -/
theorem spcDropHeld_cases (s : State) :
    (∃ y, s.spc.heldStart = some y ∧ spcDropHeld s =
      { s with spc := { s.spc with heldStart := none }, inbox := s.inbox ++ [.startWithdrawn y] }) ∨
      (s.spc.heldStart = none ∧ spcDropHeld s = s) := by
  cases h : s.spc.heldStart with
  | some y => exact .inl ⟨y, rfl, by simp [spcDropHeld, h, State.updSpc, State.send]⟩
  | none => exact .inr ⟨rfl, by simp [spcDropHeld, h]⟩

@[simp] theorem spcDropHeld_heldStart (s : State) : (spcDropHeld s).spc.heldStart = none := by
  obtain ⟨y, -, e⟩ | ⟨h, e⟩ := spcDropHeld_cases s <;> simp [*]

/-- R9, R13: what a start request can come to. -/
theorem spcStart_cases (x : Requester) (s : State) :
    (spcStart x s = (spcTakeStart s, .taken) ∧ s.spc.state = .stopped ∧ s.rcv.latch = .locked) ∨
      (spcStart x s = (spcTakeStart (spcLeaveWait x s), .taken) ∧ s.spc.state = .spinFault ∧
        (s.spc.stopConfirmed = true ∨ s.spc.waits x.other = false)) ∨
      (spcStart x s = (s, .refusedLatchReleased) ∧ s.spc.state = .stopped ∧ s.rcv.latch ≠ .locked) ∨
      (spcStart x s = (s, .satisfied) ∧ s.spc.state.turning = true) ∨
      (spcStart x s = (s, .refusedStopPending) ∧ (s.spc.state = .braking ∨ s.spc.state = .spinFault) ∧
        s.spc.waits x.other = true) ∨
      (spcStart x s = ((spcLeaveWait x s).updSpc fun p => { p with heldStart := some x }, .held) ∧
        s.spc.state = .braking ∧ s.spc.waits x.other = false) := by
  unfold spcStart
  cases h : s.spc.state <;> simp only [SpindleState.turning]
  · by_cases hl : s.rcv.latch = .locked <;> simp [hl]
  · simp
  · simp
  · simp
  · by_cases hw : s.spc.waits x.other = true <;> simp [hw]
  · by_cases hw : s.spc.waits x.other = true <;> by_cases hc : s.spc.stopConfirmed = true <;> simp_all

/-- R11 to R13, R18: what a stop request can come to. -/
theorem spcStop_cases (x : Requester) (cause : StopCause) (s : State) :
    (spcStop x cause s = (s, .stoppedAtOnce) ∧ s.spc.state = .stopped) ∨
      (spcStop x cause s = (spcEnterBraking cause (spcJoin x s), .stoppedLater) ∧
        s.spc.state.turning = true ∧ (s.act.head = .parked ∨ s.act.head = .retracting ∨ cause = .supply)) ∨
      (spcStop x cause s = (s, .refusedHeadsNotParked) ∧ s.spc.state.turning = true ∧
        s.act.head ≠ .parked ∧ s.act.head ≠ .retracting ∧ cause ≠ .supply) ∨
      (spcStop x cause s = (spcJoin x s, .stoppedLater) ∧
        (s.spc.state = .braking ∨ s.spc.state = .spinFault ∧ s.spc.stopConfirmed = false)) ∨
      (spcStop x cause s =
          (spcTell .stopped ((spcDropHeld s).updSpc fun p => { p with stopConfirmed := false }), .stoppedAtOnce) ∧ s.spc.state = .spinFault ∧ s.spc.stopConfirmed = true) := by
  unfold spcStop
  cases h : s.spc.state <;> simp only [SpindleState.turning]
  · simp
  iterate 3
    by_cases hh : s.act.head = .parked ∨ s.act.head = .retracting ∨ cause = .supply
    · simp [hh]
    · simp [hh]; tauto
  · simp
  · by_cases hc : s.spc.stopConfirmed = true <;> simp [hc]

/-- R14, R18: what an interval or a tach pulse can do to the stop test: a pulse sets the run to 0, a saturated
interval counts, and the sixth passes the test. -/
theorem spcStopTest_cases (saturated : Bool) (passed : State → State) (s : State) :
    (saturated = false ∧ spcStopTest saturated passed s = s.updSpc fun p => { p with satRun := 0 }) ∨
      (saturated = true ∧ s.spc.satRun < 5 ∧
        spcStopTest saturated passed s = s.updSpc fun p => { p with satRun := p.satRun + 1 }) ∨
      (saturated = true ∧ 5 ≤ s.spc.satRun ∧
        spcStopTest saturated passed s = passed (s.updSpc fun p => { p with satRun := 6 })) := by
  cases saturated with
  | false => simp [spcStopTest, State.updSpc]
  | true =>
    by_cases h : s.spc.satRun < 5
    · have hm : min 6 (s.spc.satRun + 1) = s.spc.satRun + 1 := by omega
      have hn : s.spc.satRun ≠ 5 := by omega
      exact .inr (.inl ⟨rfl, h, by simp [spcStopTest, State.updSpc, hm, hn]⟩)
    · have hm : min 6 (s.spc.satRun + 1) = 6 := by omega
      exact .inr (.inr ⟨rfl, by omega, by simp [spcStopTest, State.updSpc, hm]⟩)

/-! ## Actuator Controller -/

/-- R23: a change of head state is one field and one report; no change is nothing. -/
theorem actHead_cases (h : HeadState) (s : State) :
    (s.act.head = h ∧ actHead h s = s) ∨
      (s.act.head ≠ h ∧
        actHead h s = { s with act := { s.act with head := h }, inbox := s.inbox ++ [.head s.act.head h] }) := by
  by_cases hh : s.act.head = h
  · exact .inl ⟨hh, by simp [actHead, hh]⟩
  · exact .inr ⟨hh, by simp [actHead, hh, State.send, State.updAct]⟩

@[simp] theorem actHead_head (h : HeadState) (s : State) : (actHead h s).act.head = h := by
  obtain ⟨hh, e⟩ | ⟨-, e⟩ := actHead_cases h s <;> simp [*]

/-- 2.5: an answered seek is over, and its requester is told; with none there is nothing to answer. -/
theorem actAnswer_cases (x : SeekAnswer) (s : State) :
    (s.act.seek = none ∧ actAnswer x s = s) ∨
      ∃ k, s.act.seek = some k ∧
        actAnswer x s =
          { s with act := { s.act with seek := none, targetEnded := s.act.targetEnded || x.early }, inbox := s.inbox ++ [.seekAnswer k.party x] } := by
  cases h : s.act.seek with
  | none => exact .inl ⟨rfl, by simp [actAnswer, h]⟩
  | some k => exact .inr ⟨k, rfl, by simp [actAnswer, h, State.send, State.updAct]⟩

@[simp] theorem actAnswer_seek (x : SeekAnswer) (s : State) : (actAnswer x s).act.seek = none := by
  obtain ⟨h, e⟩ | ⟨k, -, e⟩ := actAnswer_cases x s <;> simp [*]

/-- R37: what a wedge in SETTLING can do: the arrival and a settle period fail on a wrong identity; between two
periods only a wedge of the target cylinder within ±12% does anything. -/
theorem actSettleWedge_cases (cylinder : Nat) (error : Int) (s : State) :
    (s.act.seek = none ∧ actSettleWedge cylinder error s = s) ∨
      ∃ k, s.act.seek = some k ∧
        ((cylinder ≠ k.target.cylinder ∧ (s.act.arrived = false ∨ s.act.settle ≠ none) ∧
            actSettleWedge cylinder error s = actFail s) ∨
          (cylinder = k.target.cylinder ∧ s.act.arrived = false ∧ s.act.settleTime = 0 ∧
            actSettleWedge cylinder error s = actArrive s) ∨
          (cylinder = k.target.cylinder ∧ s.act.arrived = false ∧ s.act.settleTime ≠ 0 ∧
            actSettleWedge cylinder error s = s.updAct fun a => { a with arrived := true, settle := some 2000 }) ∨
          (cylinder = k.target.cylinder ∧ s.act.arrived = true ∧ s.act.settle = none ∧ withinError 12 error = true ∧
            actSettleWedge cylinder error s = s.updAct fun a => { a with settle := some 2000 }) ∨
          (cylinder = k.target.cylinder ∧ s.act.arrived = true ∧ s.act.settle ≠ none ∧ withinError 12 error = false ∧
            actSettleWedge cylinder error s = s.updAct fun a => { a with settle := none }) ∨
          (s.act.arrived = true ∧ actSettleWedge cylinder error s = s)) := by
  cases hk : s.act.seek with
  | none => exact .inl ⟨rfl, by simp [actSettleWedge, hk]⟩
  | some k =>
    refine .inr ⟨k, rfl, ?_⟩
    unfold actSettleWedge
    by_cases hc : cylinder = k.target.cylinder <;> cases ha : s.act.arrived <;> by_cases hs : s.act.settle = none <;>
      by_cases ht : s.act.settleTime = 0 <;> cases he : withinError 12 error <;> simp [hk, hc, hs, ht]

/-- R39: a MISPLACED report counts on from the last seek only where that seek reached its end at the same
place. -/
theorem actMisplaced_cases (p : Party) (t : Target) (s : State) :
    (s.act.head ≠ .following ∧ actMisplaced p t s = s) ∨
      (s.act.head = .following ∧ s.act.target = some t ∧ s.act.targetEnded = false ∧ actMisplaced p t s =
        actFail (s.updAct fun a => { a with seek := some { party := p, target := t, phase := .running } })) ∨
      (s.act.head = .following ∧ (s.act.target ≠ some t ∨ s.act.targetEnded = true) ∧ actMisplaced p t s =
        actFail (s.updAct fun a =>
          { a with target := some t, targetEnded := false, retries := 0,
                   seek := some { party := p, target := t, phase := .running } })) := by
  unfold actMisplaced
  by_cases h : s.act.head = .following
  · by_cases ht : s.act.target = some t <;> by_cases he : s.act.targetEnded = false <;>
      simp [h, ht, he, State.updAct]
  · exact .inl ⟨h, if_neg h⟩

/-- R30, R31: an unload request enters UNLOADING, or finds the heads on the ramp or on their way to it. -/
theorem actUnload_cases (s : State) :
    (s.act.head.loaded = true ∧ actUnload s = actEnterUnloading .aborted s) ∨
      (s.act.head.loaded = false ∧ actUnload s = s) := by
  by_cases h : s.act.head.loaded = true
  · exact .inl ⟨h, by simp [actUnload, h]⟩
  · exact .inr ⟨by simpa using h, by simp [actUnload, h]⟩

/-- R34: what a seek request can come to. -/
theorem actSeek_cases (p : Party) (t : Target) (s : State) :
    let k : Seek := { party := p, target := t, phase := .held }
    (actSeek p t s = (actTakeSeek k s, .taken) ∧ s.act.head = .following) ∨
      (actSeek p t s = (s.updAct fun a => { a with seek := some k }, .held) ∧
        (s.act.head = .loading ∨ s.act.head = .reacquiring)) ∨
      (actSeek p t s = (s, .busy) ∧ (s.act.head = .seeking ∨ s.act.head = .settling)) ∨
      (actSeek p t s = (s, .notLoaded) ∧
        (s.act.head = .parked ∨ s.act.head = .unloading ∨ s.act.head = .retracting)) := by
  unfold actSeek
  cases h : s.act.head <;> simp

/-- R45: an open gate means FOLLOWING, an error within ±12% and a volume that is not protected. -/
theorem gateOpens_iff (s : State) :
    gateOpens s = true ↔ s.act.head = .following ∧ withinError 12 s.act.error = true ∧
      (s.vol (Vol.ofComb s.act.comb)).writeProtect = false := by
  simp [gateOpens, and_assoc]

/-! ## Placement Unit -/

/-- R71 to R74: what a translation can answer. -/
theorem translate_cases (slips : List Slip) (alts : List Alt) (v block : Nat) :
    (25419 < block ∧ translate slips alts v block = none) ∨
      (∃ a, block ≤ 25419 ∧ findAlternate alts block = some a ∧ translate slips alts v block =
        some { volume := v, block := block, kind := .alternate a, cylinder := 1, volumeHead := a / 32,
               comb := 2 * v + a / 32, slot := a % 32 }) ∨
      (block ≤ 25419 ∧ findAlternate alts block = none ∧ translate slips alts v block =
        some { volume := v, block := block, kind := .primary (block / 31) (block % 31),
               cylinder := 2 + block / 31 / 2, volumeHead := block / 31 % 2,
               comb := 2 * v + block / 31 % 2,
               slot := slipAdjust (findSlip slips (block / 31)) (block % 31) }) := by
  by_cases hb : block ≤ 25419
  · cases ha : findAlternate alts block with
    | none => exact .inr (.inr ⟨hb, rfl, by simp [translate, hb, ha]⟩)
    | some a => exact .inr (.inl ⟨a, hb, rfl, by simp [translate, hb, ha]⟩)
  · exact .inl ⟨by omega, by simp [translate, hb]⟩

/-! ## Notice Unit -/

theorem attend_eq (a : Attention) (s : State) : attend a s = { s with ntu := s.ntu.attend a } := rfl

/-- R174, R175: where an attention event goes. -/
theorem Ntu.attend_cases (n : Ntu) (a : Attention) :
    (n.enabled a.code = false ∧ n.attend a = n) ∨
      (n.queue.any (·.isAttention a.code) = true ∧ n.attend a =
        { n with queue := n.queue.map fun m => if m.isAttention a.code then m.replace (.attention a) else m }) ∨
      (n.queue.any (·.isAttention a.code) = false ∧ n.set.any (fun x => x.code == a.code) = true ∧
        n.attend a = { n with set := n.set.map fun x => if x.code == a.code then a else x }) ∨
      (n.queue.any (·.isAttention a.code) = false ∧ n.set.any (fun x => x.code == a.code) = false ∧
        (n.queue.length < 8 ∧ n.attend a = n.join (.attention a) ∨
          8 ≤ n.queue.length ∧ n.attend a = { n with set := n.set ++ [a] })) := by
  unfold Ntu.attend Ntu.hasPlace
  by_cases h1 : n.enabled a.code = true
  · rw [if_pos h1]
    by_cases h2 : n.queue.any (·.isAttention a.code) = true
    · exact .inr (.inl ⟨h2, if_pos h2⟩)
    · rw [if_neg h2]
      have h2' : n.queue.any (·.isAttention a.code) = false := by simpa using h2
      by_cases h3 : n.set.any (fun x => x.code == a.code) = true
      · exact .inr (.inr (.inl ⟨h2', h3, if_pos h3⟩))
      · rw [if_neg h3]
        have h3' : n.set.any (fun x => x.code == a.code) = false := by simpa using h3
        refine .inr (.inr (.inr ⟨h2', h3', ?_⟩))
        by_cases h4 : n.queue.length < 8
        · exact .inl ⟨h4, by simp [h4]⟩
        · exact .inr ⟨by omega, by simp [h4]⟩
  · exact .inl ⟨by simpa using h1, by simp [h1]⟩

/-- R112: a completion enters the queue and frees its slot, or stays with its chain. -/
theorem offerCompletion_cases (i : Nat) (s : State) :
    (∃ c, (s.chainAt i).bind (·.completion) = some c ∧ s.ntu.queue.length < 8 ∧ offerCompletion i s =
      { s with ntu := s.ntu.join (.completion c), che := { s.che with table := s.che.table.set i none } }) ∨
      ((8 ≤ s.ntu.queue.length ∨ (s.chainAt i).bind (·.completion) = none) ∧ offerCompletion i s = s) := by
  unfold offerCompletion Ntu.hasPlace
  cases h : (s.chainAt i).bind (·.completion) with
  | none => exact .inr ⟨.inr rfl, rfl⟩
  | some c =>
    by_cases h4 : s.ntu.queue.length < 8
    · exact .inl ⟨c, rfl, h4, by simp [h4, State.updNtu, State.setSlot, State.updChe]⟩
    · exact .inr ⟨.inl (by omega), by simp [h4]⟩

/-! ## Block Buffer -/

/-- R130: a read block finds its slot reserved, takes the lowest FREE one, or waits. -/
theorem reserveRead_cases (tag sequence : Nat) (s : State) :
    (s.bbf.slots.any (BlockSlot.readFor tag sequence) = true ∧ reserveRead tag sequence s = some s) ∨
      (∃ i, freeSlot s = some i ∧
        reserveRead tag sequence s = some (s.setBlockSlot i (.reserved tag sequence .read))) ∨
      (freeSlot s = none ∧ reserveRead tag sequence s = none) := by
  unfold reserveRead
  by_cases h : s.bbf.slots.any (BlockSlot.readFor tag sequence) = true
  · exact .inl ⟨h, if_pos h⟩
  · rw [if_neg h]
    cases hf : freeSlot s with
    | none => exact .inr (.inr ⟨rfl, rfl⟩)
    | some i => exact .inr (.inl ⟨i, rfl, rfl⟩)

/-! ## Power Manager -/

/-- R159, R168: a change of power state is one field and one attention event, and answers the SET POWER that
waits for it. -/
theorem pwrSetState_cases (p : PowerState) (s : State) :
    (s.pwr.state = p ∧ pwrSetState p s = s) ∨
      (s.pwr.state ≠ p ∧ s.pwr.setWait ≠ some p ∧ pwrSetState p s =
        { s with pwr := { s.pwr with state := p }, ntu := s.ntu.attend (.powerState p s.pwr.state) }) ∨
      (s.pwr.state ≠ p ∧ s.pwr.setWait = some p ∧ pwrSetState p s =
        { s with pwr := { s.pwr with state := p, setWait := none },
                 ntu := s.ntu.attend (.powerState p s.pwr.state), inbox := s.inbox ++ [.reached] }) := by
  unfold pwrSetState
  by_cases h : s.pwr.state = p
  · exact .inl ⟨h, if_pos h⟩
  · rw [if_neg h]
    by_cases hw : s.pwr.setWait = some p
    · exact .inr (.inr ⟨h, hw, by simp [hw, attend, State.updPwr, State.updNtu, State.send]⟩)
    · exact .inr (.inl ⟨h, hw, by simp [hw, attend, State.updPwr, State.updNtu]⟩)

/-- R164: a spin fault leaves a power record at rest where power state and target have met. -/
theorem pwrSpinFault_target (s : State) (h : s.pwr.state ≠ .faultHold) :
    (pwrSpinFault s).pwr.target = s.pwr.target.atSpinFault ∧ (pwrSpinFault s).pwr.state = s.pwr.atSpinFault := by
  unfold pwrSpinFault
  rw [if_neg h]
  obtain ⟨hs, e⟩ | ⟨-, -, e⟩ | ⟨-, -, e⟩ := pwrSetState_cases s.pwr.atSpinFault (s.updPwr fun w =>
      { w with target := w.target.atSpinFault,
               progress := if w.progress = .waitSpin then .none else w.progress,
               descent := if w.target.atSpinFault.below w.atSpinFault then w.descent else none }) <;>
    rw [e] <;> simp_all

/-- R167: a limit is off, or lies in its range. -/
theorem clampLimit_range (low high n : Nat) (h : low ≤ high) :
    clampLimit low high n = 0 ∧ n = 0 ∨ low ≤ clampLimit low high n ∧ clampLimit low high n ≤ high := by
  unfold clampLimit
  split <;> omega

/-! ## Receiver Controller -/

theorem setLamp_eq (s : State) : setLamp s = { s with rcv := { s.rcv with lamp := lampOf s } } := rfl

/-- R142, R151, R152: the latch is released here and nowhere else, and only over a stopped spindle and
parked heads. -/
theorem rcvEnterReleasing_cases (s : State) :
    (s.spc.state = .stopped ∧ s.act.head = .parked ∧ s.rcv.purpose = some .doorOpen ∧
      rcvEnterReleasing s =
        { s with rcv := { s.rcv with stage := .doorOpen, latch := .released, window := some 30000000 } }) ∨
      (s.spc.state = .stopped ∧ s.act.head = .parked ∧ s.rcv.purpose ≠ some .doorOpen ∧
        rcvEnterReleasing s =
          { s with rcv := { s.rcv with stage := .releasing, latch := .released, ejector := true,
                                       removalTimer := some 2000000 } }) ∨
      ((s.spc.state ≠ .stopped ∨ s.act.head ≠ .parked) ∧
        rcvEnterReleasing s =
          { s with rcv := { s.rcv with stage := .unloading }, inbox := s.inbox ++ [.enterUnloading] }) := by
  unfold rcvEnterReleasing latchMayRelease
  by_cases h1 : s.spc.state = .stopped <;> by_cases h2 : s.act.head = .parked <;>
    by_cases h3 : s.rcv.purpose = some .doorOpen <;> simp [h1, h2, h3, State.updRcv, State.send]

/-! ## Link Interface -/

/-- R188: a frame is begun, with the mark of what it carries, or nothing changes. -/
theorem beginFrame_cases (s : State) :
    (∃ f, laneOpen s = true ∧ nextFrame s = some f ∧
      beginFrame s = (markSending f.carries s).updLnk fun l => { l with out := some f }) ∨
      ((laneOpen s = false ∨ nextFrame s = none) ∧ beginFrame s = s) := by
  unfold beginFrame
  by_cases h : laneOpen s = true
  · cases hf : nextFrame s with
    | none => exact .inr ⟨.inr rfl, by simp [h]⟩
    | some f => exact .inl ⟨f, h, rfl, by simp [h]⟩
  · exact .inr ⟨.inl (by simpa using h), by simp [h]⟩

/-- R185, R186: a frame taken is refused or handed to its owner, and adds one reply. -/
theorem takeFrame_cases (sum kind tag : Byte) (length : Nat) (payload : List Byte) (s : State) :
    (∃ r, frameRefusal sum kind length payload = some r ∧ takeFrame sum kind tag length payload s =
      addReply { kind := kind, tag := tag, reason := some r, body := [] } s) ∨
      (frameRefusal sum kind length payload = none ∧ takeFrame sum kind tag length payload s =
        addReply (replyOf kind tag (handFrame kind.toNat tag payload s).2)
          (handFrame kind.toNat tag payload s).1) := by
  unfold takeFrame
  cases h : frameRefusal sum kind length payload with
  | some r => exact .inl ⟨r, rfl, rfl⟩
  | none => exact .inr ⟨rfl, rfl⟩

/-- R184, R189: bytes are taken, or wait unacknowledged. -/
theorem lnkReceive_cases (bytes : List Byte) (s : State) :
    (lnkReceive bytes s = lnkBytes bytes s ∧ s.lnk.waiting = [] ∧ leadWithheld (bytes.headD 0) s = false) ∨
      (lnkReceive bytes s = s.updLnk (fun l => { l with waiting := l.waiting ++ [bytes] }) ∧
        (s.lnk.waiting ≠ [] ∨ leadWithheld (bytes.headD 0) s = true)) := by
  unfold lnkReceive
  by_cases h : s.lnk.waiting ≠ [] ∨ leadWithheld (bytes.headD 0) s = true
  · exact .inr ⟨if_pos h, h⟩
  · exact .inl ⟨if_neg h, by simpa using (not_or.1 h).1, by simpa using (not_or.1 h).2⟩

end Sys2Proof.Machine
end

