-- ==== Sys2Proof/Laws/Settle.lean ====
section
/-! SUPPORT. How a step comes to rest: what `conclude` answers, once its reactions are known; what being at
rest means; and which part of the state the resting rules read. -/

namespace Sys2Proof.Machine

/-! ## Reactions -/

theorem settle_of_rest {s : State} (h : settleOnce s = none) (n : Nat) : settle n s = s := by
  cases n <;> simp [settle, h]

theorem settle_succ {s t : State} (h : settleOnce s = some t) (n : Nat) : settle (n + 1) s = settle n t := by
  simp [settle, h]

theorem settle_add (m n : Nat) (s : State) : settle (m + n) s = settle n (settle m s) := by
  induction m generalizing s with
  | zero => simp [settle]
  | succ m ih =>
    rw [Nat.add_right_comm]
    cases h : settleOnce s with
    | none => simp [settle, h, settle_of_rest h]
    | some t => rw [settle_succ h, settle_succ h, ih]

/-- A report on its way is taken before anything else. -/
theorem settleOnce_report {s : State} {m : Signal} {rest : List Signal} (h : s.inbox = m :: rest) :
    settleOnce s = some (react m { s with inbox := rest }) := by
  simp [settleOnce, h]

/-- With every report taken, the resting rules decide. -/
theorem settleOnce_quiet {s : State} (h : s.inbox = []) :
    settleOnce s = (idleRule s).map fun r => fire r s := by
  simp [settleOnce, h]

theorem settleOnce_none_iff (s : State) : settleOnce s = none ↔ s.inbox = [] ∧ idleRule s = none := by
  unfold settleOnce
  split <;> simp_all

/-! ## The end of a step -/

/-- A part that comes to rest within `k` reactions answers the state it came to. -/
theorem conclude_of_settle {s t : State} {k : Nat} (hk : k ≤ reactionBound) (hs : settle k s = t)
    (ht : settleOnce t = none) : conclude s = .next (beginFrame (setLamp t)) := by
  have h : settle reactionBound s = t := by
    obtain ⟨n, hn⟩ := Nat.exists_eq_add_of_le hk
    rw [hn, settle_add, hs, settle_of_rest ht]
  simp [conclude, h, ht]

theorem conclude_of_rest {s : State} (h : settleOnce s = none) :
    conclude s = .next (beginFrame (setLamp s)) :=
  conclude_of_settle (Nat.zero_le _) rfl h

/-- Everything `conclude` can answer: the state at rest with its lamp and its lane, or the fault. -/
theorem conclude_cases (s : State) :
    (∃ t, settle reactionBound s = t ∧ settleOnce t = none ∧ conclude s = .next (beginFrame (setLamp t))) ∨
      conclude s = .fault .unsettled := by
  unfold conclude
  cases h : settleOnce (settle reactionBound s) with
  | none => exact .inl ⟨_, rfl, h, by simp [h]⟩
  | some t => exact .inr (by simp [h])

/-- A property that every reaction keeps holds where the part comes to rest. -/
theorem settle_keeps {P : State → Prop} (hP : ∀ s t, P s → settleOnce s = some t → P t) (n : Nat) (s : State)
    (h : P s) : P (settle n s) := by
  induction n generalizing s with
  | zero => exact h
  | succ n ih =>
    cases hs : settleOnce s with
    | none => rwa [settle_of_rest hs]
    | some t => rw [settle_succ hs]; exact ih t (hP s t h hs)

/-! ## Being at rest -/

theorem beginFrame_of_closed {s : State} (h : (laneOpen s && (nextFrame s).isSome) = false) :
    beginFrame s = s := by
  unfold beginFrame
  by_cases hl : laneOpen s
  · have : nextFrame s = none := by simpa [hl] using h
    simp [this]
  · simp [hl]

theorem setLamp_of_lit {s : State} (h : s.rcv.lamp = lampOf s) : setLamp s = s := by
  simp [setLamp, State.updRcv, ← h]

theorem settled_rest {s : State} (h : s.settled = true) : settleOnce s = none := by
  simp only [State.settled, Bool.and_eq_true] at h
  simpa using h.1.1

theorem settled_lamp {s : State} (h : s.settled = true) : s.rcv.lamp = lampOf s := by
  simp only [State.settled, Bool.and_eq_true, decide_eq_true_eq] at h
  exact h.1.2

theorem settled_lane {s : State} (h : s.settled = true) :
    (laneOpen s && (nextFrame s).isSome) = false := by
  simp only [State.settled, Bool.and_eq_true, Bool.not_eq_true'] at h
  exact h.2

theorem settled_inbox {s : State} (h : s.settled = true) : s.inbox = [] :=
  ((settleOnce_none_iff s).1 (settled_rest h)).1

theorem settled_idle {s : State} (h : s.settled = true) : idleRule s = none :=
  ((settleOnce_none_iff s).1 (settled_rest h)).2

/-- A command that leaves a part at rest where it is, changes nothing. -/
theorem conclude_of_settled {s : State} (h : s.settled = true) : conclude s = .next s := by
  rw [conclude_of_rest (settled_rest h), setLamp_of_lit (settled_lamp h), beginFrame_of_closed (settled_lane h)]

theorem run_of_powered {s : State} (h : s.pins.logicLow = false) (f : State → State) :
    run f s = conclude (f s) := by
  simp [run, h]

theorem runPins_of_powered {s : State} {p : Pins → Pins} (h : (p s.pins).logicLow = false)
    (f : State → State) : runPins p f s = conclude (f (s.updPins p)) := by
  simp [runPins, run, h]

/-! ## What the resting rules read -/

/-- The resting rules read no more of the state than this. -/
theorem idleRule_congr {s t : State} (hpass : t.pass = s.pass) (hche : t.che = s.che)
    (hslots : t.bbf.slots = s.bbf.slots) (hp0 : t.vol0.pass = s.vol0.pass) (hp1 : t.vol1.pass = s.vol1.pass)
    (hstage : t.rcv.stage = s.rcv.stage) (hpause : t.rcv.pause = s.rcv.pause)
    (hfirst : t.rcv.firstReport = s.rcv.firstReport) (hpwr : t.pwr.state = s.pwr.state)
    (hunload : unloadDue t = unloadDue s) (hwaiting : t.lnk.waiting = s.lnk.waiting)
    (hlnk : t.lnk.stage = s.lnk.stage) (hreplies : t.lnk.replies = s.lnk.replies)
    (hline : t.pins.linkReset = s.pins.linkReset) (hchoice : t.choice = s.choice) :
    idleRule t = idleRule s := by
  have hat : ∀ i, t.chainAt i = s.chainAt i := fun i => by simp [State.chainAt, hche]
  have hchains : t.chains = s.chains := by simp [State.chains, hche, hat]
  have hvol : ∀ v, (t.vol v).pass = (s.vol v).pass := fun v => by cases v <;> simp [State.vol, hp0, hp1]
  have hjob : ∀ j, jobChain j t = jobChain j s := fun j => by simp [jobChain, funext hat]
  have hneed : ∀ c, neededSequences c t = neededSequences c s := fun c => by simp [neededSequences, hslots]
  have hready : ∀ c, chainReady t c = chainReady s c := fun c => by simp [chainReady, hstage]
  have hd : drained t = drained s := by simp only [drained, hstage, hpause, hpass, hchains]
  have hf : freeStarter t = freeStarter s := by simp only [freeStarter, hstage, hpwr, hchains]
  have he : heldEjectDue t = heldEjectDue s := by simp only [heldEjectDue, hche, hfirst]
  have hl : lendsTo t = lendsTo s := by simp only [lendsTo, hche, hvol]
  have hfree : hasFreeSlot t = hasFreeSlot s := by simp only [hasFreeSlot, hslots]
  have hr : readWaits t = readWaits s := by simp only [readWaits, hche, hfree]
  have hw : writeNeeds t = writeNeeds s := by simp only [writeNeeds, hche, hfree, hjob, hneed]
  have ha : arbiterChoice t = arbiterChoice s := by
    simp only [arbiterChoice, presentedPass, hche, hpwr, hstage, hp0, hp1, hchains, hready]
  have hu : unloadAllowed t = unloadAllowed s := by simp only [unloadAllowed, hche]
  have hg : unloadOrGrant t = unloadOrGrant s := by simp only [unloadOrGrant, hunload, hu, ha, hchoice]
  have hlead : ∀ b, leadWithheld b t = leadWithheld b s := fun b => by
    simp only [leadWithheld, hline, hlnk, hreplies]
  have hwait : waitingFrame t = waitingFrame s := by simp only [waitingFrame, hwaiting, hlead]
  simp only [idleRule, hd, hf, he, hl, hr, hw, hg, hwait]

/-- With nothing on hand no resting rule acts. -/
theorem idleRule_of_nothing {s : State} (hchains : s.chains = []) (hjob : s.che.job = none)
    (hp0 : s.vol0.pass ≠ .pending) (hp1 : s.vol1.pass ≠ .pending) (hstage : s.rcv.stage ≠ .draining)
    (hunload : unloadDue s = false) (hwaiting : s.lnk.waiting = []) : idleRule s = none := by
  simp [idleRule, drained, freeStarter, heldEjectDue, lendsTo, readWaits, writeNeeds, unloadOrGrant,
    arbiterChoice, presentedPass, waitingFrame, hchains, hjob, hp0, hp1, hstage, hunload, hwaiting, oldest]

/-- A command whose reactions come to a state at rest with its lamp right and its lane shut, answers it. -/
theorem conclude_settled {u t : State} {k : Nat} (hk : k ≤ reactionBound) (hs : settle k u = t)
    (ht : t.settled = true) : conclude u = .next t := by
  rw [conclude_of_settle hk hs (settled_rest ht), setLamp_of_lit (settled_lamp ht),
    beginFrame_of_closed (settled_lane ht)]

/-- A state is at rest if it differs from one at rest in nothing that rest depends on. -/
theorem settled_of_agree {s t : State} (hs : s.settled = true) (hinbox : t.inbox = [])
    (hidle : idleRule t = idleRule s) (hlamp : lampOf t = lampOf s) (hlit : t.rcv.lamp = s.rcv.lamp)
    (hopen : laneOpen t = laneOpen s) (hnext : (nextFrame t).isSome = (nextFrame s).isSome) :
    t.settled = true := by
  have h1 : settleOnce t = none := (settleOnce_none_iff t).2 ⟨hinbox, by rw [hidle, settled_idle hs]⟩
  have h2 := settled_lamp hs
  have h3 := settled_lane hs
  simp only [State.settled, h1, hlamp, hlit, h2, hopen, hnext, h3]
  rfl

end Sys2Proof.Machine
end

