-- ==== Sys2Proof/Tests/Slice0.lean ====
section
/-! SUPPORT. Tests: the checks of WellFormed, small steps with results worked out from the manual, and for
every statement with hypotheses a state and operands that meet them. -/

open Sys2Proof Sys2Proof.Machine

namespace Sys2Proof.Tests

/-! One theorem after another: each kernel evaluation waits for what stands before it. -/
set_option Elab.async false

/-! ## WellFormed refuses an ill-formed operand -/

theorem test_wf_interval : (Instr.tachPulse 65536).wellFormed = false := by decide

theorem test_wf_wedge :
    (Instr.wedgeReport 32 0 0 .clean (List.replicate 512 0)).wellFormed = false ∧
    (Instr.wedgeReport 0 412 0 .clean (List.replicate 512 0)).wellFormed = false ∧
    (Instr.wedgeReport 0 0 51 .clean (List.replicate 512 0)).wellFormed = false ∧
    (Instr.wedgeReport 0 0 (-51) .clean (List.replicate 512 0)).wellFormed = false ∧
    (Instr.wedgeReport 0 0 0 .clean (List.replicate 511 0)).wellFormed = false ∧
    (Instr.wedgeReport 31 411 (-50) .clean (List.replicate 512 0)).wellFormed = true := by decide +kernel

theorem test_wf_closing_data : (Instr.closingWedgeUnread (List.replicate 513 0)).wellFormed = false := by
  decide +kernel

theorem test_wf_payload :
    ∀ p : List Byte, p.length = 65536 →
      (Instr.chain 1 p).wellFormed = false ∧ (Instr.cancel 1 p).wellFormed = false ∧
      (Instr.data 1 p).wellFormed = false ∧ (Instr.settings 1 p).wellFormed = false ∧
      (Instr.linkReset 1 p).wellFormed = false ∧ (Instr.driveStatus 1 p).wellFormed = false ∧
      (Instr.volumeStatus 1 p).wellFormed = false ∧ (Instr.defectList 1 p).wellFormed = false ∧
      (Instr.chainStatus 1 p).wellFormed = false ∧ (Instr.unknownFrameKind 9 1 p).wellFormed = false ∧
      (Instr.frameRefusedCheck 9 1 p 0).wellFormed = false ∧
      (Instr.unknownQuerySubkind 1 p).wellFormed = false := by
  intro p h
  simp [Instr.wellFormed, payloadFits, h]

theorem test_wf_want :
    (Instr.wantTimerExpiry 0 0).wellFormed = false ∧ (Instr.wantTimerExpiry 256 0).wellFormed = false ∧
    (Instr.wantTimerExpiry 1 2048).wellFormed = false := by decide

theorem test_wf_kinds :
    (Instr.unknownFrameKind 6 1 []).wellFormed = false ∧ (Instr.unknownFrameKind 7 1 []).wellFormed = true ∧
    (Instr.unknownQuerySubkind 1 [3]).wellFormed = false ∧
    (Instr.awaitLeadByteDiscarded 0xC3#8).wellFormed = false := by decide

/-- C3 + 06 + 01 + 36 is 100 in hexadecimal: the sum is right, so the row is not the one of a bad check. -/
theorem test_wf_check :
    (Instr.frameRefusedCheck 6 1 [] 0x36#8).wellFormed = false ∧
    (Instr.frameRefusedCheck 6 1 [] 0x37#8).wellFormed = true := by decide

theorem test_wf_identity :
    (Instr.slotIdentityRead (some ⟨412, 0, 0, .bad⟩)).wellFormed = false ∧
    (Instr.slotIdentityRead (some ⟨0, 2, 0, .bad⟩)).wellFormed = false ∧
    (Instr.slotIdentityRead (some ⟨0, 0, 32, .bad⟩)).wellFormed = false ∧
    (Instr.slotIdentityRead (some ⟨0, 0, 0, .header 4⟩)).wellFormed = false ∧
    (Instr.slotIdentityRead (some ⟨1, 0, 0, .alternate 64⟩)).wellFormed = false ∧
    (Instr.slotIdentityRead (some ⟨2, 0, 0, .data 31⟩)).wellFormed = false := by decide

/-! ## States -/

/-- The next state of an outcome. -/
def answered : Host.Outcome State Fault Refusal → Option State
  | .next t => some t
  | .fault _ => none
  | .refused _ => none

/-- The command answers a next state of which `p` holds. -/
def gives (c : Instr) (s : State) (p : State → Bool) : Bool := (answered (exec c s)).any p

theorem next_of_gives {c : Instr} {s : State} {p : State → Bool} (h : gives c s p = true) :
    ∃ t, exec c s = .next t ∧ p t = true := by
  unfold gives answered at h
  split at h <;> rename_i hx
  · exact ⟨_, hx, by simpa using h⟩
  · cases h
  · cases h

def readyB (s : State) : Bool := s.settled && !s.pins.logicLow

def listeningB (s : State) : Bool :=
  readyB s && decide (s.lnk.stage = .awaitLead) && s.lnk.waiting.isEmpty && decide (s.lnk.replies.length < 2) &&
    !s.pins.linkReset

def clearB (s : State) : Bool :=
  readyB s && s.chains.isEmpty && decide (s.che.mech = .free) && s.che.job.isNone && s.pass.isNone &&
    decide (s.vol0.pass = .none) && decide (s.vol1.pass = .none) && decide (s.rcv.stage = .none) &&
    s.lnk.waiting.isEmpty

def quietB (s : State) : Bool := clearB s && decide (s.pwr.progress = .none)

theorem ready_of {s : State} (h : readyB s = true) : s.Ready := by
  simp only [readyB, Bool.and_eq_true, Bool.not_eq_true'] at h
  exact ⟨h.1, h.2⟩

theorem listening_of {s : State} (h : listeningB s = true) : s.Listening := by
  simp only [listeningB, Bool.and_eq_true, decide_eq_true_eq, Bool.not_eq_true', List.isEmpty_iff] at h
  exact ⟨ready_of h.1.1.1.1, h.1.1.1.2, h.1.1.2, h.1.2, h.2⟩

theorem clear_of {s : State} (h : clearB s = true) : s.Clear := by
  simp only [clearB, Bool.and_eq_true, decide_eq_true_eq, List.isEmpty_iff, Option.isNone_iff_eq_none] at h
  obtain ⟨⟨⟨⟨⟨⟨⟨⟨h0, h1⟩, h2⟩, h3⟩, h4⟩, h5⟩, h6⟩, h7⟩, h8⟩ := h
  exact ⟨ready_of h0, h1, h2, h3, h4, h5, h6, h7, h8⟩

theorem quiet_of {s : State} (h : quietB s = true) : s.Quiet := by
  simp only [quietB, Bool.and_eq_true, decide_eq_true_eq] at h
  exact ⟨clear_of h.1, h.2⟩

/-- A drive at ACTIVE with a locked spindle, heads on track and both volumes mounted. -/
def up : State :=
  setLamp
    { State.reset with
      spc := { Reset.spc with state := .locked, level := 180 }
      act := { Reset.act with head := .following, valid := true, watchdog := .stage1, stage1 := some 1875,
                              permission := true }
      vol0 := { Reset.vol .mounted with label := some ⟨1, 7⟩, generation := 1 }
      vol1 := { Reset.vol .mounted with label := some ⟨2, 9⟩, generation := 1, mountedSince := true }
      rcv := { Reset.rcv false with presence := true, firstReport := true, presenceDebounce := none,
                                    buttonDebounce := none }
      pwr := { Reset.pwr true with state := .active, target := .active }
      pins := { Reset.pins with presenceClosed := true } }

/-- `up` with the heads in another state. -/
def headAt (h : HeadState) : State := { up with act := { up.act with head := h } }

/-- A drive at SLEEP with the spindle in a given state and the heads parked. -/
def spindleAt (p : SpindleState) (level : Nat) (brake : Bool) : State :=
  setLamp { up with
    spc := { up.spc with state := p, level := level, brake := brake }
    act := { Reset.act with head := .parked }
    pwr := { up.pwr with state := .sleep, target := .sleep } }

/-- `up` with another spindle record. -/
def locking (inRun slowRun : Nat) : State :=
  let s := spindleAt .locking 160 false
  { s with spc := { s.spc with inRun := inRun, slowRun := slowRun } }

def locked (outRun : Nat) : State := { up with spc := { up.spc with outRun := outRun } }

def braking (satRun : Nat) (held : Option Requester) : State :=
  let s := spindleAt .braking 0 true
  { s with spc := { s.spc with satRun := satRun, heldStart := held, brakeTimer := some 20000000 } }

/-- An order with its kind and nothing else. -/
def orderOf (k : OrderKind) : Order :=
  { kind := k, flags := { chain := false, link := false, acceptShort := false, notify := false }, volume := 0,
    block := 0, count := 512, generation := none, serial := 0, track := 0, slip := none, power := none }

def chainOf (o : Order) (st : ChainState) : Chain :=
  { tag := 5, number := 0, orders := [o], index := 0, state := st, transferred := 0, sequence := 0,
    flags := Flags.empty, cancel := false, progress := none, fault := none, completion := none }

def jobOf (o : Order) (ph : Phase) (t : Task) : Job :=
  { chain := some 0, tag := 5, order := o, phase := ph, task := t, blk := 0, placement := none, tries := 0,
    flags := Flags.empty, placed := none, transferred := none, firstWrite := false, runReady := true, due := none, todo := [],
    failed := [], changed := false, header := [], newLabel := none }

/-- `s` with one order of a chain at work. -/
def atWork (o : Order) (st : ChainState) (ph : Phase) (t : Task) (s : State) : State :=
  { s with che := { table := [some (chainOf o st), none, none, none, none, none], counter := 1, mech := .order,
                    job := some (jobOf o ph t) } }

/-- A chain that waits in the table while a mount pass of volume 1 has the mechanism. -/
def queuedBehindPass : State :=
  { up with
    che := { table := [some (chainOf (orderOf .read) .queued), none, none, none, none, none], counter := 1,
             mech := .pass .v1, job := none }
    vol1 := { up.vol1 with pass := .running, state := .mounting }
    pass := some { volume := .v1, lent := false, phase := .read, blocks := [] } }

def place : Place := { cylinder := 2, comb := 0, slot := 0 }

def xferOf (k : XferKind) (seen : IdentitySeen) : Xfer :=
  { kind := k, place := place, openError := 0, gated := decide (k ≠ .read), seen := seen,
    identity := some ⟨2, 0, 0, .data 0⟩, data := [] }

/-- A block of an order under way. -/
def underWay (k : OrderKind) (x : Xfer) : State :=
  let s := atWork (orderOf k) .active .under .block up
  { s with
    xfer := some x
    act := { s.act with gate := x.gated, target := some ⟨2, 0⟩, cylinder := 2 }
    bbf := { s.bbf with slots :=
      (if k = .write then .filledWrite 5 0 512 [] else .reserved 5 0 .read) :: List.replicate 7 .free } }

def want : WantRecord := { tag := 5, first := 0, number := 1, timer := some 5000000 }

def wanting : Bbf := { Reset.bbf with slots := .reserved 5 0 .write :: List.replicate 7 .free, records := [want] }

/-- A seek of a party under way. -/
def seeking (h : HeadState) (party : Party) (retries : Nat) (s : State) : State :=
  { s with act := { s.act with
      head := h, seek := some ⟨party, ⟨100, 0⟩, .running⟩, target := some ⟨100, 0⟩, retries := retries,
      plan := some 19000, settle := some 2000, seekTimeout := some 42000 } }

/-! ## States and operands that meet the hypotheses of the statements -/

theorem witness_EveryStepEndsAtRest :
    (({ up with pending := [.oneSecondTick] } : State).pending ≠ [] ∧
      ∃ t, step { up with pending := [.oneSecondTick] } = .next t ∧ t.settled = true) ∧
    ∃ t, exec .hostReadyAsserted up = .next t ∧
      (decide (t.pins.logicLow = false) && t.lnk.out.isNone && t.pins.ready && !t.pins.linkReset) = true := by
  have h : gives .oneSecondTick up (fun t => t.settled) = true := by decide +kernel
  exact ⟨⟨by decide, next_of_gives h⟩, next_of_gives (by decide +kernel)⟩

theorem witness_ArbiterLeavesNothingWaiting :
    ∃ t, exec .oneSecondTick up = .next t ∧
      (decide (t.pins.logicLow = false) && decide (t.che.mech = .free) && decide (t.pwr.state ≠ .faultHold)) =
        true :=
  next_of_gives (by decide +kernel)

/-- `up` with a command on hand and a notice queue, a delivery queue and two tables that are not empty. -/
def lawful : State :=
  { up with
    pending := [.oneSecondTick]
    ntu := { up.ntu with queue := [{ body := .attention (.ejectRefused 2), sending := false, replaced := false }] }
    bbf := { up.bbf with
      slots := .filledRead 5 0 0 512 false [] :: List.replicate 7 .free, delivery := [0] }
    vol0 := { up.vol0 with slips := [⟨0, 31⟩, ⟨819, 0⟩], alts := .assigned 25419 :: List.replicate 63 .free } }

theorem witness_step_lawful : ∃ t, step lawful = .next t := by
  have h : gives .oneSecondTick { lawful with pending := [] } (fun _ => true) = true := by decide +kernel
  exact (next_of_gives h).imp fun _ h => h.1

theorem witness_SpindleLawKept : lawful.spc.Outputs ∧ lawful.spc.Ranges := by
  refine ⟨?_, by unfold Spc.Ranges; decide⟩
  exact (by decide : 40 ≤ 180 ∧ 180 ≤ 255 ∧ false = false)

theorem witness_HeadAndLatchLawKept :
    let s := { lawful with pwr := { lawful.pwr with descent := some .idle, target := .standby } }
    s.HeadLaw ∧ s.LatchLaw ∧ s.DescentLaw := by
  unfold State.HeadLaw State.LatchLaw State.DescentLaw
  decide

theorem witness_GateLawKept : (underWay .write (xferOf .writeData .agrees)).GateLaw := by
  unfold State.GateLaw
  decide

theorem witness_MechanismLawKept : lawful.MechanismLaw ∧ queuedBehindPass.MechanismLaw := by
  constructor
  · refine ⟨by decide, fun v => ⟨fun h => ?_, ?_⟩⟩
    · cases h
    · rintro ⟨p, h, -⟩
      cases h
  · refine ⟨by decide, fun v => ⟨fun h => ?_, ?_⟩⟩
    · cases h
      exact ⟨_, rfl, rfl, rfl⟩
    · rintro ⟨p, h, -, rfl⟩
      cases h
      rfl

theorem witness_NoticeLawKept : lawful.NoticeLaw := by
  unfold State.NoticeLaw
  decide +kernel

theorem witness_BufferLawKept : lawful.bbf.BufferLaw := by
  refine ⟨by decide, by decide, fun i => ?_⟩
  match i with
  | 0 => decide
  | 1 | 2 | 3 | 4 | 5 | 6 | 7 => decide
  | n + 8 => simp [lawful, BlockSlot.isFilledRead]

theorem lawful_volumes : lawful.VolumeLaw := by
  unfold State.VolumeLaw VolCtx.TableLaw ascending
  decide +kernel

/-- Nothing at work, and an alternate slot being written for a block that has none. -/
theorem witness_VolumeLawKept :
    (lawful.VolumeLaw ∧ lawful.WorkLaw) ∧
    let s := atWork { orderOf .assignAlternate with block := 25418 } .active .ready (.altWrite 1) lawful
    s.VolumeLaw ∧ s.WorkLaw := by
  refine ⟨⟨lawful_volumes, rfl, witness_MechanismLawKept.1, by decide, fun j h => ?_⟩, ?_⟩
  · cases h
  refine ⟨lawful_volumes, rfl, ⟨by decide, fun v => ⟨fun h => ?_, fun h => ?_⟩⟩, by decide, fun j h => ?_⟩
  · cases h
  · obtain ⟨p, h, -⟩ := h
    cases h
  · cases h
    exact ⟨by decide, fun _ => by decide, rfl, by decide +kernel⟩

theorem witness_LinkLawKept : lawful.LinkLaw := by
  refine ⟨by decide, by decide, ?_, by decide⟩
  intro b h
  cases h

theorem witness_AcceleratingInterval :
    (spindleAt .accelerating 255 false).Ready ∧ (spindleAt .accelerating 255 false).spc.state = .accelerating :=
  ⟨ready_of (by decide +kernel), by decide⟩

/-- A pulse at the moment of saturation; the 23rd interval of the run and a seventh slow one; an eighth slow one; and
saturated intervals below it and at it. -/
theorem witness_LockingInterval :
    ((locking 22 7).Ready ∧ (locking 22 7).spc.state = .locking ∧ (locking 22 7).spc.slowRun < 8 ∧
      min 65535 ((locking 22 7).spc.interval + 0) = 0 ∧
      (4975 ≤ min 65535 ((locking 22 7).spc.interval + 4975) ∧ (locking 22 7).spc.inRun + 1 < 24)) ∧
    ((locking 0 6).Ready ∧ (locking 0 6).spc.slowRun + 1 < 8 ∧
      5750 < min 65535 ((locking 0 6).spc.interval + 5751)) ∧
    (5750 < min 65535 ((locking 22 7).spc.interval + 5751) ∧ (locking 22 7).spc.slowRun + 1 = 8) :=
  ⟨⟨ready_of (by decide +kernel), by decide⟩, ⟨ready_of (by decide +kernel), by decide⟩, by decide⟩

/-- `locking` on the way up to a target, with a load waiting over parked heads. -/
def lockingUp (target : PowerState) (loads : List LoadRequest) (purge : Nat) : State :=
  let s := locking 23 0
  { s with spc := { s.spc with purge := purge }, act := { s.act with loads := loads }
           pwr := { s.pwr with target := target, progress := .waitSpin } }

/-- No move of PWR's, one to STANDBY and one to ACTIVE, with the purge still running; and a load that waits for the
permission. -/
theorem witness_LockReached :
    (∀ s ∈ [locking 23 0, lockingUp .standby [] 0, lockingUp .active [] 2, lockingUp .active [⟨.che, .v1⟩] 0],
      s.Ready ∧ s.spc.state = .locking ∧ s.spc.inRun = 23 ∧ (∀ j ∈ s.che.job, j.phase ≠ .power) ∧
      ∀ ticks ∈ [4975, 5025], 4975 ≤ min 65535 (s.spc.interval + ticks) ∧ min 65535 (s.spc.interval + ticks) ≤ 5025) ∧
    ((lockingUp .active [] 2).spc.counted.purge ≠ 0 ∧ (lockingUp .standby [] 0).act.loads = []) ∧
    (let s := lockingUp .active [⟨.che, .v1⟩] 0
     s.spc.counted.purge = 0 ∧ s.act.head = .parked ∧ s.act.loads = [⟨.che, .v1⟩]) := by
  refine ⟨fun s h => ⟨ready_of ?_, ?_⟩, by decide, by decide⟩ <;> revert s <;> decide +kernel

/-- R2, R3, R5, R20: the boundary of 5,250 ticks; a pulse at the moment of saturation closes no interval; and the 24th interval
in the window brings the lock with load permission. -/
theorem test_tach_pulse_spins_up :
    gives (.tachPulse 5250) (spindleAt .accelerating 255 false) (fun t => decide (t.spc.state = .locking)) = true ∧
    gives (.tachPulse 5251) (spindleAt .accelerating 255 false)
      (fun t => decide (t.spc.state = .accelerating)) = true ∧
    gives (.tachPulse 0) (spindleAt .accelerating 255 false) (fun t => decide (t.spc.state = .accelerating)) = true ∧
    gives (.tachPulse 0) (locking 22 7) (fun t => decide (t.spc.inRun = 22) && decide (t.spc.slowRun = 7)) = true ∧
    gives (.tachPulse 5025) (locking 23 0) (fun t => decide (t.spc.state = .locked) && t.act.permission) = true ∧
    gives (.tachPulse 5026) (locking 23 0)
      (fun t => decide (t.spc.state = .locking) && decide (t.spc.inRun = 0)) = true := by decide +kernel

theorem witness_LockedInterval :
    (locked 2).Ready ∧ (locked 2).spc.state = .locked ∧ (locked 2).act.loads = [] ∧
    min 65535 ((locked 2).spc.interval + 0) = 0 ∧
    (0 < min 65535 ((locked 2).spc.interval + 4974) ∧ ¬ 4975 ≤ min 65535 ((locked 2).spc.interval + 4974) ∧
      (locked 2).spc.outRun + 1 < 4) ∧
    (locked 2).spc.outRun < 3 :=
  ⟨ready_of (by decide +kernel), by decide⟩

/-- Over parked heads and over loaded ones, at the last interval below the window, the first above it, and a saturated
one. -/
theorem witness_LockLoss :
    (∀ ticks ∈ [4974, 5026], 0 < min 65535 ((locked 3).spc.interval + ticks) ∧
      ¬ (4975 ≤ min 65535 ((locked 3).spc.interval + ticks) ∧ min 65535 ((locked 3).spc.interval + ticks) ≤ 5025)) ∧
    ¬ (4975 ≤ 65535 ∧ 65535 ≤ 5025) ∧
    ((locked 3).Quiet ∧ (locked 3).spc.state = .locked ∧ (locked 3).spc.outRun = 3 ∧
      (locked 3).act.head.loaded = true) ∧
    ((setLamp { locked 3 with act := Reset.act }).Ready ∧
      (setLamp { locked 3 with act := Reset.act }).spc.state = .locked ∧
      (setLamp { locked 3 with act := Reset.act }).spc.outRun = 3 ∧
      (setLamp { locked 3 with act := Reset.act }).act.head.loaded = false) :=
  ⟨by decide, by decide, ⟨quiet_of (by decide +kernel), by decide⟩, ⟨ready_of (by decide +kernel), by decide⟩⟩

/-- A spindle in SPIN FAULT whose stop test still runs. -/
def faulted (satRun : Nat) (waits : Bool) : State :=
  let s := spindleAt .spinFault 0 true
  { s with spc := { s.spc with satRun := satRun, waitPwr := waits }
           pwr := { s.pwr with progress := if waits then .waitStopped else .none } }

/-- The fifth saturated interval and the sixth, with no start held and with one; and in SPIN FAULT, with a waiter and
with none. -/
theorem witness_StopTest :
    (∀ s ∈ [braking 4 none, faulted 4 false], s.Ready ∧
      (s.spc.state = .braking ∨ s.spc.state = .spinFault ∧ s.spc.stopConfirmed = false) ∧ s.spc.satRun < 5) ∧
    (∀ s ∈ [braking 5 none, braking 5 (some .pwr)], s.Clear ∧ s.spc.satRun = 5 ∧ s.spc.state = .braking) ∧
    ((braking 5 none).spc.heldStart = none ∧ (braking 5 (some .pwr)).spc.heldStart ≠ none) ∧
    ((faulted 5 true).Clear ∧ (faulted 5 true).spc.satRun = 5 ∧ (faulted 5 true).spc.state = .spinFault ∧
      (faulted 5 true).spc.waitPwr = true) ∧
    ((faulted 5 false).Ready ∧ (faulted 5 false).spc.satRun = 5 ∧ (faulted 5 false).spc.state = .spinFault ∧
      (faulted 5 false).spc.waitPwr = false ∧ (faulted 5 false).spc.waitRcv = false) := by
  refine ⟨fun s h => ⟨ready_of ?_, ?_⟩, fun s h => ⟨clear_of ?_, ?_⟩, by decide,
    ⟨clear_of (by decide +kernel), by decide⟩, ready_of (by decide +kernel), by decide⟩
  iterate 4 revert s; decide +kernel

/-- R20, R28, R163: the lock brings the permission, and the load that waited for it starts and raises the drive to
ACTIVE. R14, R18: a pulse of 65,535 ticks, and one at the moment of saturation, start the stop test again. -/
theorem test_tach_pulse_loads_and_stops :
    gives (.tachPulse 5000) (lockingUp .active [⟨.che, .v1⟩] 0)
      (fun t => decide (t.act.head = .loading) && decide (t.act.comb = 2) && decide (t.pwr.state = .active) &&
        decide (t.pwr.progress = .none)) = true ∧
    (∀ n ∈ [0, 65535], gives (.tachPulse n) (braking 5 none) (fun t => decide (t.spc.satRun = 0)) = true) ∧
    gives (.tachPulse 0) (faulted 5 false) (fun t => decide (t.spc.satRun = 0) && t.spc.brake) = true := by decide +kernel

/-- `spindleAt` with the three spindle timers running. -/
def timed (p : SpindleState) (level : Nat) (brake : Bool) : State :=
  let s := spindleAt p level brake
  { s with spc := { s.spc with startTimer := some 1, relockTimer := some 1, brakeTimer := some 1 } }

/-- A drive at DORMANT that has been asked for ACTIVE. -/
def waking : State :=
  let s := timed .locking 160 false
  { s with pwr := { s.pwr with state := .dormant, target := .active, progress := .waitSpin } }

/-- `s` with a supply state, held in FAULT HOLD where it is not GOOD. -/
def supplied (x : Supply) (s : State) : State :=
  { s with pwr := { s.pwr with
      supply := x, holdOff := some 1000000, state := if x = .good then s.pwr.state else .faultHold,
      beforeFault := if x = .good then none else some s.pwr.state,
      progress := if x = .good then s.pwr.progress else .waitStopped } }

theorem witness_SpinFaultEntered :
    ((timed .locking 160 false).Clear ∧ (timed .locking 160 false).act.head.loaded = false ∧
      (timed .locking 160 false).spc.startTimer ≠ none ∧ (timed .locking 160 false).spc.relockTimer ≠ none ∧
      (timed .locking 160 false).spc.state = .locking) ∧
    ((timed .braking 0 true).Clear ∧ (timed .braking 0 true).act.head.loaded = false ∧
      (timed .braking 0 true).spc.brakeTimer ≠ none ∧ (timed .braking 0 true).spc.state = .braking) ∧
    (waking.Clear ∧ waking.act.head.loaded = false ∧ waking.spc.startTimer ≠ none ∧ waking.spc.state = .locking) ∧
    ((supplied .fault (timed .locking 160 false)).Clear ∧
      (supplied .fault (timed .locking 160 false)).pwr.state = .faultHold) :=
  ⟨⟨clear_of (by decide +kernel), by decide⟩, ⟨clear_of (by decide +kernel), by decide⟩,
    ⟨clear_of (by decide +kernel), by decide⟩, clear_of (by decide +kernel), by decide⟩

/-- R161: from DORMANT the power state becomes SLEEP in the event that makes it the target. -/
theorem test_spin_fault_from_dormant :
    gives .startTimerExpiry waking
      (fun t => decide (t.pwr.state = .sleep) && decide (t.pwr.target = .sleep) &&
        decide (t.ntu.queue.map (·.body) = [.attention (.powerState .sleep .dormant)])) = true := by decide +kernel

/-! ### Placement and formats -/

/-- The intervals and drive levels of the manual's worked spin-up (1.9). -/
theorem test_regulation_worked :
    regulate 160 5180 = 172 ∧ regulate 172 5090 = 184 ∧ regulate 184 5030 = 191 ∧ regulate 191 5010 = 193 ∧
      regulate 193 4996 = 192 := by decide

/-- The range table of R70. -/
theorem test_range_worked :
    ([(25400, 10240), (25400, 10241), (25292, 65535), (25293, 65535), (25419, 1), (25420, 512)].map fun x =>
      inRange { orderOf .read with block := x.1, count := x.2 }) = [true, false, true, false, true, false] := by
  decide

/-- Block 10,000 of volume 1, worked in 4.9: cylinder 163, comb head 2, and slot 19 past the slip entry. -/
theorem test_translate_worked :
    (translate [{ track := 322, slot := 7 }] [] 1 10000).map (fun p => (p.cylinder, p.comb, p.slot)) =
      some (163, 2, 19) := by decide

/-- A map with its first slot given to the last block. -/
def oneAlternate : List Alt := .assigned 25419 :: List.replicate 63 .free

theorem oneAlternate_assigned (a b : Nat) : oneAlternate.getD a .free = .assigned b ↔ a = 0 ∧ b = 25419 := by
  match a with
  | 0 => simp [oneAlternate, eq_comm]
  | n + 1 =>
    have h : ∀ (l : List Alt), (∀ x ∈ l, x = .free) → ∀ i, l.getD i .free = .free := fun l => by
      induction l with
      | nil => simp
      | cons x xs ih =>
        intro h i
        match i with
        | 0 => exact h x (by simp)
        | i + 1 => exact ih (fun y hy => h y (by simp [hy])) i
    have hn := h (List.replicate 63 .free) (by simp) n
    simp only [oneAlternate, List.getD_cons_succ, hn]
    simp

theorem witness_PrimaryPlacement : 25418 ≤ 25419 ∧ ∀ a, oneAlternate.getD a .free ≠ .assigned 25418 :=
  ⟨by decide, fun a h => absurd ((oneAlternate_assigned a 25418).mp h).2 (by decide)⟩

theorem witness_AlternatePlacement :
    25419 ≤ 25419 ∧
    (∀ a b, oneAlternate.getD a .free = .assigned 25419 → oneAlternate.getD b .free = .assigned 25419 → a = b) ∧
    oneAlternate.getD 0 .free = .assigned 25419 ∧
    (∀ a, oneAlternate.getD a .free ≠ .assigned 0) ∧ (translate [] oneAlternate 0 0).isSome = true :=
  ⟨by decide, fun a b h k => by rw [((oneAlternate_assigned a _).mp h).1, ((oneAlternate_assigned b _).mp k).1],
    rfl, fun a h => absurd ((oneAlternate_assigned a 0).mp h).2 (by decide), by decide +kernel⟩

theorem witness_SlipAdjustment : 25419 ≤ 25419 ∧ oneAlternate.length = 64 := by decide

theorem witness_PlacementsAreDistinct :
    oneAlternate.length = 64 ∧ ∃ p q, translate [⟨0, 0⟩] oneAlternate 1 0 = some p ∧
      translate [⟨0, 0⟩] oneAlternate 1 0 = some q ∧ p.cylinder = q.cylinder ∧ p.comb = q.comb ∧ p.slot = q.slot :=
  ⟨by decide, _, _, rfl, rfl, rfl, rfl, rfl⟩

/-- Track 0 with slot 0 passed over: block 0 lies in slot 1, block 30 in slot 31 (R74). -/
theorem test_slip_first_and_last :
    (translate [⟨0, 0⟩] [] 0 0).map (·.slot) = some 1 ∧ (translate [⟨0, 0⟩] [] 0 30).map (·.slot) = some 31 := by
  decide +kernel

theorem witness_HeaderReadsBack :
    (65535 < 65536 ∧ 4294967295 < 4294967296 ∧ [Slip.mk 0 0, ⟨819, 31⟩].length ≤ 128) ∧
    ascending [⟨0, 0⟩, ⟨819, 31⟩] ∧ (∀ e ∈ [Slip.mk 0 0, ⟨819, 31⟩], e.track ≤ 819 ∧ e.slot ≤ 31) ∧
    oneAlternate.length = 64 ∧ (∀ b ∈ assignedBlocks oneAlternate, b ≤ 25419) ∧
    (assignedBlocks oneAlternate).Nodup := by
  unfold ascending
  decide +kernel

/-- 12.5: the signature, a format count of 3, a serial of 77 and no slip entries begin the header. -/
theorem test_header_begins :
    (headerBytes ⟨3, 77⟩ [] (List.replicate 64 .free)).take 12 =
      [0x1C, 0x62, 0xA5, 0x5A, 0, 3, 0, 0, 0, 77, 0, 0] := by decide +kernel

theorem witness_FrameAssembled :
    State.reset.lnk.stage = .awaitLead ∧ (List.replicate 65535 (0 : Byte)).length ≤ 65535 :=
  ⟨by decide, by rw [List.length_replicate]⟩

theorem witness_OrderRecordsReadBack :
    (List.replicate 255 (orderOf .read)).length ≤ 255 ∧
    ∀ o ∈ List.replicate 255 (orderOf .read), orderFits o := by
  refine ⟨by rw [List.length_replicate], fun o h => ?_⟩
  rw [(List.mem_replicate.mp h).2]
  unfold orderFits
  decide

/-! ### Actuator Controller -/

theorem witness_WedgeHeard :
    (∀ h ∈ [HeadState.parked, .seeking, .following, .reacquiring, .loading],
      (headAt h).Ready ∧ (headAt h).act.head = h) ∧
    (headAt .loading).xfer = none ∧ (headAt .loading).che.job = none ∧ (headAt .loading).pass = none ∧
    (headAt .loading).act.seek = none ∧ (headAt .loading).act.loads.length ≤ 2 ∧
    (headAt .loading).vol0.state.mountNeed = false ∧ (headAt .loading).vol1.state.mountNeed = false := by
  refine ⟨fun h m => ⟨ready_of ?_, rfl⟩, by decide⟩
  revert h
  decide +kernel

/-- Heads loading over a volume 0 that has not been mounted yet. -/
def firstLoad : State :=
  let s := headAt .loading
  { s with vol0 := Reset.vol .unmounted, act := { s.act with loads := [⟨.che, .v0⟩, ⟨.vol, .v1⟩], attempt := 1 } }

theorem witness_LoadBeginsMountPass :
    firstLoad.Quiet ∧ firstLoad.act.head = .loading ∧ firstLoad.act.seek = none ∧
    firstLoad.act.loads.length ≤ 2 ∧ firstLoad.vol0.state = .unmounted ∧
    firstLoad.vol1.state.mountNeed = false ∧ firstLoad.pwr.state ≠ .faultHold :=
  ⟨quiet_of (by decide +kernel), by decide⟩

/-- R78: from cylinder 205 to 0 the plan is 28 ms. -/
theorem test_first_load_seeks :
    gives (.wedgeReport 0 205 0 .clean []) firstLoad
      (fun t => decide (t.act.plan = some 28000) && decide (t.act.head = .seeking)) = true ∧
    gives (.wedgeReport 0 0 0 .clean []) firstLoad (fun t => decide (t.act.head = .following)) = true := by
  decide +kernel

def loading (attempt : Nat) : State :=
  let s := headAt .loading
  { s with act := { s.act with attempt := attempt, acquisition := some 400000, loads := [⟨.che, .v0⟩] } }

def toRamp (h : HeadState) : State :=
  let s := headAt h
  { s with act := { s.act with unload := some 300000, retract := some 300000 } }

theorem witness_LoadAndUnloadTimers :
    (∀ n ∈ [1, 2], (loading n).Quiet ∧ (loading n).act.head = .loading ∧ (loading n).act.acquisition ≠ none ∧
      (loading n).act.attempt = n ∧ (loading n).act.loads.length ≤ 2) ∧
    (∀ h ∈ [HeadState.unloading, .retracting, .following], (toRamp h).Ready ∧ (toRamp h).act.head = h ∧
      (toRamp h).act.unload ≠ none ∧ (toRamp h).act.retract ≠ none ∧ (toRamp h).act.loads = [] ∧
      (toRamp h).rcv.stage ≠ .unloading ∧ (toRamp h).pwr.progress ≠ .waitParked) := by
  constructor
  · refine fun n h => ⟨quiet_of ?_, ?_⟩ <;> revert n <;> decide +kernel
  · refine fun h m => ⟨ready_of ?_, ?_⟩ <;> revert h <;> decide +kernel

/-- A mount pass of volume 0 that waits for its seek. -/
def passSeeking : State :=
  let s := seeking .settling .vol 0 up
  { s with pass := some { volume := .v0, lent := false, phase := .seek, blocks := [] },
           vol0 := { s.vol0 with pass := .running, state := .mounting }, che := { s.che with mech := .pass .v0 } }

def orderSeeking (h : HeadState) (task : Task) (retries : Nat) : State :=
  seeking h .che retries (atWork (orderOf (if task = .seekOnly then .seek else .read)) .active .seek task up)

/-- `orderSeeking` before its arrival wedge, with a settle time of 2 ms or of none, and after it. -/
def arriving (time : Nat) (arrived : Bool) : State :=
  let s := orderSeeking .settling .block 0
  { s with act := { s.act with settleTime := time, arrived := arrived, settle := none } }

theorem witness_SeekEnds :
    ((orderSeeking .seeking .block 0).Ready ∧ (orderSeeking .seeking .block 0).act.head = .seeking ∧
      (orderSeeking .seeking .block 0).act.plan ≠ none) ∧
    (∀ x ∈ [(2000, false), (0, false), (2000, true)],
      (arriving x.1 x.2).Ready ∧ (arriving x.1 x.2).act.settle = none ∧ (arriving x.1 x.2).act.head = .settling ∧
      (arriving x.1 x.2).act.settleTime = x.1 ∧ (arriving x.1 x.2).act.arrived = x.2 ∧
      (arriving x.1 x.2).act.seek.map (·.target.cylinder) = some 100 ∧ (arriving x.1 x.2).pass = none ∧
      ∀ j ∈ (arriving x.1 x.2).che.job, j.phase = .seek ∧ j.task ≠ .seekOnly ∧
        jobCancelled j (arriving x.1 x.2) = false) ∧
    ((orderSeeking .settling .block 0).Ready ∧ (orderSeeking .settling .block 0).act.head = .settling ∧
      (orderSeeking .settling .block 0).act.settle ≠ none ∧ (orderSeeking .settling .block 0).pass = none ∧
      ∀ j ∈ (orderSeeking .settling .block 0).che.job, j.phase = .seek ∧ j.task ≠ .seekOnly ∧
        jobCancelled j (orderSeeking .settling .block 0) = false) ∧
    (passSeeking.Ready ∧ passSeeking.act.head = .settling ∧ passSeeking.act.settle ≠ none ∧
      passSeeking.che.job = none ∧ ∀ p ∈ passSeeking.pass, p.phase = .seek) := by
  refine ⟨⟨ready_of (by decide +kernel), by decide⟩, fun x h => ⟨ready_of ?_, ?_⟩,
    ⟨ready_of (by decide +kernel), by decide⟩, ⟨ready_of (by decide +kernel), by decide⟩⟩ <;>
    revert x <;> decide +kernel

/-- R37: the first wedge of a head switch completes it; an error of 12% starts a settle period, and one of 13% does not. A
wrong identity fails the attempt in a settle period, and changes nothing between two. -/
theorem test_settling_wedges :
    gives (.wedgeReport 0 100 20 .clean []) (arriving 0 false)
      (fun t => decide (t.act.head = .following) && t.act.seek.isNone) = true ∧
    gives (.wedgeReport 0 100 12 .clean []) (arriving 2000 true) (fun t => decide (t.act.settle = some 2000)) = true ∧
    gives (.wedgeReport 0 100 13 .clean []) (arriving 2000 true) (fun t => decide (t.act.settle = none)) = true ∧
    gives (.wedgeReport 0 99 0 .clean []) (orderSeeking .settling .block 0)
      (fun t => decide (t.act.retries = 1)) = true ∧
    gives (.wedgeReport 0 99 0 .clean []) (arriving 2000 true)
      (fun t => decide (t.act.retries = 0) && decide (t.act.head = .settling)) = true := by decide +kernel

/-- A seek that stage 1 has interrupted. -/
def interrupted : State :=
  let s := orderSeeking .reacquiring .block 1
  { s with act := { s.act with seek := some ⟨.che, ⟨100, 0⟩, .interrupted⟩ } }

/-- The re-seek with a distance to go, the one on the target cylinder, the third failure, a wedge of another cylinder
than the target's 100, and the end of an interruption. -/
theorem witness_SeekFails :
    ((orderSeeking .seeking .block 1).Ready ∧ (orderSeeking .seeking .block 1).act.seekTimeout ≠ none ∧
      (orderSeeking .seeking .block 1).act.retries < 2 ∧
      distance 100 (orderSeeking .seeking .block 1).act.cylinder = 100) ∧
    (let s := orderSeeking .settling .block 1
     let t : State := { s with act := { s.act with cylinder := 100 } }
     t.Ready ∧ t.act.head = .settling ∧ t.act.arrived = false ∧ t.act.settle ≠ none ∧ distance 100 t.act.cylinder = 0 ∧ (99 : Nat) ≠ 100 ∧
       t.act.seek.map (·.target.cylinder) = some 100) ∧
    ((seeking .settling .che 2 up).Ready ∧ 2 ≤ (seeking .settling .che 2 up).act.retries ∧
      (seeking .settling .che 2 up).act.seekTimeout ≠ none ∧
      (seeking .settling .che 2 up).che.job = none ∧ (seeking .settling .che 2 up).pass = none) ∧
    (interrupted.Ready ∧ interrupted.act.head = .reacquiring ∧ ∀ k ∈ interrupted.act.seek, k.phase = .interrupted) :=
  ⟨⟨ready_of (by decide +kernel), by decide⟩, ⟨ready_of (by decide +kernel), by decide⟩,
    ⟨ready_of (by decide +kernel), by decide⟩, ⟨ready_of (by decide +kernel), by decide⟩⟩

def reacquiring : State :=
  { up with act := { up.act with head := .reacquiring, watchdog := .stage2, stage1 := none, stage2 := some 50000 } }

theorem witness_WatchdogExpires :
    (up.Ready ∧ up.act.head = .following ∧ up.act.stage1 ≠ none ∧ up.pass = none ∧ up.che.job = none) ∧
    ((underWay .read (xferOf .read .agrees)).Ready ∧ (underWay .read (xferOf .read .agrees)).act.stage1 ≠ none ∧
      ∀ j ∈ (underWay .read (xferOf .read .agrees)).che.job, j.phase = .under ∧
        jobStops j (underWay .read (xferOf .read .agrees)) = false ∧ j.due = none) ∧
    (reacquiring.Quiet ∧ reacquiring.act.head = .reacquiring ∧ reacquiring.act.stage2 ≠ none) :=
  ⟨⟨ready_of (by decide +kernel), by decide⟩, ⟨ready_of (by decide +kernel), by decide⟩,
    ⟨quiet_of (by decide +kernel), by decide⟩⟩

/-- R43: the order's end is reported before the loss of the position. -/
theorem test_position_lost_after_completion :
    gives .stage2Expiry (atWork (orderOf .read) .active .ready .block reacquiring)
      (fun t => decide (t.ntu.queue.map (fun m => m.body.tag) = [5, 0]) && decide (t.act.head = .unloading) &&
        decide (t.che.mech = .free)) = true := by decide +kernel

/-- The identity expected, one of the same cylinder and one of another. -/
theorem witness_SlotIdentity :
    (underWay .read (xferOf .read .notRead)).Ready ∧ (underWay .read (xferOf .read .notRead)).act.head = .following ∧
    (underWay .read (xferOf .read .notRead)).pass = none ∧
    (∀ x ∈ (underWay .read (xferOf .read .notRead)).xfer, x.kind ≠ .writeSlot ∧ x.seen = .notRead ∧
      x.identity = some ⟨2, 0, 0, .data 0⟩ ∧ x.identity ≠ some ⟨2, 0, 0, .data 1⟩ ∧ x.place.cylinder = 2 ∧
      x.identity ≠ some ⟨3, 0, 0, .data 0⟩) ∧
    (underWay .read (xferOf .read .notRead)).act.targetEnded = false ∧
    (underWay .read (xferOf .read .notRead)).act.retries < 2 ∧
    ∀ j ∈ (underWay .read (xferOf .read .notRead)).che.job, j.phase = .under :=
  ⟨ready_of (by decide +kernel), by decide⟩

/-- R39, R123: an identity of another cylinder has the seek done again; a try counted at a place whose seek ended early does
not count against the next one. -/
theorem test_other_cylinder_seeks_again :
    (let s := underWay .read (xferOf .read .notRead)
    gives (.slotIdentityRead (some ⟨3, 0, 0, .data 0⟩))
      { s with act := { s.act with retries := 2, targetEnded := true } }
      (fun t => decide (t.act.retries = 1) && decide (t.act.head = .settling)) = true) ∧
    gives (.slotIdentityRead (some ⟨3, 0, 0, .data 0⟩)) (underWay .read (xferOf .read .notRead))
      (fun t => decide (t.act.retries = 1) && decide (t.act.head = .settling)) = true := by decide +kernel

/-- A block of a READ, a WRITE or a VERIFY under way: the first of two, or the only one. -/
def blockUnderWay (k : OrderKind) (count tries : Nat) (seen : IdentitySeen) : State :=
  let o := { orderOf k with count := count }
  let s := underWay k (xferOf (if k = .write then .writeData else .read) seen)
  let j := { jobOf o .under .block with
    tries := tries, placement := translate [] [] 0 0, placed := some place, transferred := some place }
  { s with
    che := { s.che with table := [some (chainOf o .active), none, none, none, none, none], job := some j }
    bbf := { s.bbf with slots :=
      (if k = .write then [.filledWrite 5 0 512 [], .filledWrite 5 1 1 [7]]
        else if k = .read then [.reserved 5 0 .read, .free] else [.free, .free]) ++ List.replicate 6 .free } }

def firstOfTwo (k : OrderKind) : State := blockUnderWay k 513 0 .agrees

/-- An unread closing wedge of a read and of a write; a block with one to come and a last one, of a READ, a WRITE and a
VERIFY, accepted or kept at the last position errors that accept and keep; and a fourth attempt that reads nothing. -/
theorem witness_BlockCloses :
    (∀ p ∈ [(OrderKind.read, XferKind.read), (.write, .writeData)],
      (underWay p.1 (xferOf p.2 .agrees)).Ready ∧ (underWay p.1 (xferOf p.2 .agrees)).pass = none ∧
      (∀ x ∈ (underWay p.1 (xferOf p.2 .agrees)).xfer, x.kind = p.2 ∧ x.seen ≠ .disagrees) ∧
      ∀ j ∈ (underWay p.1 (xferOf p.2 .agrees)).che.job, j.task = .block ∧ j.due = none ∧ j.tries < 2 ∧
        jobStops j (underWay p.1 (xferOf p.2 .agrees)) = false) ∧
    (∀ x ∈ [(OrderKind.read, 513, 0, IdentitySeen.agrees), (.write, 513, 0, .agrees), (.verify, 513, 0, .agrees),
        (.read, 512, 0, .agrees), (.write, 512, 0, .agrees), (.verify, 512, 0, .agrees),
        (.read, 512, 3, .unreadable)],
      let s := blockUnderWay x.1 x.2.1 x.2.2.1 x.2.2.2
      s.Ready ∧ s.pass = none ∧ s.act.head = .following ∧ s.act.seek = none ∧
      s.chainAt 0 = some (chainOf { orderOf x.1 with count := x.2.1 } .active) ∧
      (∀ y ∈ s.xfer, y.seen = x.2.2.2 ∧ y.openError.natAbs ≤ 12 ∧ y.kind = (if x.1 = .write then .writeData else .read) ∧
        (x.1 = .write → y.gated = true)) ∧
      (∀ j ∈ s.che.job, j.task = .block ∧ j.chain = some 0 ∧ j.due = none ∧ j.order.kind = x.1 ∧ j.phase = .under ∧
        j.tries = x.2.2.1 ∧ (if x.2.1 = 512 then j.order.blocks = j.blk + 1 else j.blk + 1 < j.order.blocks) ∧
        j.placement ≠ none ∧ jobStops j s = false)) ∧
    (∀ x ∈ [(OrderKind.read, 0, IdentitySeen.agrees), (.write, 0, .agrees), (.verify, 0, .agrees),
        (.read, 3, .unreadable)],
      ∃ c j, (blockUnderWay x.1 512 x.2.1 x.2.2).LastOrder 0 c j) ∧
    (firstOfTwo .read).bbf.slots.findIdx? (BlockSlot.readFor 5 0) = some 0 ∧
    (firstOfTwo .write).bbf.slots.findIdx? (BlockSlot.carries 5 0) = some 0 ∧
    (∀ q, 0 < q → q < runBlocks (chainOf { orderOf .write with count := 513 } .active).run → q = 1) ∧
    BlockSlot.carries 5 1 ((firstOfTwo .write).bbf.slots.getD 1 .free) = true ∧
    ((20 : Int).natAbs ≤ 20 ∧ (-12 : Int).natAbs ≤ 12 ∧ (List.replicate 512 (0 : Byte)).length = 512) := by
  refine ⟨fun p h => ⟨ready_of ?_, ?_⟩, fun k h => ⟨ready_of ?_, ?_⟩, fun x h => ?_, by decide +kernel,
    by decide +kernel, ?_, by decide +kernel, by decide +kernel⟩
  iterate 2 revert p; decide +kernel
  iterate 2 revert k; decide +kernel
  · refine ⟨chainOf _ .active, _, ⟨rfl, ?_, rfl, rfl, ?_, rfl, ⟨rfl, rfl⟩, rfl, rfl, ?_, ?_, rfl, rfl, rfl, ?_⟩⟩ <;>
      revert x <;> decide +kernel
  · intro q h0 h1
    have : runBlocks (chainOf { orderOf .write with count := 513 } .active).run = 2 := by decide
    omega

/-- R125, R138: the fourth attempt that reads nothing ends a one-block READ DATA CHECK at block 0, with its data marked. R128,
R130: 512 bytes are counted, and the slot holds them for order 0. -/
theorem test_blocks_close :
    gives (.wedgeReport 1 2 0 .clean (List.replicate 512 7)) (blockUnderWay .read 512 3 .unreadable)
      (fun t => t.che.job.isNone && decide (t.vol0.dataChecks = 1) && decide (t.vol0.rereads = 3) &&
        decide (t.ntu.queue.map (·.body) = [.completion
          { tag := 5, code := .dataCheck, flags := ⟨true, false, false⟩, reached := 0, residual := 0,
            fault := some ⟨0, 0, 2, 0, 0⟩ }])) = true ∧
    gives (.wedgeReport 1 2 20 .corrected (List.replicate 512 7)) (firstOfTwo .read)
      (fun t => decide (t.bbf.delivery = [0]) && decide ((t.chainAt 0).map (·.transferred) = some 512) &&
        decide (t.vol0.corrected = 1)) = true ∧
    gives (.wedgeReport 1 2 12 .clean []) (firstOfTwo .write)
      (fun t => decide (t.bbf.slots.head? = some .free) &&
        decide ((t.chainAt 0).map (·.sequence) = some 1)) = true := by decide +kernel

/-! ### Mount passes and table-changing orders -/

/-- A header with one slip entry. -/
def header : List Byte := headerBytes ⟨3, 77⟩ [⟨16, 4⟩] (List.replicate 64 .free)

/-- The last header block of a mount pass of volume 1 under way, with the others read. -/
def lastHeaderBlock (ok : Bool) (setAside : Nat) : State :=
  { up with
    che := { up.che with mech := .pass .v1 }
    vol1 := { up.vol1 with pass := .running, state := .mounting, generation := 65535 }
    pass := some { volume := .v1, lent := false, phase := .read, blocks := (List.range 4).map fun k =>
      { tried := true, data := if k = 3 then none else some ((header.drop (512 * k)).take 512), identityOk := ok,
        setAside := if k = 3 then setAside else 0 } }
    xfer := some { xferOf .read .agrees with
      place := { cylinder := 0, comb := 2, slot := 3 }, identity := some ⟨0, 0, 3, .header 3⟩ } }

/-- A fourth block set aside; all four accepted and the header valid; and one of another identity. -/
theorem witness_MountPassEnds :
    (∀ x ∈ [(true, 3), (true, 0), (false, 0)],
      (lastHeaderBlock x.1 x.2).Ready ∧ (lastHeaderBlock x.1 x.2).act.head = .following ∧
      (lastHeaderBlock x.1 x.2).act.seek = none ∧ (lastHeaderBlock x.1 x.2).vol1.state ≠ .leaving ∧
      (lastHeaderBlock x.1 x.2).che.mech = .pass .v1 ∧ (lastHeaderBlock x.1 x.2).che.job = none ∧
      (lastHeaderBlock x.1 x.2).chains = [] ∧ (lastHeaderBlock x.1 x.2).vol0.pass ≠ .pending ∧
      (lastHeaderBlock x.1 x.2).vol1.pass ≠ .pending ∧ (lastHeaderBlock x.1 x.2).rcv.stage = .none ∧
      (lastHeaderBlock x.1 x.2).pwr.progress = .none ∧ (lastHeaderBlock x.1 x.2).lnk.waiting = [] ∧
      ∀ p ∈ (lastHeaderBlock x.1 x.2).pass, p.lent = false ∧ p.volume = .v1 ∧
        (p.blocks[3]?).map (·.setAside) = some x.2 ∧ (∀ q ∈ p.blocks, q.setAside ≤ 3) ∧
        (∀ q ∈ p.blocks.take 3, q.data ≠ none ∧ q.identityOk = x.1)) ∧
    (readHeader ((List.range 4).flatMap fun k => (header.drop (512 * k)).take 512)).map (·.label) =
      some ⟨3, 77⟩ := by
  refine ⟨fun x h => ⟨ready_of ?_, ?_⟩, by decide +kernel⟩ <;> revert x <;> decide +kernel

/-- R50, R60: the generation grows from 65,535 to 1, and the label is the header's. -/
theorem test_mount_pass_ends :
    gives (.wedgeReport 4 0 0 .clean (header.drop 1536)) (lastHeaderBlock true 0)
      (fun t => decide (t.vol1.state = .mounted) && decide (t.vol1.generation = 1) &&
        decide (t.vol1.label = some ⟨3, 77⟩) && decide (t.che.mech = .free)) = true ∧
    gives (.wedgeReport 4 0 21 .clean (header.drop 1536)) (lastHeaderBlock true 3)
      (fun t => decide (t.vol1.state = .headerFault) && decide (t.vol1.generation = 65535)) = true := by decide +kernel

/-- The last slot of a task of a table-changing order under its write. -/
def lastSlot (k : OrderKind) (task : Task) (slip : Option Nat) (rewrites : Nat) (failed : List Nat) : State :=
  let o := { orderOf k with track := 16, slip := slip }
  let j := { jobOf o .under task with
    todo := [⟨3, rewrites⟩], placed := some ⟨10, 0, 3⟩, transferred := some ⟨10, 0, 3⟩, firstWrite := true, failed := failed, newLabel := some ⟨1, 5⟩ }
  { atWork o .active .under task up with
    che := { table := [some (chainOf o .active), none, none, none, none, none], counter := 1, mech := .order,
             job := some j }
    vol0 := { up.vol0 with slips := [⟨16, 4⟩, ⟨40, 31⟩] }
    act := { up.act with cylinder := 10 }
    xfer := some { xferOf .writeSlot .notRead with place := ⟨10, 0, 3⟩ } }

def ownHeader : Task := .header (.own .clean .headerFault)

theorem lastSlot_lastOrder :
    ∀ x ∈ [(OrderKind.formatTrack, Task.format, 0), (.formatTrack, ownHeader, 2), (.initializeVolume, .altTrack 1, 2)],
      ∃ c j, (lastSlot x.1 x.2.1 (some 4) x.2.2 []).LastOrder 0 c j := by
  intro x h
  refine ⟨chainOf _ .active, _, ⟨rfl, ?_, rfl, rfl, ?_, rfl, ⟨rfl, rfl⟩, rfl, rfl, ?_, ?_, rfl, rfl, rfl, ?_⟩⟩ <;>
    revert x <;> decide +kernel

/-- A track with its entry changed, kept and removed; a header write kept and abandoned for the third time; and a
completion without and with slots given up. -/
theorem witness_TableOrdersWrite :
    (∀ x ∈ [(OrderKind.formatTrack, Task.format, some 9, 0, []), (.formatTrack, .format, some 4, 0, []),
        (.formatTrack, .format, none, 0, []), (.formatTrack, ownHeader, some 4, 2, []),
        (.initializeVolume, .altTrack 1, none, 2, []), (.initializeVolume, .altTrack 1, none, 0, [63])],
      let s := lastSlot x.1 x.2.1 x.2.2.1 x.2.2.2.1 x.2.2.2.2
      s.Ready ∧ s.act.head = .following ∧ s.act.seek = none ∧ s.act.valid = true ∧ s.pass = none ∧
      (∀ y ∈ s.xfer, y.kind = .writeSlot ∧ y.place = ⟨10, 0, 3⟩ ∧ y.gated = true ∧ y.openError.natAbs ≤ 12) ∧
      (∀ j ∈ s.che.job, j.phase = .under ∧ j.todo = [⟨3, x.2.2.2.1⟩] ∧ j.order.kind = x.1 ∧ j.task = x.2.1 ∧ j.order.track = 16 ∧
        j.placed = some ⟨10, 0, 3⟩ ∧ j.newLabel ≠ none) ∧
      s.vol0.label ≠ none ∧ s.ntu.queue.length < 7) ∧
    (ascending [⟨16, 4⟩, ⟨40, 31⟩] ∧ ascending [⟨16, 9⟩, ⟨40, 31⟩] ∧ ascending [⟨40, 31⟩]) ∧
    (∀ e : Slip, e ∈ [Slip.mk 16 9, ⟨40, 31⟩] ↔ e.track = 16 ∧ some e.slot = some 9 ∨
      e.track ≠ 16 ∧ e ∈ [Slip.mk 16 4, ⟨40, 31⟩]) ∧
    (∀ e : Slip, e ∈ [Slip.mk 16 4, ⟨40, 31⟩] ↔ e.track = 16 ∧ some e.slot = some 4 ∨
      e.track ≠ 16 ∧ e ∈ [Slip.mk 16 4, ⟨40, 31⟩]) := by
  refine ⟨fun x h => ⟨ready_of ?_, ?_⟩, by unfold ascending; decide, ?_, ?_⟩
  iterate 2 revert x; decide +kernel
  all_goals
    rintro ⟨a, b⟩
    simp only [List.mem_cons, Slip.mk.injEq, List.not_mem_nil, or_false, Option.some.injEq]
    omega

/-- R91, R95, R87: the entry is replaced, a third abandoned header block leaves header-stale, and INITIALIZE VOLUME
mounts the volume under the next generation with slot 63 retired. -/
theorem test_table_orders_write :
    gives (.wedgeReport 4 10 12 .clean []) (lastSlot .formatTrack .format (some 9) 0 [])
      (fun t => decide (t.vol0.slips = [⟨16, 9⟩, ⟨40, 31⟩]) && decide (t.act.head = .seeking)) = true ∧
    gives (.wedgeReport 4 10 13 .clean []) (lastSlot .formatTrack ownHeader (some 4) 2 [])
      (fun t => t.vol0.stale && t.che.job.isNone) = true ∧
    gives (.wedgeReport 4 10 0 .clean []) (lastSlot .initializeVolume (.altTrack 1) none 0 [63])
      (fun t => decide (t.vol0.generation = 2) && decide (t.vol0.alts[63]? = some .retired) &&
        decide (t.vol0.label = some ⟨1, 5⟩)) = true := by decide +kernel

/-- ASSIGN ALTERNATE of block 25,419, at work at slot 5 of a place, over a map of `alts`. -/
def assigning (task : Task) (k : XferKind) (slot tries : Nat) (alts : List Alt) : State :=
  let o := { orderOf .assignAlternate with block := 25419 }
  let s := atWork o .active .under task up
  { s with
    che := { s.che with job := some { jobOf o .under task with firstWrite := true, tries := tries } }
    vol0 := { s.vol0 with alts := alts }
    act := { s.act with cylinder := 1 }
    xfer := some { xferOf k .agrees with place := ⟨1, 0, slot⟩ } }

/-- Every slot used but the last. -/
def nearlyFull (last : Alt) : List Alt := .assigned 25419 :: List.replicate 62 .retired ++ [last]

/-- The read with the last slot FREE and with none; the write of slot 31; and a verify with the next slot FREE and with
none. -/
theorem witness_AlternatesAssigned :
    (∀ x ∈ [(Task.altRead, XferKind.read, 5, 3, nearlyFull .free), (.altRead, .read, 5, 0, nearlyFull .retired),
        (.altWrite 31, .writeSlot, 31, 0, List.replicate 64 .free), (.altVerify 62, .read, 30, 0,
        List.replicate 62 .retired ++ [.free, .free]), (.altVerify 63, .read, 31, 0,
        List.replicate 63 .retired ++ [.free])],
      let s := assigning x.1 x.2.1 x.2.2.1 x.2.2.2.1 x.2.2.2.2
      s.Ready ∧ s.act.head = .following ∧ s.act.seek = none ∧ s.act.valid = true ∧ s.pass = none ∧
      (∀ y ∈ s.xfer, y.kind = x.2.1 ∧ y.seen = .agrees ∧ y.place.slot = x.2.2.1 ∧ y.openError.natAbs ≤ 12 ∧
        (y.kind = .writeSlot → y.gated = true)) ∧
      (∀ j ∈ s.che.job, j.phase = .under ∧ j.order.kind = .assignAlternate ∧ j.task = x.1 ∧ j.firstWrite = true ∧ jobStops j s = false ∧
        j.tries = x.2.2.2.1) ∧
      s.vol0.alts.length = 64 ∧ s.vol0.label ≠ none ∧ s.act.comb = 0 + 31 / 32) ∧
    (assignedBlocks (nearlyFull .free)).Nodup ∧ (nearlyFull .free)[63]? = some .free ∧
    (∀ b, b < 63 → (nearlyFull .free)[b]? ≠ some .free) ∧ Alt.free ∉ nearlyFull .retired := by
  refine ⟨fun x h => ⟨ready_of ?_, ?_⟩, by decide +kernel, by decide +kernel, by decide +kernel, by decide +kernel⟩ <;>
    revert x <;> decide +kernel

/-- R93, R94: the old alternate is retired and slot 63 sought, on cylinder 1 under volume head 1; a verify that reads
CORRECTED retires its slot. -/
theorem test_alternates :
    gives (.wedgeReport 6 205 0 .clean (List.replicate 512 7)) (assigning .altRead .read 5 0 (nearlyFull .free))
      (fun t => decide (t.vol0.alts[0]? = some .retired) && decide (t.act.target = some ⟨1, 1⟩) &&
        decide (t.che.job.map (·.task) = some (.altWrite 63))) = true ∧
    gives (.wedgeReport 31 1 0 .corrected (List.replicate 512 0))
      (assigning (.altVerify 62) .read 30 0 (List.replicate 62 .retired ++ [.free, .free]))
      (fun t => decide (t.vol0.alts[62]? = some .retired) && decide (t.vol0.corrected = 1) &&
        decide (t.che.job.map (·.task) = some (.altWrite 63))) = true := by decide +kernel

/-- R111: CANCELLED carries the location of a code met at that point: that of a write abandoned for the third time (R126), and
that of a DATA CHECK of ASSIGN ALTERNATE, block 25,419, at the place last written (R95). -/
theorem test_cancel_keeps_location :
    (let s := blockUnderWay .write 512 2 .unreadable
    let c := { chainOf { orderOf .write with count := 512 } .active with cancel := true }
    gives (.wedgeReport 1 2 0 .clean []) { s with che := { s.che with table := [some c, none, none, none, none, none] } }
      (fun t => decide (t.ntu.queue.map (·.body) = [.completion
        { tag := 5, code := .cancelled, flags := Flags.empty, reached := 0, residual := 512,
          fault := some ⟨0, 0, 2, 0, 0⟩ }])) = true) ∧
    (let s := lastSlot .assignAlternate ownHeader none 0 []
    let o := { orderOf .assignAlternate with block := 25419 }
    let u := { s with che := { s.che with
      table := [some { chainOf o .active with cancel := true }, none, none, none, none, none]
      job := s.che.job.map fun j => { j with order := o, flags := ⟨true, false, false⟩ } } }
    gives (.wedgeReport 4 10 0 .clean []) u (fun t => decide (t.ntu.queue.map (·.body) = [.completion
      { tag := 5, code := .cancelled, flags := ⟨true, false, false⟩, reached := 0, residual := 0,
        fault := some ⟨0, 25419, 10, 0, 3⟩ }])) = true) := by decide +kernel

/-! ### Chain Engine and Block Buffer -/

/-- Three chains accepted across the wrap, the oldest in slot 2. -/
def numbered : List (Nat × Chain) :=
  [(0, 65535), (1, 1), (2, 65534)].map fun x => (x.1, { chainOf (orderOf .read) .queued with number := x.2 })

/-- Across the wrap of the acceptance number, at both ends of the half circle. -/
theorem witness_OlderChain :
    65535 < 65536 ∧ (1 ≤ ((0 : Int) - 65535) % 65536 ∧ ((0 : Int) - 65535) % 65536 ≤ 32767) ∧
    olderNumber 65535 0 = true ∧ olderNumber 65535 32766 = true ∧ olderNumber 65535 32767 = false ∧
    (∀ p ∈ numbered, ∃ i, i < 6 ∧ p.2.number = (65534 + i) % 65536) ∧
    (oldest numbered).map Prod.fst = some 2 := by
  decide

/-- A CHAIN payload of one order record. -/
def payloadOf (o : Order) : List Byte := 1#8 :: orderBytes o

theorem witness_ChainAccepted :
    queuedBehindPass.Listening ∧
    (payloadOf (orderOf .verify)).length = 1 + 14 * (byteAt (payloadOf (orderOf .verify)) 0).toNat ∧
    (payloadOf (orderOf .verify)).length ≤ 640 ∧
    acceptanceRefusal (6#8).toNat (readOrders (payloadOf (orderOf .verify))) queuedBehindPass = none ∧
    (readOrders (payloadOf (orderOf .verify)))[0]? = some (some (orderOf .verify)) ∧
    (orderOf .verify).kind.mechanismFree = false ∧ queuedBehindPass.che.mech ≠ .free ∧
    queuedBehindPass.che.job = none ∧ queuedBehindPass.che.table.findIdx? (·.isNone) = some 1 :=
  ⟨listening_of (by decide +kernel), by decide +kernel⟩

/-- A chain in the table that has ended with no place for its completion notice. -/
def ended : State :=
  let completion : Completion :=
    { tag := 5, code := .clean, flags := Flags.empty, reached := 0, residual := 0, fault := none }
  let c : Chain := { chainOf (orderOf .read) .ended with completion := some completion }
  { up with
    che := { up.che with table := [some c, none, none, none, none, none] }
    ntu := { up.ntu with queue := List.replicate 8 ⟨.progress 9 0, false, false⟩ } }

/-- One payload for each clause: an acceptance check that fails, a length that disagrees, a tag unknown and one
too late, data not wanted, an unknown kind, a wrong check and an unknown subkind. -/
theorem witness_RefusedFrames :
    up.Listening ∧
    acceptanceRefusal (0#8).toNat (readOrders (payloadOf (orderOf .read))) up = some .malformed ∧
    ([1#8].length ≠ 1 + 14 * (byteAt [1#8] 0).toNat) ∧ up.findTag (5#8).toNat = none ∧
    (ended.Listening ∧ ended.findTag (5#8).toNat = some 0 ∧
      (ended.chainAt 0).all (fun c => decide (c.state = .ended)) = true) ∧
    up.bbf.slots.any (BlockSlot.awaits (5#8).toNat (numberAt [0, 0, 9] 0 2)) = false ∧
    (inboundKind 0 = false ∧ inboundKind 7 = false) ∧ frameSum 6 1 [] 0x37#8 ≠ 0 ∧
    (4 ≤ (byteAt [4, 0] 0).toNat) :=
  ⟨listening_of (by decide +kernel), by decide +kernel, by decide, by decide,
    ⟨listening_of (by decide +kernel), by decide +kernel⟩, by decide +kernel⟩

def holding : State := { up with rcv := { up.rcv with holds := 14 } }

/-- A chain of one order to be granted at once. -/
def grantable (o : Order) (s : State) : Bool :=
  listeningB s && quietB s && decide ((payloadOf o).length = 15) && decide (byteAt (payloadOf o) 0 = 1#8) &&
    decide (readOrders (payloadOf o) = [some o]) && !o.flags.notify &&
    decide (acceptanceRefusal 6 (readOrders (payloadOf o)) s = none) && decide (s.pwr.state ≠ .faultHold) &&
    decide (s.ntu.queue.length < 8)

/-- Volume 1 in a state, under a count of holds. -/
def holdingOver (v : VolState) (holds : Nat) : State :=
  { up with vol1 := { up.vol1 with state := v }, rcv := { up.rcv with holds := holds } }

/-- RELEASE MEDIUM with and without a hold; and HOLD MEDIUM over an EMPTY and a LEAVING volume, at the last count that
is taken, and at the limit. -/
theorem witness_HoldMediumRunsAtOnce :
    (∀ h ∈ [0, 1], grantable (orderOf .releaseMedium) (holdingOver .mounted h) = true) ∧
    (∀ x ∈ [(VolState.empty, 0), (.leaving, 0), (.mounted, 14), (.mounted, 15)],
      grantable (orderOf .holdMedium) (holdingOver x.1 x.2) = true) ∧
    holding.vol1.state ≠ .empty ∧ holding.vol1.state ≠ .leaving ∧ holding.rcv.holds < 15 := by
  decide +kernel

/-- A list of 128 slip entries, all of other tracks than 0. -/
def fullSlips : List Slip := (List.range 128).map fun n => ⟨n + 1, 0⟩

def tableChanging (stale : Bool) (slips : List Slip) : State :=
  { up with vol0 := { up.vol0 with stale := stale, slips := slips }, act := { up.act with cylinder := 5 } }

/-- `up` with parked heads, the spindle locked with load permission, or in another state without it. -/
def parkedOver (p : SpindleState) : State :=
  let s := spindleAt p (if p = .locked then 180 else 0) (decide (p = .braking))
  { s with act := { s.act with permission := decide (p = .locked) } }

/-- A start check that fails at the first block past the volume, one passed at the last block; FORMAT TRACK with the list
full, under header-stale and as it stands, INITIALIZE VOLUME and ASSIGN ALTERNATE; an order over parked heads with and
without load permission, one of a volume still to be mounted among them; EJECT under 14 holds, before the first report
and with neither; and SET POWER to the power state and to the lowest level. -/
theorem witness_OrdersGranted :
    (grantable { orderOf .read with block := 25420 } up = true ∧
      startCheck { orderOf .read with block := 25420 } (up.vol (Vol.ofByte 0)) = .fails .addressRange) ∧
    (∀ k ∈ [OrderKind.read, .verify, .seek, .write, .assignAlternate],
      grantable { orderOf k with block := 25419 } up = true ∧
      startCheck { orderOf k with block := 25419 } (up.vol (Vol.ofByte 0)) = .passes ∧ up.act.head = .following ∧
      up.act.seek = none ∧ up.act.valid = true ∧
      (translate up.vol0.slipsInForce up.vol0.altsInForce 0 25419).any (fun p => p.cylinder != up.act.cylinder)) ∧
    (∀ x ∈ [(OrderKind.formatTrack, false, fullSlips), (.formatTrack, true, []), (.formatTrack, false, []),
        (.initializeVolume, false, []), (.assignAlternate, true, [])],
      let o := { orderOf x.1 with slip := if x.1 = .formatTrack then some 31 else none }
      let s := tableChanging x.2.1 x.2.2
      grantable o s = true ∧ startCheck o (s.vol (Vol.ofByte 0)) = .passes ∧ s.act.head = .following ∧
      s.act.seek = none ∧ s.act.valid = true ∧ s.act.cylinder ≠ 0 ∧ s.act.cylinder ≠ 2 ∧ s.vol0.label ≠ none ∧
      (x.2.2 = [] ∨ 128 ≤ s.vol0.slips.length ∧ ∀ e ∈ s.vol0.slips, e.track ≠ 0)) ∧
    (∀ p ∈ [SpindleState.stopped, .locked, .braking, .spinFault],
      let s := parkedOver p
      let t := { s with vol0 := Reset.vol .unmounted }
      grantable (orderOf .write) s = true ∧ startCheck (orderOf .write) s.vol0 = .passes ∧
      grantable (orderOf .read) t = true ∧ startCheck (orderOf .read) t.vol0 = .waits ∧
      s.act.loads = [] ∧ s.act.head = .parked ∧ s.act.head.needsLoad = true ∧
      (if p = .locked then s.act.permission = true ∧ s.spc.state = .locked else s.act.permission = false)) ∧
    (grantable (orderOf .eject) holding = true ∧ holding.rcv.firstReport = true ∧ 0 < holding.rcv.holds) ∧
    (let s := { up with rcv := { up.rcv with firstReport := false } }
     grantable (orderOf .eject) s = true ∧ s.rcv.firstReport = false) ∧
    (grantable (orderOf .eject) up = true ∧ up.rcv.firstReport = true ∧ up.rcv.holds = 0 ∧ up.rcv.pause = false ∧
      up.act.head.loaded = true) ∧
    (∀ p ∈ [PowerState.active, .standby, .dormant],
      grantable { orderOf .setPower with power := some p } up = true ∧ up.pwr.state = .active) := by
  decide +kernel

/-- R114: a hold beyond 15 ends HOLD LIMIT; a release with no hold in force ends CLEAN. R106, R162: an order over parked heads
has a stopped spindle start and waits for the load; R82: with the list full, FORMAT TRACK ends TABLE FULL. R115, R147: an
EJECT order frees the mechanism and has the heads unloaded. -/
theorem test_orders_granted :
    gives (.chain 6 (payloadOf (orderOf .holdMedium))) (holdingOver .mounted 15) (fun t => decide (t.rcv.holds = 15) &&
      decide (t.ntu.queue.map (·.body) = [.completion
        { tag := 6, code := .holdLimit, flags := Flags.empty, reached := 0, residual := 0, fault := none }])) = true ∧
    gives (.chain 6 (payloadOf (orderOf .releaseMedium))) (holdingOver .mounted 0) (fun t => decide (t.rcv.holds = 0) &&
      decide (t.ntu.queue.map (·.body) = [.completion
        { tag := 6, code := .clean, flags := Flags.empty, reached := 0, residual := 0, fault := none }])) = true ∧
    gives (.chain 6 (payloadOf (orderOf .read))) (parkedOver .stopped) (fun t => decide (t.spc.state = .accelerating) &&
      decide (t.act.loads = [⟨.che, .v0⟩]) && decide (t.pwr.progress = .waitSpin)) = true ∧
    gives (.chain 6 (payloadOf { orderOf .formatTrack with slip := some 31 })) (tableChanging false fullSlips)
      (fun t => decide (t.ntu.queue.map (·.body) = [.completion
        { tag := 6, code := .tableFull, flags := Flags.empty, reached := 0, residual := 0, fault := none }])) = true ∧
    gives (.chain 6 (payloadOf (orderOf .eject))) up (fun t => decide (t.rcv.stage = .unloading) &&
      decide (t.act.head = .unloading) && decide (t.chains.map (·.2.state) = [.ejectWait]) &&
      decide (t.vol1.state = .leaving)) = true := by decide +kernel

theorem witness_CancelTaken :
    (queuedBehindPass.Listening ∧ queuedBehindPass.findTag (5#8).toNat = some 0 ∧
      queuedBehindPass.chainAt 0 = some (chainOf (orderOf .read) .queued) ∧ queuedBehindPass.che.job = none ∧
      queuedBehindPass.ntu.queue.length < 8) ∧
    ((underWay .read (xferOf .read .agrees)).Listening ∧
      (underWay .read (xferOf .read .agrees)).chainAt 0 = some (chainOf (orderOf .read) .active) ∧
      ∀ j ∈ (underWay .read (xferOf .read .agrees)).che.job, j.chain = some 0 ∧ j.phase = .under) :=
  ⟨⟨listening_of (by decide +kernel), by decide +kernel⟩, ⟨listening_of (by decide +kernel), by decide +kernel⟩⟩

theorem witness_SeekOrderEnds :
    let s := orderSeeking .settling .seekOnly 0
    let k : Seek := ⟨.che, ⟨100, 0⟩, .running⟩
    let j := jobOf (orderOf .seek) .seek .seekOnly
    let c := chainOf (orderOf .seek) .active
    s.Ready ∧ s.act.head = .settling ∧ s.act.settle ≠ none ∧ s.act.seek = some k ∧ k.party = .che ∧
    s.che.mech = .order ∧ s.che.job = some j ∧ j.chain = some 0 ∧ s.chains = [(0, c)] ∧ j.phase = .seek ∧
    j.task = .seekOnly ∧ j.order.flags.link = false ∧ j.order.flags.chain = false ∧ j.flags = Flags.empty ∧
    c.flags = Flags.empty ∧ c.cancel = false ∧ c.order = some j.order ∧ j.order.kind = .seek ∧ s.pass = none ∧
    s.vol0.pass ≠ .pending ∧ s.vol1.pass ≠ .pending ∧ s.rcv.stage = .none ∧ s.pwr.progress = .none ∧
    s.lnk.waiting = [] ∧ s.act.loads = [] ∧ s.ntu.queue.length < 8 :=
  ⟨ready_of (by decide +kernel), by decide +kernel⟩

theorem witness_BlocksCarryTheCount :
    ∀ n ∈ [1, 512, 513, 65535], 1 ≤ ({ orderOf .read with count := n } : Order).count ∧
      ({ orderOf .read with count := n } : Order).count ≤ 65535 := by decide

/-- An order that waits for its data: the want, its slot and its record. -/
def dataWaiting (ph : Phase) : State :=
  { atWork (orderOf .write) (if ph = .dataWait then .dataWait else .active) ph .block up with bbf := wanting }

/-- A run of three blocks with the first reserved, over two FREE slots, and over none. -/
theorem witness_ReservationsWanted :
    let c := chainOf { orderOf .write with count := 1025 } .active
    let s := { up with bbf := { Reset.bbf with
      slots := .reserved 5 0 .write :: .free :: .free :: List.replicate 5 (.reserved 9 0 .read) } }
    ([1, 2].Pairwise (· < ·) ∧ (∀ i, i ∈ [1, 2] ↔ s.bbf.slots[i]? = some .free)) ∧
    (∀ q, q ∈ [1, 2] ↔ c.sequence ≤ q ∧ q < runBlocks c.run ∧ ∀ b ∈ s.bbf.slots,
      b ≠ .reserved c.tag q .write ∧ ∀ n d, b ≠ .filledWrite c.tag q n d) := by
  refine ⟨⟨by decide, fun i => ?_⟩, fun q => ?_⟩
  · match i with
    | 0 | 1 | 2 | 3 | 4 | 5 | 6 | 7 => decide
    | n + 8 => simp
  · have h : runBlocks (chainOf { orderOf .write with count := 1025 } .active).run = 3 := by decide
    simp only [h]
    simp [chainOf]
    omega

/-- R132: one want of two blocks from sequence 1 on, with a 5 s timer. -/
theorem test_reservation :
    let c := chainOf { orderOf .write with count := 1025 } .active
    let s := { up with bbf := { Reset.bbf with slots := .reserved 5 0 .write :: List.replicate 7 .free } }
    (reserveWrite c s).bbf.wants = [{ tag := 5, first := 1, number := 2, sending := false }] ∧
    (reserveWrite c s).bbf.records = [{ tag := 5, first := 1, number := 2, timer := some 5000000 }] ∧
    (reserveWrite c s).bbf.slots.take 4 = [.reserved 5 0 .write, .reserved 5 1 .write, .reserved 5 2 .write, .free] := by
  decide +kernel

/-- Data of the length expected and of one byte less, the smallest and the largest. -/
theorem witness_DataTaken :
    let p := be16 0 ++ List.replicate 512 (7 : Byte)
    (dataWaiting .seek).Listening ∧ 3 ≤ p.length ∧ p.length ≤ 514 ∧
    (dataWaiting .seek).bbf.slots.findIdx? (BlockSlot.awaits (5#8).toNat (numberAt p 0 2)) = some 0 ∧
    (p.drop 2).length = ((((dataWaiting .seek).findTag (5#8).toNat).bind fun k =>
      (dataWaiting .seek).chainAt k).map fun c => runLength c.run (numberAt p 0 2)).getD 512 ∧
    (∀ j ∈ (dataWaiting .seek).che.job, j.phase ≠ .dataWait) ∧
    ((p.drop 3).length ≤ 514 ∧ 3 ≤ (be16 0 ++ [(7 : Byte)]).length ∧
      ((be16 0 ++ [(7 : Byte)]).drop 2).length ≠ 512 ∧ numberAt (be16 0 ++ [(7 : Byte)]) 0 2 = 0) :=
  ⟨listening_of (by decide +kernel), by decide +kernel⟩

theorem witness_WantTimeout :
    (∀ ph ∈ [Phase.under, .dataWait],
      (dataWaiting ph).Ready ∧
      (dataWaiting ph).che.job = some (jobOf (orderOf .write) ph .block) ∧
      (dataWaiting ph).chains =
        [(0, chainOf (orderOf .write) (if ph = .dataWait then .dataWait else .active))] ∧
      (dataWaiting ph).bbf.records.any (fun w => w.tag == 5 && w.first == 0 && w.timer.isSome) = true ∧
      (dataWaiting ph).che.mech = .order ∧ (dataWaiting ph).pass = none ∧ (dataWaiting ph).vol0.pass ≠ .pending ∧
      (dataWaiting ph).vol1.pass ≠ .pending ∧ (dataWaiting ph).rcv.stage = .none ∧
      (dataWaiting ph).pwr.progress = .none ∧ (dataWaiting ph).lnk.waiting = [] ∧
      (dataWaiting ph).ntu.queue.length < 8) := by
  refine fun ph h => ⟨ready_of ?_, ?_⟩ <;> revert ph <;> decide +kernel

/-- `up` with one frame of each kind under way. -/
def sending (f : Outbound) : State :=
  { up with
    lnk := { up.lnk with out := some { carries := f, bytes := [] } }
    bbf := { up.bbf with
      slots := .filledRead 5 0 0 512 false [] :: List.replicate 7 .free, delivery := [0], sendingSlot := true,
      wants := [{ tag := 5, first := 0, number := 1, sending := true }] }
    ntu := { up.ntu with
      queue := [{ body := .progress 5 0, sending := true, replaced := false }], set := [] } }

/-- A full notice queue with two chains ended, one that holds a pending progress, and two entries in the set. -/
def placeWanted (ended : Bool) (set : List Attention) : State :=
  let c := chainOf (orderOf .read) .ejectWait
  let e := fun (n : Nat) => some { c with
    tag := n, number := n, state := .ended, completion := some (c.complete .clean none) }
  { sending .notice with
    che := { up.che with table :=
      [if ended then e 9 else none, if ended then e 8 else none, some { c with number := 3, progress := some 1 }, none,
       none, none] }
    ntu := { up.ntu with
      queue := { body := .progress 5 0, sending := true, replaced := false } ::
        List.replicate 7 { body := .progress 6 0, sending := false, replaced := false }
      set := set } }

theorem witness_FramesDelivered :
    (∀ f ∈ [Outbound.reply, .slot, .want, .notice],
      (sending f).Ready ∧ (sending f).lnk.out = some { carries := f, bytes := [] } ∧
      (sending f).lnk.waiting = [] ∧ (sending f).che.job = none ∧ (sending f).bbf.delivery = [0] ∧
      (sending f).bbf.sendingSlot = true ∧
      (sending f).bbf.wants = [{ tag := 5, first := 0, number := 1, sending := true }] ∧
      (sending f).ntu.queue = [{ body := .progress 5 0, sending := true, replaced := false }] ∧
      (sending f).ntu.set = [] ∧ (sending f).chains = []) ∧
    (∀ x ∈ [(true, [Attention.ejectRefused 1]), (false, [.supplyFault .sleep, .ejectRefused 1]), (false, [])],
      (placeWanted x.1 x.2).Ready ∧ (placeWanted x.1 x.2).lnk.waiting = [] ∧ (placeWanted x.1 x.2).che.job = none ∧
      (placeWanted x.1 x.2).ntu.queue.tail.length < 8 ∧ (placeWanted x.1 x.2).ntu.set = x.2) ∧
    ((oldest ((placeWanted true []).chains.filter fun p => decide (p.2.state = .ended))).map (·.1) = some 1 ∧
      (placeWanted false []).chains.filter (fun p => decide (p.2.state = .ended)) = [] ∧
      Attention.code (.ejectRefused 1) < Attention.code (.supplyFault .sleep) ∧
      (oldest ((placeWanted false []).chains.filter fun p => decide (p.2.progress ≠ none))).map (·.1) = some 2) ∧
    ({ sending .notice with ntu := { up.ntu with
      queue := [{ body := .attention (.ejectRefused 1), sending := true, replaced := true }] } } : State).Ready := by
  refine ⟨fun f h => ⟨ready_of ?_, ?_⟩, fun x h => ⟨ready_of ?_, ?_⟩, by decide +kernel, ready_of (by decide +kernel)⟩
  iterate 2 revert f; decide +kernel
  iterate 2 revert x; decide +kernel

/-! ### Receiver Controller and Power Manager -/

/-- The button down with its debounce running. -/
def pressing (button down : Bool) (holds : Nat) (s : State) : State :=
  { s with rcv := { s.rcv with button := button, buttonDebounce := some 40000, holds := holds,
                               holdTimer := some 5000000 },
           pins := { s.pins with buttonDown := down } }

/-- Before the first report, during a sequence, under holds, and a release. -/
theorem button_states :
    (pressing false true 0 { up with rcv := { up.rcv with firstReport := false } }).Ready ∧
    (pressing false true 0 (setLamp { headAt .unloading with
      rcv := { up.rcv with stage := .unloading } })).Ready ∧
    (pressing false true 1 up).Ready ∧ (pressing true false 15 up).Ready ∧
    ((pressing false true 1 up).rcv.buttonDebounce ≠ none ∧ (pressing false true 1 up).rcv.button = false ∧
      (pressing false true 1 up).pins.buttonDown = true ∧ (pressing false true 1 up).rcv.firstReport = true ∧
      (pressing false true 1 up).rcv.stage = .none ∧ 0 < (pressing false true 1 up).rcv.holds) :=
  ⟨ready_of (by decide +kernel), ready_of (by decide +kernel), ready_of (by decide +kernel),
    ready_of (by decide +kernel), by decide⟩

/-- A drive at SLEEP with its spindle stopped. -/
def asleep : State := spindleAt .stopped 0 false

theorem witness_EjectSequenceAtRest :
    (∀ holds ∈ [0, 1], (pressing false true holds asleep).Quiet ∧
      (pressing false true holds asleep).spc.state = .stopped ∧
      (pressing false true holds asleep).act.head = .parked ∧
      (pressing false true holds asleep).rcv.pause = false ∧
      (pressing false true holds asleep).rcv.firstReport = true ∧
      (pressing false true holds asleep).rcv.holdTimer ≠ none) := by
  refine fun n h => ⟨quiet_of ?_, ?_⟩ <;> revert n <;> decide +kernel

/-- R151: the cartridge is put out, and nothing is held in. -/
theorem test_press_releases :
    gives .buttonDebounceEnd (pressing false true 0 asleep)
      (fun t => decide (t.rcv.latch = .released) && decide (t.rcv.stage = .releasing) &&
        decide (t.vol1.state = .leaving)) = true := by decide +kernel

def presenceEnds (first closed : Bool) (s : State) : State :=
  { s with rcv := { s.rcv with presenceDebounce := some 250000, firstReport := first },
           pins := { s.pins with presenceClosed := closed } }

theorem witness_SwitchesAndButton :
    (up.Ready ∧ up.rcv.latch = .locked ∧
      (presenceEnds false false up).Ready ∧ (presenceEnds false false up).rcv.presenceDebounce ≠ none ∧
      (presenceEnds false false up).che.job = none ∧
      (presenceEnds true true up).Ready ∧ (presenceEnds true true up).rcv.stage ≠ .releasing) ∧
    (pressing false true 1 up).Ready ∧ (pressing true false 15 up).Ready ∧
    ((pressing false true 1 up).rcv.buttonDebounce ≠ none ∧ (pressing false true 1 up).rcv.button = false ∧
      (pressing false true 1 up).pins.buttonDown = true ∧ (pressing false true 1 up).rcv.firstReport = true ∧
      (pressing false true 1 up).rcv.stage = .none ∧ 0 < (pressing false true 1 up).rcv.holds) :=
  ⟨⟨ready_of (by decide +kernel), by decide, ready_of (by decide +kernel), by decide, by decide,
    ready_of (by decide +kernel), by decide⟩, button_states.2.2⟩

/-- An eject sequence in one of its last two stages. -/
def ejecting (stage : EjectStage) (presence closed : Bool) : State :=
  setLamp { asleep with
    rcv := { asleep.rcv with
      stage := stage, latch := .released, purpose := some .cartridgeOut, source := some .button,
      removalTimer := some 2000000, window := some 30000000, presence := presence,
      presenceDebounce := some 250000 }
    vol1 := asleep.vol1.leave
    pins := { asleep.pins with presenceClosed := closed } }

/-- The four ends, with the drive to stay at SLEEP and with it to come up again. -/
theorem witness_SequenceEnds :
    (∀ x ∈ [(EjectStage.releasing, true, false), (.releasing, true, true), (.doorOpen, false, true),
        (.doorOpen, false, false)], ∀ target ∈ [PowerState.sleep, .standby, .active],
      let e := ejecting x.1 x.2.1 x.2.2
      let s := { e with pwr := { e.pwr with target := target } }
      s.Ready ∧ s.chains = [] ∧ s.che.job = none ∧ s.pass = none ∧ s.vol0.pass = .none ∧ s.lnk.waiting = [] ∧
      s.pwr.progress = .none ∧ s.pwr.target = target ∧ s.rcv.pause = false ∧ s.spc.state = .stopped ∧
      s.rcv.firstReport = true ∧ s.rcv.presenceDebounce ≠ none ∧ s.rcv.removalTimer ≠ none ∧ s.rcv.window ≠ none) := by
  refine fun x h target k => ⟨ready_of ?_, ?_⟩ <;> revert target <;> revert x <;> decide +kernel

/-- R63, R153: the removal ends the sequence, and the spindle starts again for a target of STANDBY, with the short purge:
volume 1 is EMPTY. -/
theorem test_sequence_restarts :
    let e := ejecting .releasing true false
    gives .presenceDebounceEnd { e with pwr := { e.pwr with target := .standby } }
      (fun t => decide (t.rcv.stage = .none) && decide (t.vol1.state = .empty) &&
        decide (t.spc.state = .accelerating) && decide (t.spc.purge = 100)) = true := by decide +kernel

/-- R151: with the switch open and no debounce running, the expiry of the removal timer keeps the latch released, and the
next closing is a jam (log 43). -/
theorem test_removal_waits_for_the_switch :
    let e := ejecting .releasing false false
    let s := { e with rcv := { e.rcv with presenceDebounce := none } }
    gives .removalTimerExpiry s (fun t => decide (t.rcv.latch = .released) &&
      gives (.presenceSwitchChange true false) t (fun u => decide (u.rcv.latch = .locked) &&
        decide (u.ntu.queue.map (·.body) = [.attention (.ejectJammed .button)]))) = true := by decide +kernel

def idleAt (n : Nat) (s : State) : State :=
  { s with pwr := { s.pwr with state := .active, target := .active, idle := n } }

/-- No limit reached, the last tick before saturation, and the tick that reaches the 300 s limit, with heads on track
and with heads parked. -/
theorem witness_IdleCounter :
    ((idleAt 65534 up).Ready ∧ (idleAt 65534 up).pwr.idle < 65535 ∧ (idleAt 65534 up).pwr.standby ≠ 65535 ∧
      (idleAt 65534 up).pwr.sleep ≠ 65535 ∧ (idleAt 65534 up).pwr.dormant ≠ 65535) ∧
    ((idleAt 65535 up).Ready ∧ 65535 ≤ (idleAt 65535 up).pwr.idle) ∧
    ((idleAt 299 up).Quiet ∧ (idleAt 299 up).pwr.standby = 299 + 1 ∧ 299 + 1 ≤ 65535 ∧
      (idleAt 299 up).act.head.loaded = true) ∧
    (∀ n ∈ [299, 1799], ∀ s ∈ [locking 0 0, braking 3 none, asleep],
      (idleAt n s).Quiet ∧ (idleAt n s).act.head = .parked) :=
  ⟨⟨ready_of (by decide +kernel), by decide⟩, ⟨ready_of (by decide +kernel), by decide⟩,
    ⟨quiet_of (by decide +kernel), by decide⟩, fun n h s _ => by
      refine ⟨quiet_of ?_, ?_⟩ <;> revert s <;> revert n <;> decide +kernel⟩

/-- R161: the move to SLEEP over parked heads stops the spindle with the cause IDLE. R166: a limit acts once: the event at a
count that has been reached does nothing more. -/
theorem test_idle_limits :
    gives .oneSecondTick (idleAt 1799 (locking 0 0)) (fun t => decide (t.spc.state = .braking) &&
      decide (t.spc.lastStop = .idle) && decide (t.pwr.target = .sleep) && decide (t.pwr.progress = .waitStopped)) =
      true ∧
    gives .idleLimitReached (idleAt 300 up) (fun t => decide (t.pwr.target = .active) && decide (t.pwr.idle = 300)) =
      true ∧
    gives .idleLimitReached (idleAt 299 up) (fun t => decide (t.pwr.target = .standby) && decide (t.pwr.idle = 300)) =
      true := by decide +kernel

/-- The three states of the monitor over loaded and over parked heads, and a spindle in each state it can have; out of
GOOD the wait for the spindle's stop still runs. -/
theorem witness_SupplyMonitored :
    (∀ x ∈ [Supply.good, .fault, .holdOff], ∀ s ∈ [up, asleep, locking 0 0, braking 3 none, faulted 3 false],
      (supplied x s).Clear ∧ (supplied x s).pwr.supply = x ∧ (supplied x s).pwr.holdOff ≠ none ∧
      (supplied x s).pwr.progress = (if x = .good then .none else .waitStopped)) := by
  refine fun x h s k => ⟨clear_of ?_, ?_⟩ <;> revert s <;> revert x <;> decide +kernel

theorem test_supply_fall_retracts :
    gives .supplyFall up (fun t => decide (t.act.head = .retracting) && decide (t.spc.state = .braking) &&
      decide (t.pwr.state = .faultHold) && decide (t.ntu.queue.map (·.body) =
        [.attention (.supplyFault .active), .attention (.powerState .faultHold .active)])) = true := by decide +kernel

theorem witness_PowerOnReset :
    ({ up with pins := { up.pins with logicLow := true } } : State).pins.logicLow = true ∧
    Instr.oneSecondTick ≠ .logicSupplyFall ∧ ∀ g, Instr.oneSecondTick ≠ .powerOnReset g := by decide

/-! ### Link Interface -/

theorem witness_SettingsTaken : up.Listening ∧ (List.replicate 8 (0 : Byte)).length = 8 :=
  ⟨listening_of (by decide +kernel), by decide⟩

/-- R167: 5 s is clamped to 10 s, 65,535 s to the highest value of each limit. -/
theorem test_settings_clamped :
    gives (.settings 3 [0, 5, 0xFF, 0xFF, 0xFF, 0xFF, 0, 1]) up
      (fun t => decide (t.pwr.standby = 10) && decide (t.pwr.sleep = 14400) && decide (t.pwr.dormant = 43200) &&
        decide (t.ntu.enables = true :: List.replicate 8 false)) = true := by decide +kernel

theorem witness_QueriesAnswered :
    up.Listening ∧ 1 < (2#8 : Byte).toNat ∧ up.findTag (5#8).toNat = none ∧
    (queuedBehindPass.Listening ∧ queuedBehindPass.findTag (5#8).toNat = some 0 ∧
      queuedBehindPass.chainAt 0 = some (chainOf (orderOf .read) .queued)) :=
  ⟨listening_of (by decide +kernel), by decide, by decide, listening_of (by decide +kernel), by decide +kernel⟩

theorem witness_LinkResets :
    (up.Listening ∧ up.che.job = none ∧ up.rcv.stage ≠ .draining ∧ up.pins.linkReset = false) ∧
    (({ up with pins := { up.pins with linkReset := true } } : State).Ready ∧ up.lnk.waiting = []) :=
  ⟨⟨listening_of (by decide +kernel), by decide⟩, ready_of (by decide +kernel), by decide⟩

/-- A reply, a want, a slot and a notice at the head of their lists. -/
def laneOpen (f : Outbound) : State :=
  { sending f with
    pins := { up.pins with ready := true }
    lnk := { up.lnk with out := none, replies :=
      if f = .reply then [{ kind := 1, tag := 5, reason := none, body := [] }] else [] }
    bbf := { (sending f).bbf with
      wants := if f = .want then (sending f).bbf.wants else []
      delivery := if f = .notice then [] else [0] }
    ntu := { up.ntu with queue := [{ body := .progress 5 0, sending := false, replaced := false }] } }

theorem witness_ReadyLineAndLane :
    up.Ready ∧ (0 : Byte) ≠ 0xC3#8 ∧ (0xC2 : Byte) ≠ 0xC3#8 ∧ up.lnk.stage = .awaitLead ∧ up.lnk.waiting = [] ∧
    up.pins.linkReset = false ∧
    ∀ f ∈ [Outbound.reply, .want, .slot, .notice],
      (laneOpen f).lnk.out = none ∧ (laneOpen f).pins.ready = true ∧ (laneOpen f).pins.linkReset = false ∧
      (f = .reply ∨ (laneOpen f).lnk.replies = []) ∧ (f = .reply ∨ f = .want ∨ (laneOpen f).bbf.wants = []) ∧
      (f ≠ .notice ∨ (laneOpen f).bbf.delivery = []) :=
  ⟨ready_of (by decide +kernel), by decide +kernel⟩

end Sys2Proof.Tests
end

section
/-! PROOF. The interlock: everything a step can do to the spindle, the head state, the load permission, the latch, the
eject stage and PWR's descent cause, said once per operation. -/

namespace Sys2Proof.Machine

/-! ## The interlock and its moves -/

/-- What the laws of the spindle, the heads, the latch and the descent cause read of the state. -/
structure Interlock where
  spc : Spc
  head : HeadState
  permission : Bool
  latch : Latch
  stage : EjectStage
  descent : Option StopCause

def State.interlock (s : State) : Interlock :=
  { spc := s.spc, head := s.act.head, permission := s.act.permission, latch := s.rcv.latch, stage := s.rcv.stage,
    descent := s.pwr.descent }

/-- R4 to R6: the level and the runs after an interval in LOCKING. -/
def Spc.lockingTick (t : Nat) (p : Spc) : Spc :=
  { p with level := regulate p.level t, inRun := if inWindow t then p.inRun + 1 else 0,
           slowRun := if t > 5750 then p.slowRun + 1 else 0 }

/-- R4, R7: the level and the run after an interval in LOCKED. -/
def Spc.lockedTick (t : Nat) (p : Spc) : Spc :=
  { p with level := regulate p.level t, outRun := if inWindow t then 0 else p.outRun + 1 }

/-- One thing a block can do to the interlock, with the condition under which it does it. -/
inductive Interlock.Move : Interlock → Interlock → Prop
  /-- 2.3 to 2.6: heads off the ramp go on to another state off the ramp. -/
  | steered {c : Interlock} (h : HeadState) : c.head.loaded = true → h.loaded = true → Move c { c with head := h }
  /-- R28. -/
  | loading {c : Interlock} : c.head = .parked → c.permission = true → Move c { c with head := .loading }
  /-- R31. -/
  | toRamp {c : Interlock} : c.head.loaded = true → Move c { c with head := .unloading }
  /-- R33. -/
  | retracted {c : Interlock} : c.head ≠ .parked → Move c { c with head := .retracting }
  /-- R31, R33. -/
  | parked {c : Interlock} : c.head = .unloading ∨ c.head = .retracting → Move c { c with head := .parked }
  /-- R20, R26. -/
  | permitted {c : Interlock} : c.spc.state = .locked → c.spc.purge = 0 → Move c { c with permission := true }
  /-- R158. -/
  | descends {c : Interlock} (d : Option StopCause) : (∀ x ∈ d, x = .hostOrder ∨ x = .idle) →
      Move c { c with descent := d }
  /-- R147 to R153: RCV takes another stage, where no latch can be released (R142). -/
  | staged {c : Interlock} (g : EjectStage) :
      c.latch = .locked ∨ c.stage ≠ .releasing ∧ c.stage ≠ .doorOpen ∨ c.spc.state ≠ .stopped ∨ c.head ≠ .parked →
      Move c { c with stage := g }
  /-- R142, R151, R152. -/
  | released {c : Interlock} (g : EjectStage) : c.spc.state = .stopped → c.head = .parked →
      g = .releasing ∨ g = .doorOpen → Move c { c with stage := g, latch := .released }
  | latched {c : Interlock} : Move c { c with latch := .locked }
  /-- R2, R13: the interval counter, the waiters and the held start, of which no law speaks. -/
  | noted {c : Interlock} (interval : Nat) (waitPwr waitRcv : Bool) (held : Option Requester) :
      Move c { c with spc := { c.spc with
        interval := interval, waitPwr := waitPwr, waitRcv := waitRcv, heldStart := held } }
  /-- R19. -/
  | counted {c : Interlock} : Move c { c with spc := c.spc.counted }
  /-- R10; a start held in BRAKING is taken with the stop (R14). -/
  | started {c : Interlock} (long : Bool) :
      c.spc.state = .stopped ∧ c.latch = .locked ∨ c.spc.state = .spinFault ∨ c.spc.state = .braking →
      Move c { c with spc := c.spc.started long, permission := false }
  /-- R11, R14: a stop brakes under heads on the ramp; PWR's own cause could be SUPPLY only against R158. -/
  | braked {c : Interlock} (cause : StopCause) : c.spc.state.turning = true →
      c.head.loaded = false ∨ c.descent = some .supply →
      Move c { c with
        spc := { c.spc with
          state := .braking, level := 0, brake := true, lastStop := cause, inRun := 0, slowRun := 0, outRun := 0,
          satRun := 0, startTimer := none, relockTimer := none, brakeTimer := some 20000000 }
        permission := false }
  /-- R3. -/
  | upToSpeed {c : Interlock} : c.spc.state = .accelerating →
      Move c { c with spc := { c.spc with state := .locking, level := 160, inRun := 0, slowRun := 0 },
                      permission := false }
  /-- R4 to R6: an interval in LOCKING short of lock. -/
  | regulated {c : Interlock} (t : Nat) : c.spc.state = .locking → (c.spc.lockingTick t).inRun < 24 →
      (c.spc.lockingTick t).slowRun < 8 → Move c { c with spc := c.spc.lockingTick t }
  /-- R5. -/
  | lockGained {c : Interlock} (t : Nat) : c.spc.state = .locking →
      Move c { c with spc := { c.spc.lockingTick t with
        state := .locked, outRun := 0, startTimer := none, relockTimer := none } }
  /-- R6. -/
  | slowed {c : Interlock} (t : Nat) : c.spc.state = .locking →
      Move c { c with
        spc := { c.spc.lockingTick t with state := .accelerating, level := 255, inRun := 0, slowRun := 0 },
                      permission := false }
  /-- R7: an interval in LOCKED that keeps lock. -/
  | lockKept {c : Interlock} (t : Nat) : c.spc.state = .locked → (c.spc.lockedTick t).outRun < 4 →
      Move c { c with spc := c.spc.lockedTick t }
  /-- R7, R8, R32: the lock loss has loaded heads unload. -/
  | lockLost {c : Interlock} (t : Nat) : c.spc.state = .locked →
      Move c { c with
        spc := { c.spc.lockedTick t with state := .locking, inRun := 0, slowRun := 0, relockTimer := some 5000000 }
        permission := false, head := if c.head.loaded = true then .unloading else c.head }
  /-- R14, R18: an input of the stop test. -/
  | stopTested {c : Interlock} (n : Nat) : n ≤ 6 → Move c { c with spc := { c.spc with satRun := n } }
  /-- R14. -/
  | stopped {c : Interlock} : c.spc.state = .braking →
      Move c { c with spc := { c.spc with state := .stopped, level := 0, brake := false, brakeTimer := none },
                      permission := false }
  /-- R18: the stop is confirmed with nobody waiting for it. -/
  | confirmed {c : Interlock} : c.spc.state = .spinFault →
      Move c { c with spc := { c.spc with stopConfirmed := true, brake := false } }
  /-- R18: the stop is confirmed to a waiter. -/
  | stoppedInFault {c : Interlock} : c.spc.state = .spinFault →
      Move c { c with spc := { c.spc with state := .stopped, brake := false }, permission := false }
  /-- R11, R18: a stop request in SPIN FAULT with the stop confirmed. -/
  | faultLeft {c : Interlock} : c.spc.state = .spinFault → c.spc.stopConfirmed = true →
      Move c { c with spc := { c.spc with state := .stopped, stopConfirmed := false, heldStart := none },
                      permission := false }
  /-- R15 to R18. -/
  | faulted {c : Interlock} :
      c.spc.state = .accelerating ∨ c.spc.state = .locking ∨ c.spc.state = .braking →
      Move c { c with
        spc := { c.spc with
          state := .spinFault, level := 0, brake := true, stopConfirmed := false, lastStop := .spinFault,
          startTimer := none, relockTimer := none, brakeTimer := none, inRun := 0, slowRun := 0, outRun := 0,
          satRun := if c.spc.state = .braking then c.spc.satRun else 0 }
        permission := false }
  /-- R22, R48, R157, R172. -/
  | powered {c : Interlock} :
      Move c { spc := Reset.spc, head := .parked, permission := false, latch := .locked, stage := .none,
               descent := none }

/-- Any number of moves. -/
def Interlock.Moves : Interlock → Interlock → Prop := Relation.ReflTransGen Interlock.Move

@[simp] theorem Interlock.Moves.refl (c : Interlock) : c.Moves c := Relation.ReflTransGen.refl

theorem Interlock.Moves.step {c d e : Interlock} (h : c.Moves d) (m : d.Move e) : c.Moves e :=
  Relation.ReflTransGen.tail h m

/-- A law that every move keeps is kept by any number of them. -/
theorem Interlock.Moves.keeps {P : Interlock → Prop} (hP : ∀ c d : Interlock, c.Move d → P c → P d)
    {c d : Interlock} (h : c.Moves d) (hc : P c) : P d := by
  induction h with
  | refl => exact hc
  | tail _ m ih => exact hP _ _ m ih

/-! ## What the moves keep -/

/-- R1, R5 to R7, R14, R19: every move keeps the outputs of the spindle states and the ranges. -/
theorem Interlock.Move.keeps_spindle {c d : Interlock} (m : c.Move d) (h : c.spc.Outputs ∧ c.spc.Ranges) :
    d.spc.Outputs ∧ d.spc.Ranges := by
  obtain ⟨ho, hin, hslow, hout, hsat, hpurge, hpulse, hlocking, hlocked⟩ := h
  cases m with
  | steered | loading | toRamp | retracted | parked | permitted | descends | staged | released | latched | noted =>
    exact ⟨ho, hin, hslow, hout, hsat, hpurge, hpulse, hlocking, hlocked⟩
  | counted =>
    unfold Spc.counted
    split
    · exact ⟨ho, hin, hslow, hout, hsat, hpurge, hpulse, hlocking, hlocked⟩
    · split
      · exact ⟨ho, hin, hslow, hout, hsat, hpurge, by simp only; omega, hlocking, hlocked⟩
      · exact ⟨ho, hin, hslow, hout, hsat, by simp only; omega, by simp only; omega, hlocking, hlocked⟩
  | started long => cases long <;> simp [Spc.started, Spc.Outputs, Spc.Ranges]
  | braked | stopped | faulted => simp [Spc.Outputs, Spc.Ranges, *]; try (split <;> omega)
  | upToSpeed hs => simp_all [Spc.Outputs, Spc.Ranges]
  | regulated t hs hin hslow =>
    have := regulate_range c.spc.level t
    simp_all [Spc.Outputs, Spc.Ranges, Spc.lockingTick]
    omega
  | lockGained t hs =>
    have := regulate_range c.spc.level t
    have := hlocking hs
    simp_all [Spc.Outputs, Spc.Ranges, Spc.lockingTick]
    constructor <;> split <;> omega
  | slowed t hs => simp_all [Spc.Outputs, Spc.Ranges, Spc.lockingTick]
  | lockKept t hs hout =>
    have := regulate_range c.spc.level t
    simp_all [Spc.Outputs, Spc.Ranges, Spc.lockedTick]
    omega
  | lockLost t hs =>
    have := regulate_range c.spc.level t
    have := hlocked hs
    simp_all [Spc.Outputs, Spc.Ranges, Spc.lockedTick]
    split <;> omega
  | stopTested n hn => simp_all [Spc.Outputs, Spc.Ranges]
  | confirmed hs => simp_all [Spc.Outputs, Spc.Ranges]
  | stoppedInFault hs => simp_all [Spc.Outputs, Spc.Ranges]
  | faultLeft hs hc => simp_all [Spc.Outputs, Spc.Ranges]
  | powered => simp [Reset.spc, Spc.Outputs, Spc.Ranges]

/-- R20, R23, R26, R142, R158: the laws of the heads, the latch and the descent cause, on the interlock. -/
def Interlock.Lawful (c : Interlock) : Prop :=
  ((c.head.loaded = true → c.spc.state = .locked ∧ c.spc.purge = 0) ∧
    (c.permission = true → c.spc.state = .locked ∧ c.spc.purge = 0)) ∧
  (c.latch = .released →
    c.spc.state = .stopped ∧ c.head = .parked ∧ (c.stage = .releasing ∨ c.stage = .doorOpen)) ∧
  ∀ x ∈ c.descent, x = .hostOrder ∨ x = .idle

theorem State.lawful_iff (s : State) : s.interlock.Lawful ↔ s.HeadLaw ∧ s.LatchLaw ∧ s.DescentLaw := Iff.rfl

theorem Interlock.Move.keeps_lawful {c d : Interlock} (m : c.Move d) (h : c.Lawful) : d.Lawful := by
  obtain ⟨⟨hhead, hperm⟩, hlatch, hdesc⟩ := h
  cases m with
  | steered g hc hg =>
    have hne : c.head ≠ .parked := by rintro he; simp [he, HeadState.loaded] at hc
    exact ⟨⟨fun _ => hhead hc, hperm⟩, fun hl => absurd (hlatch hl).2.1 hne, hdesc⟩
  | loading hp hq =>
    have hs := hperm hq
    exact ⟨⟨fun _ => hs, hperm⟩, fun hl => by simp [(hlatch hl).1] at hs, hdesc⟩
  | toRamp hc =>
    have hne : c.head ≠ .parked := by rintro he; simp [he, HeadState.loaded] at hc
    exact ⟨⟨by simp [HeadState.loaded], hperm⟩, fun hl => absurd (hlatch hl).2.1 hne, hdesc⟩
  | retracted hne =>
    exact ⟨⟨by simp [HeadState.loaded], hperm⟩, fun hl => absurd (hlatch hl).2.1 hne, hdesc⟩
  | parked hc =>
    exact ⟨⟨by simp [HeadState.loaded], hperm⟩, fun hl => ⟨(hlatch hl).1, rfl, (hlatch hl).2.2⟩, hdesc⟩
  | permitted hs hp => exact ⟨⟨hhead, fun _ => ⟨hs, hp⟩⟩, hlatch, hdesc⟩
  | descends x hx => exact ⟨⟨hhead, hperm⟩, hlatch, hx⟩
  | staged g hg =>
    refine ⟨⟨hhead, hperm⟩, fun hl => ?_, hdesc⟩
    obtain ⟨hs, hp, hst⟩ := hlatch hl
    obtain hlock | ⟨hr, hd⟩ | hs' | hp' := hg
    · simp only [hlock] at hl; cases hl
    · exact absurd hst (by simp [hr, hd])
    · exact absurd hs hs'
    · exact absurd hp hp'
  | released g hs hp hg => exact ⟨⟨hhead, hperm⟩, fun _ => ⟨hs, hp, hg⟩, hdesc⟩
  | latched => exact ⟨⟨hhead, hperm⟩, by simp, hdesc⟩
  | noted => exact ⟨⟨hhead, hperm⟩, hlatch, hdesc⟩
  | counted =>
    unfold Spc.counted
    split <;> try split
    all_goals exact ⟨⟨by simp_all, by simp_all⟩, hlatch, hdesc⟩
  | started long hs =>
    refine ⟨⟨fun hc => ?_, by simp⟩, fun hl => ?_, hdesc⟩ <;> simp_all
  | braked cause ht hh =>
    refine ⟨⟨fun hc => ?_, by simp⟩, fun hl => ?_, hdesc⟩ <;> simp_all [SpindleState.turning]
  | regulated | stopTested => exact ⟨⟨hhead, hperm⟩, hlatch, hdesc⟩
  | lockKept t hs hout => exact ⟨⟨hhead, hperm⟩, hlatch, hdesc⟩
  | lockGained t hs => exact ⟨⟨by simp_all, by simp_all⟩, fun hl => by simp_all, hdesc⟩
  | lockLost t hs =>
    refine ⟨⟨?_, by simp⟩, fun hl => by simp_all, hdesc⟩
    by_cases hc : c.head.loaded = true <;> simp [hc]; simp [HeadState.loaded]
  | confirmed | upToSpeed | slowed | stopped | stoppedInFault | faultLeft =>
    exact ⟨⟨by simp_all, by simp_all⟩, fun hl => by simp_all, hdesc⟩
  | faulted hs => exact ⟨⟨fun hc => by simp [hhead hc] at hs, by simp⟩, fun hl => by simp_all, hdesc⟩
  | powered => simp [Interlock.Lawful, HeadState.loaded]

end Sys2Proof.Machine
end

section
/-! PROOF. What each operation does to the interlock: an equation `_interlock` where it leaves it as it is, and a
lemma `_moves` where it moves it, which carries moves made before it on. -/

namespace Sys2Proof.Machine

/-! ## Updates -/

@[simp] theorem interlock_spc (s : State) : s.interlock.spc = s.spc := rfl
@[simp] theorem interlock_head (s : State) : s.interlock.head = s.act.head := rfl
@[simp] theorem interlock_permission (s : State) : s.interlock.permission = s.act.permission := rfl
@[simp] theorem interlock_latch (s : State) : s.interlock.latch = s.rcv.latch := rfl
@[simp] theorem interlock_stage (s : State) : s.interlock.stage = s.rcv.stage := rfl
@[simp] theorem interlock_descent (s : State) : s.interlock.descent = s.pwr.descent := rfl

/-- States that agree in the six fields have one interlock. -/
theorem interlock_congr {s t : State} (hspc : t.spc = s.spc) (hhead : t.act.head = s.act.head)
    (hperm : t.act.permission = s.act.permission) (hlatch : t.rcv.latch = s.rcv.latch)
    (hstage : t.rcv.stage = s.rcv.stage) (hdesc : t.pwr.descent = s.pwr.descent) : t.interlock = s.interlock := by
  simp [State.interlock, *]

section frames
variable (s : State)
@[simp] theorem updVol0_interlock (f) : (s.updVol0 f).interlock = s.interlock := rfl
@[simp] theorem updVol1_interlock (f) : (s.updVol1 f).interlock = s.interlock := rfl
@[simp] theorem updVol_interlock (v f) : (s.updVol v f).interlock = s.interlock := by cases v <;> rfl
@[simp] theorem updChe_interlock (f) : (s.updChe f).interlock = s.interlock := rfl
@[simp] theorem updBbf_interlock (f) : (s.updBbf f).interlock = s.interlock := rfl
@[simp] theorem updNtu_interlock (f) : (s.updNtu f).interlock = s.interlock := rfl
@[simp] theorem updLnk_interlock (f) : (s.updLnk f).interlock = s.interlock := rfl
@[simp] theorem updPins_interlock (f) : (s.updPins f).interlock = s.interlock := rfl
@[simp] theorem setPass_interlock (p) : (s.setPass p).interlock = s.interlock := rfl
@[simp] theorem setXfer_interlock (x) : (s.setXfer x).interlock = s.interlock := rfl
@[simp] theorem setCopy_interlock (d) : (s.setCopy d).interlock = s.interlock := rfl
@[simp] theorem send_interlock (m) : (s.send m).interlock = s.interlock := rfl
@[simp] theorem setSlot_interlock (i c) : (s.setSlot i c).interlock = s.interlock := rfl
@[simp] theorem updChain_interlock (i f) : (s.updChain i f).interlock = s.interlock := rfl
@[simp] theorem updJob_interlock (f) : (s.updJob f).interlock = s.interlock := rfl
@[simp] theorem setJob_interlock (j) : (s.setJob j).interlock = s.interlock := rfl
@[simp] theorem setMech_interlock (h) : (s.setMech h).interlock = s.interlock := rfl
@[simp] theorem setBlockSlot_interlock (i b) : (s.setBlockSlot i b).interlock = s.interlock := rfl
@[simp] theorem setPassPhase_interlock (p) : (s.setPassPhase p).interlock = s.interlock := rfl
@[simp] theorem setPhase_interlock (p) : (setPhase p s).interlock = s.interlock := rfl
@[simp] theorem attend_interlock (a) : (attend a s).interlock = s.interlock := rfl
@[simp] theorem setLamp_interlock : (setLamp s).interlock = s.interlock := rfl
end frames

/-! The last three leave the interlock alone where the fields it reads stay. -/

@[simp] theorem updAct_interlock {f : Act → Act} (s : State) (hh : ∀ a, (f a).head = a.head)
    (hp : ∀ a, (f a).permission = a.permission) : (s.updAct f).interlock = s.interlock :=
  interlock_congr rfl (hh _) (hp _) rfl rfl rfl

@[simp] theorem updRcv_interlock {f : Rcv → Rcv} (s : State) (hl : ∀ r, (f r).latch = r.latch)
    (hs : ∀ r, (f r).stage = r.stage) : (s.updRcv f).interlock = s.interlock :=
  interlock_congr rfl rfl rfl (hl _) (hs _) rfl

@[simp] theorem updPwr_interlock {f : Pwr → Pwr} (s : State) (hd : ∀ w, (f w).descent = w.descent) :
    (s.updPwr f).interlock = s.interlock :=
  interlock_congr rfl rfl rfl rfl rfl (hd _)

theorem updSpc_interlock (f : Spc → Spc) (s : State) :
    (s.updSpc f).interlock = { s.interlock with spc := f s.spc } := rfl

/-- A fold of operations that leave the interlock alone leaves it alone. -/
theorem foldl_interlock {α : Type} {f : State → α → State} (hf : ∀ s a, (f s a).interlock = s.interlock)
    (l : List α) (s : State) : (l.foldl f s).interlock = s.interlock := by
  induction l generalizing s with
  | nil => rfl
  | cons a l ih => rw [List.foldl_cons, ih, hf]

/-- A fold of operations that make moves makes moves. -/
theorem foldl_moves {α : Type} {f : State → α → State} {c : Interlock}
    (hf : ∀ s a, c.Moves s.interlock → c.Moves (f s a).interlock) (l : List α) {s : State}
    (h : c.Moves s.interlock) : c.Moves (l.foldl f s).interlock := by
  induction l generalizing s with
  | nil => exact h
  | cons a l ih => exact ih (hf s a h)

section operations
variable {c : Interlock} {s : State}

/-! ## Notice Unit -/

@[simp] theorem offerCompletion_interlock (i : Nat) (s : State) : (offerCompletion i s).interlock = s.interlock := by
  obtain ⟨_, -, -, e⟩ | ⟨-, e⟩ := offerCompletion_cases i s
  · rw [e]; rfl
  · rw [e]

@[simp] theorem offerProgress_interlock (i : Nat) (s : State) : (offerProgress i s).interlock = s.interlock := by
  unfold offerProgress
  split
  · rfl
  · split
    · split
      · rfl
      · split <;> rfl
    · rfl

@[simp] theorem placeArbiter_interlock (s : State) : (placeArbiter s).interlock = s.interlock := by
  unfold placeArbiter
  split
  · simp
  · split
    · rfl
    · split <;> rfl

@[simp] theorem noticeAcknowledged_interlock (s : State) : (noticeAcknowledged s).interlock = s.interlock := by
  unfold noticeAcknowledged
  split
  · split
    · split <;> simp
    · rfl
  · rfl

/-! ## Actuator Controller -/

@[simp] theorem actHead_interlock (h : HeadState) (s : State) :
    (actHead h s).interlock = { s.interlock with head := h } := by
  obtain ⟨hh, e⟩ | ⟨-, e⟩ := actHead_cases h s
  · rw [e, ← hh]; rfl
  · rw [e]; rfl

@[simp] theorem actAnswer_interlock (x : SeekAnswer) (s : State) : (actAnswer x s).interlock = s.interlock := by
  obtain ⟨-, e⟩ | ⟨k, -, e⟩ := actAnswer_cases x s
  · rw [e]
  · rw [e]; rfl

@[simp] theorem actWithdraw_interlock (p : Party) (s : State) : (actWithdraw p s).interlock = s.interlock := by
  simp [actWithdraw]

@[simp] theorem openGate_interlock (s : State) : (openGate s).interlock = s.interlock := by simp [openGate]

@[simp] theorem closeGate_interlock (s : State) : (closeGate s).interlock = s.interlock := by simp [closeGate]

@[simp] theorem actGateWedge_interlock (e : Int) (s : State) : (actGateWedge e s).interlock = s.interlock := by
  unfold actGateWedge
  split <;> simp

@[simp] theorem actTryLoad_moves (h : c.Moves s.interlock) : c.Moves (actTryLoad s).interlock := by
  unfold actTryLoad
  split
  · exact h
  · split
    next hp => simpa using h.step (.loading hp.1 hp.2)
    next => exact h

@[simp] theorem actRequestLoad_moves (p : Party) (v : Vol) (h : c.Moves s.interlock) :
    c.Moves (actRequestLoad p v s).interlock := by
  unfold actRequestLoad
  split
  case _ | _ | _ | _ => simpa using h
  all_goals
    split
    · exact h
    · exact actTryLoad_moves (by simpa using h)

@[simp] theorem actPermit_moves (h : c.Moves s.interlock) (hs : s.spc.state = .locked) (hp : s.spc.purge = 0) :
    c.Moves (actPermit s).interlock :=
  actTryLoad_moves (h.step (.permitted hs hp))

/-- Heads off the ramp change to another state off the ramp. -/
theorem actHead_steers {g : HeadState} (h : c.Moves s.interlock) (hl : s.interlock.head.loaded = true)
    (hg : g.loaded = true) : c.Moves (actHead g s).interlock := by
  rw [actHead_interlock]
  exact h.step (.steered g hl hg)

@[simp] theorem actEnterUnloading_moves (x : SeekAnswer) (h : c.Moves s.interlock)
    (hl : s.interlock.head.loaded = true) : c.Moves (actEnterUnloading x s).interlock := by
  rw [actEnterUnloading, actHead_interlock]
  simpa [Act.leave] using h.step (.toRamp hl)

@[simp] theorem actUnload_moves (h : c.Moves s.interlock) : c.Moves (actUnload s).interlock := by
  obtain ⟨hl, e⟩ | ⟨-, e⟩ := actUnload_cases s
  · rw [e]; exact actEnterUnloading_moves _ h hl
  · rwa [e]

theorem actRetract_interlock (s : State) : (actRetract s).interlock =
    { s.interlock with head := if s.act.head = .parked then .parked else .retracting } := by
  unfold actRetract
  split
  next hp => simp [State.interlock, hp]
  next hp => simp [State.interlock, hp]
  next hp _ => simp [Act.leave, show s.act.head ≠ .parked from hp]

@[simp] theorem actRetract_moves (h : c.Moves s.interlock) : c.Moves (actRetract s).interlock := by
  rw [actRetract_interlock]
  split
  next hp => rwa [← hp]
  next hp => exact h.step (.retracted hp)

@[simp] theorem actPark_moves (h : c.Moves s.interlock) (hh : s.act.head = .unloading ∨ s.act.head = .retracting) :
    c.Moves (actPark s).interlock :=
  actTryLoad_moves (by simpa using h.step (.parked hh))

@[simp] theorem actRamp_moves (h : c.Moves s.interlock) : c.Moves (actRamp s).interlock := by
  unfold actRamp
  split <;> simp [*]

@[simp] theorem actUnloadExpiry_moves (h : c.Moves s.interlock) : c.Moves (actUnloadExpiry s).interlock := by
  unfold actUnloadExpiry
  split <;> simp [*]

@[simp] theorem actRetractExpiry_moves (h : c.Moves s.interlock) : c.Moves (actRetractExpiry s).interlock := by
  unfold actRetractExpiry
  split <;> simp [*]

@[simp] theorem actAcquisitionExpiry_moves (h : c.Moves s.interlock) :
    c.Moves (actAcquisitionExpiry s).interlock := by
  unfold actAcquisitionExpiry
  split
  next hh =>
    split
    · simpa using h
    · have e := foldl_interlock (f := fun t (r : LoadRequest) => t.send (.loadFailed r.party)) (by simp) s.act.loads s
      rw [send_interlock]
      exact actEnterUnloading_moves _ (by simpa [e] using h) (by simp [e, hh.1, HeadState.loaded])
  next => exact h

/-! A seek attempt, from heads off the ramp, leaves them off the ramp. -/

@[simp] theorem actAttempt_moves (k : Seek) (again : Bool) (h : c.Moves s.interlock)
    (hl : s.interlock.head.loaded = true) : c.Moves (actAttempt k again s).interlock := by
  unfold actAttempt
  dsimp only
  split
  · exact actHead_steers (by simpa using h) (by simpa using hl) rfl
  · split
    · exact actHead_steers (by simpa using h) (by simpa using hl) rfl
    · exact actHead_steers (by simpa using h) (by simpa using hl) rfl

@[simp] theorem actTakeSeek_moves (k : Seek) (h : c.Moves s.interlock) (hl : s.interlock.head.loaded = true) :
    c.Moves (actTakeSeek k s).interlock := by
  unfold actTakeSeek
  split
  · exact actAttempt_moves k false (by simpa using h) (by simpa using hl)
  · simpa using h

@[simp] theorem actSeek_moves (p : Party) (t : Target) (h : c.Moves s.interlock) :
    c.Moves (actSeek p t s).1.interlock := by
  obtain ⟨e, hh⟩ | ⟨e, -⟩ | ⟨e, -⟩ | ⟨e, -⟩ := actSeek_cases p t s <;> rw [e]
  · exact actTakeSeek_moves _ h (by simp [hh, HeadState.loaded])
  · simpa using h
  · exact h
  · exact h

@[simp] theorem actArrive_moves (h : c.Moves s.interlock) (hl : s.interlock.head.loaded = true) :
    c.Moves (actArrive s).interlock :=
  actHead_steers (by simpa using h) (by simpa using hl) rfl

@[simp] theorem actFail_moves (h : c.Moves s.interlock) (hl : s.interlock.head.loaded = true) :
    c.Moves (actFail s).interlock := by
  unfold actFail
  dsimp only
  split
  · simpa using h
  · split
    · exact actAttempt_moves _ true (by simpa using h) (by simpa using hl)
    · exact actHead_steers (by simpa using h) (by simpa using hl) rfl

@[simp] theorem actMisplaced_moves (p : Party) (t : Target) (h : c.Moves s.interlock) :
    c.Moves (actMisplaced p t s).interlock := by
  obtain ⟨-, e⟩ | ⟨hh, -, -, e⟩ | ⟨hh, -, e⟩ := actMisplaced_cases p t s <;> rw [e]
  · exact h
  · exact actFail_moves (by simpa using h) (by simp [hh, HeadState.loaded])
  · exact actFail_moves (by simpa using h) (by simp [hh, HeadState.loaded])

@[simp] theorem actAcquire_moves (cyl : Nat) (e : Int) (h : c.Moves s.interlock)
    (hl : s.interlock.head.loaded = true) : c.Moves (actAcquire cyl e s).interlock := by
  unfold actAcquire
  extract_lets t u v
  have ht : c.Moves t.interlock ∧ t.interlock.head = .following :=
    ⟨actHead_steers (by simpa using h) (by simpa using hl) rfl, by simp [t]⟩
  have hv : v.interlock = t.interlock := by
    calc v.interlock = u.interlock := by simp [v]
      _ = t.interlock := foldl_interlock (by simp) _ _
  split
  · exact actTakeSeek_moves _ (hv ▸ ht.1) (by rw [hv, ht.2]; rfl)
  · exact hv ▸ ht.1

@[simp] theorem actSettleWedge_moves (cyl : Nat) (e : Int) (h : c.Moves s.interlock)
    (hl : s.interlock.head.loaded = true) : c.Moves (actSettleWedge cyl e s).interlock := by
  obtain ⟨-, eq⟩ | ⟨k, -, ⟨-, -, eq⟩ | ⟨-, -, -, eq⟩ | ⟨-, -, -, eq⟩ | ⟨-, -, -, -, eq⟩ | ⟨-, -, -, -, eq⟩ | ⟨-, eq⟩⟩ :=
    actSettleWedge_cases cyl e s <;> rw [eq]
  · exact h
  · exact actFail_moves h hl
  · exact actArrive_moves h hl
  · simpa using h
  · simpa using h
  · simpa using h
  · exact h

@[simp] theorem actReacquire_moves (cyl : Nat) (h : c.Moves s.interlock) (hl : s.interlock.head.loaded = true) :
    c.Moves (actReacquire cyl s).interlock := by
  unfold actReacquire
  dsimp only
  split
  · exact actHead_steers (by simpa using h) (by simpa using hl) rfl
  · split
    · exact actFail_moves (by simpa using h) (by simpa using hl)
    · exact actTakeSeek_moves _ (by simpa using h) (by simpa using hl)

@[simp] theorem actRecalibrate_moves (cyl : Nat) (h : c.Moves s.interlock) (hl : s.interlock.head.loaded = true) :
    c.Moves (actRecalibrate cyl s).interlock := by
  unfold actRecalibrate
  split
  · split
    · exact actAttempt_moves _ false (by simpa using h) (by simpa using hl)
    · exact h
  · exact h

/-- R25: a wedge report moves nothing but heads that are off the ramp. -/
@[simp] theorem actWedge_moves (w cyl : Nat) (e : Int) (out : ReadOutcome) (data : List Byte)
    (h : c.Moves s.interlock) : c.Moves (actWedge w cyl e out data s).interlock := by
  unfold actWedge
  extract_lets heard
  have hi : heard.interlock = s.interlock := by simp [heard, Act.hear]
  have hheard : c.Moves heard.interlock := by rwa [hi]
  have hl : s.act.head.loaded = true → heard.interlock.head.loaded = true := fun hs => by rw [hi]; exact hs
  split
  · exact h
  · exact h
  · exact h
  next hh => exact actAcquire_moves _ _ h (by simp [hh, HeadState.loaded])
  next hh =>
    rw [send_interlock]
    exact actRecalibrate_moves _ (by simpa using hheard) (by simpa using hl (by simp [hh, HeadState.loaded]))
  · exact hheard
  next hh => exact actSettleWedge_moves _ _ hheard (hl (by simp [hh, HeadState.loaded]))
  next hh => exact actReacquire_moves _ hheard (hl (by simp [hh, HeadState.loaded]))

@[simp] theorem actPlanEnd_moves (h : c.Moves s.interlock) : c.Moves (actPlanEnd s).interlock := by
  unfold actPlanEnd
  split
  next hh => exact actHead_steers (by simpa using h) (by simp [hh.1, HeadState.loaded]) rfl
  next => exact h

@[simp] theorem actSettleEnd_moves (h : c.Moves s.interlock) : c.Moves (actSettleEnd s).interlock := by
  unfold actSettleEnd
  split
  next hh => exact actArrive_moves h (by simp [hh.1, HeadState.loaded])
  next => exact h

@[simp] theorem actSeekTimeout_moves (h : c.Moves s.interlock) : c.Moves (actSeekTimeout s).interlock := by
  unfold actSeekTimeout
  split
  next hh => exact actFail_moves h (by obtain ⟨hh | hh, -⟩ := hh <;> simp [hh, HeadState.loaded])
  next => exact h

@[simp] theorem actStage1_moves (h : c.Moves s.interlock) : c.Moves (actStage1 s).interlock := by
  unfold actStage1
  split
  next hh =>
    exact actHead_steers (by simpa using h) (by obtain ⟨hh | hh | hh, -⟩ := hh <;> simp [hh, HeadState.loaded]) rfl
  next => exact h

@[simp] theorem actStage2_moves (h : c.Moves s.interlock) : c.Moves (actStage2 s).interlock := by
  unfold actStage2
  split
  next hh =>
    rw [send_interlock]
    exact actEnterUnloading_moves _ (by simpa using h) (by simp [hh.1, HeadState.loaded])
  next => exact h

/-! ## Spindle Controller -/

@[simp] theorem spcTell_interlock (st : SpindleState) (s : State) : (spcTell st s).interlock =
    { s.interlock with spc := { s.spc with state := st },
                       permission := s.act.permission && decide (st = .locked) } := rfl

@[simp] theorem spcTell_spc (st : SpindleState) (s : State) : (spcTell st s).spc = { s.spc with state := st } := rfl

@[simp] theorem spcTell_act (st : SpindleState) (s : State) :
    (spcTell st s).act = { s.act with permission := s.act.permission && decide (st = .locked) } := rfl

/-- R13: what SPC notes of its waiters and of a held start. -/
theorem spcDropHeld_interlock (s : State) :
    (spcDropHeld s).interlock = { s.interlock with spc := { s.spc with heldStart := none } } := by
  obtain ⟨_, -, e⟩ | ⟨hn, e⟩ := spcDropHeld_cases s
  · rw [e]; rfl
  · rw [e, ← hn]; rfl

@[simp] theorem spcDropHeld_spc (s : State) : (spcDropHeld s).spc = { s.spc with heldStart := none } :=
  congrArg Interlock.spc (spcDropHeld_interlock s)

theorem setWait_eq (p : Spc) (x : Requester) (b : Bool) : p.setWait x b =
    { p with waitPwr := if x = .pwr then b else p.waitPwr, waitRcv := if x = .rcv then b else p.waitRcv } := by
  cases x <;> simp [Spc.setWait]

@[simp] theorem spcDropHeld_moves (h : c.Moves s.interlock) : c.Moves (spcDropHeld s).interlock := by
  rw [spcDropHeld_interlock]
  exact h.step (.noted s.spc.interval s.spc.waitPwr s.spc.waitRcv none)

@[simp] theorem spcJoin_moves (x : Requester) (h : c.Moves s.interlock) : c.Moves (spcJoin x s).interlock := by
  rw [spcJoin, updSpc_interlock, setWait_eq]
  exact (spcDropHeld_moves h).step (.noted _ _ _ _)

@[simp] theorem spcLeaveWait_moves (x : Requester) (h : c.Moves s.interlock) :
    c.Moves (spcLeaveWait x s).interlock := by
  obtain ⟨-, e⟩ | ⟨-, e⟩ := spcLeaveWait_cases x s
  · rw [e, setWait_eq]
    exact h.step (.noted s.spc.interval _ _ s.spc.heldStart)
  · rwa [e]

@[simp] theorem spcLeaveWait_state (x : Requester) (s : State) : (spcLeaveWait x s).spc.state = s.spc.state := by
  obtain ⟨-, e⟩ | ⟨-, e⟩ := spcLeaveWait_cases x s
  · rw [e, setWait_eq]
  · rw [e]

theorem spcTakeStart_moves (h : c.Moves s.interlock)
    (hs : s.spc.state = .stopped ∧ s.rcv.latch = .locked ∨ s.spc.state = .spinFault ∨ s.spc.state = .braking) :
    c.Moves (spcTakeStart s).interlock := by
  have e : (spcTakeStart s).interlock =
      { s.interlock with spc := s.spc.started (longPurge s), permission := false } := by
    simp [spcTakeStart, Spc.started, updSpc_interlock]
  rw [e]
  exact h.step (.started _ hs)

/-- R9, R10, R13. -/
@[simp] theorem spcStart_moves (x : Requester) (h : c.Moves s.interlock) : c.Moves (spcStart x s).1.interlock := by
  obtain ⟨e, hs, hl⟩ | ⟨e, hs, -⟩ | ⟨e, -⟩ | ⟨e, -⟩ | ⟨e, -⟩ | ⟨e, -⟩ := spcStart_cases x s <;> rw [e]
  · exact spcTakeStart_moves h (.inl ⟨hs, hl⟩)
  · exact spcTakeStart_moves (spcLeaveWait_moves x h) (.inr (.inl (by simpa using hs)))
  · exact h
  · exact h
  · exact h
  · exact (spcLeaveWait_moves x h).step (.noted _ _ _ (some x))

/-- R14: what a taken stop does to the interlock, under heads on the ramp or with PWR's own cause. -/
theorem spcEnterBraking_moves (cause : StopCause) (h : c.Moves s.interlock) (ht : s.spc.state.turning = true)
    (hh : s.act.head.loaded = false ∨ s.pwr.descent = some .supply) :
    c.Moves (spcEnterBraking cause s).interlock := by
  simpa [spcEnterBraking, updSpc_interlock] using h.step (.braked cause ht hh)

/-- R11 to R14: a stop is sent with heads on the ramp wherever its cause is SUPPLY, but for PWR's own cause. -/
theorem spcStop_moves (x : Requester) {cause : StopCause} (h : c.Moves s.interlock)
    (hc : cause = .supply → s.act.head.loaded = false ∨ s.pwr.descent = some .supply) :
    c.Moves (spcStop x cause s).1.interlock := by
  obtain ⟨e, -⟩ | ⟨e, ht, hh⟩ | ⟨e, -⟩ | ⟨e, -⟩ | ⟨e, hs, hq⟩ := spcStop_cases x cause s <;> rw [e]
  · exact h
  · have ei : (spcJoin x s).interlock =
        { s.interlock with spc := { s.spc with heldStart := none }.setWait x true } := by
      simp [spcJoin, updSpc_interlock, spcDropHeld_interlock]
    refine spcEnterBraking_moves cause (spcJoin_moves x h) ?_ ?_
    · simpa [spcJoin, setWait_eq] using ht
    · have hh' : s.act.head.loaded = false ∨ s.pwr.descent = some .supply := by
        obtain hp | hp | hp := hh
        · simp [hp, HeadState.loaded]
        · simp [hp, HeadState.loaded]
        · exact hc hp
      rw [← interlock_head, ← interlock_descent, ei]
      exact hh'
  · exact h
  · exact spcJoin_moves x h
  · simpa [updSpc_interlock, spcDropHeld_interlock] using h.step (.faultLeft hs hq)

@[simp] theorem spcAnswerStopped_interlock (s : State) : (spcAnswerStopped s).interlock =
    { s.interlock with spc := { s.spc with waitPwr := false, waitRcv := false } } := by
  unfold spcAnswerStopped
  dsimp only
  split <;> split <;> rfl

theorem spcTakeStart_interlock (s : State) : (spcTakeStart s).interlock =
    { s.interlock with spc := s.spc.started (longPurge s), permission := false } := by
  simp [spcTakeStart, Spc.started, updSpc_interlock]

/-- R14: the spindle is STOPPED, and with a start held it starts at once. -/
@[simp] theorem spcStopped_moves (h : c.Moves s.interlock) (hs : s.spc.state = .braking) :
    c.Moves (spcStopped s).interlock := by
  unfold spcStopped
  extract_lets t
  have ht : t.interlock = { s.interlock with
      spc := { s.spc with state := .stopped, level := 0, brake := false, brakeTimer := none, waitPwr := false,
                          waitRcv := false }
      permission := false } := by simp [t, updSpc_interlock]
  split
  · rw [spcTakeStart_interlock, ht, ← interlock_spc t, ht]
    exact h.step (.started _ (.inr (.inr hs)))
  · rw [ht]
    exact (h.step (.stopped hs)).step (.noted s.spc.interval false false s.spc.heldStart)

@[simp] theorem spcConfirmed_moves (h : c.Moves s.interlock) (hs : s.spc.state = .spinFault) :
    c.Moves (spcConfirmed s).interlock := by
  unfold spcConfirmed
  split
  · simpa [updSpc_interlock] using
      (h.step (.stoppedInFault hs)).step (.noted s.spc.interval false false s.spc.heldStart)
  · exact h.step (.confirmed hs)

/-- R14, R18: the stop test moves as what it passes to does. -/
theorem spcStopTest_moves (saturated : Bool) {passed : State → State} (h : c.Moves s.interlock)
    (hp : ∀ t : State, c.Moves t.interlock → t.spc.state = s.spc.state → c.Moves (passed t).interlock) :
    c.Moves (spcStopTest saturated passed s).interlock := by
  obtain ⟨-, e⟩ | ⟨-, hn, e⟩ | ⟨-, -, e⟩ := spcStopTest_cases saturated passed s <;> rw [e]
  · exact h.step (.stopTested 0 (by omega))
  · exact h.step (.stopTested (s.spc.satRun + 1) (by omega))
  · exact hp _ (h.step (.stopTested 6 (by omega))) rfl

@[simp] theorem spcStopInput_moves (saturated : Bool) (h : c.Moves s.interlock) :
    c.Moves (spcStopInput saturated s).interlock := by
  unfold spcStopInput
  split
  next hs => exact spcStopTest_moves _ h fun t ht e => spcStopped_moves ht (e.trans hs)
  next hs =>
    split
    · exact h
    · exact spcStopTest_moves _ h fun t ht e => spcConfirmed_moves ht (e.trans hs)
  all_goals exact h

/-- R4 to R6: an interval in LOCKING ends at lock, at the eighth slow one, or at neither. -/
theorem spcLockingInterval_eq (t : Nat) (s : State) : spcLockingInterval t s =
    if 24 ≤ (s.spc.lockingTick t).inRun then
      spcTell .locked (s.updSpc fun p =>
        { p.lockingTick t with outRun := 0, startTimer := none, relockTimer := none })
    else if 8 ≤ (s.spc.lockingTick t).slowRun then
      spcTell .accelerating (s.updSpc fun p => { p.lockingTick t with level := 255, inRun := 0, slowRun := 0 })
    else s.updSpc (Spc.lockingTick t) := rfl

@[simp] theorem spcLockingInterval_moves (t : Nat) (h : c.Moves s.interlock) (hs : s.spc.state = .locking) :
    c.Moves (spcLockingInterval t s).interlock := by
  rw [spcLockingInterval_eq]
  split
  next => simpa [updSpc_interlock] using h.step (.lockGained t hs)
  next hin =>
    split
    next => simpa [updSpc_interlock] using h.step (.slowed t hs)
    next hslow => exact h.step (.regulated t hs (by simpa using hin) (by simpa using hslow))

/-- R8, R32: the lock loss over loaded heads has them unload. -/
theorem spcLockLossActs_interlock (s : State) : (spcLockLossActs s).interlock =
    { s.interlock with head := if s.act.head.loaded = true then .unloading else s.act.head } := by
  unfold spcLockLossActs
  by_cases hl : s.act.head.loaded = true
  · simp [hl, actUnload, actEnterUnloading, Act.leave]
  · simp [hl, State.interlock]

/-- R4, R7, R8: an interval in LOCKED keeps lock or loses it. -/
theorem spcLockedInterval_eq (t : Nat) (s : State) : spcLockedInterval t s =
    if 4 ≤ (s.spc.lockedTick t).outRun then
      spcLockLossActs (spcTell .locking (s.updSpc fun p =>
        { p.lockedTick t with inRun := 0, slowRun := 0, relockTimer := some 5000000 }))
    else s.updSpc (Spc.lockedTick t) := rfl

@[simp] theorem spcLockedInterval_moves (t : Nat) (h : c.Moves s.interlock) (hs : s.spc.state = .locked) :
    c.Moves (spcLockedInterval t s).interlock := by
  rw [spcLockedInterval_eq]
  split
  next =>
    have m := h.step (.lockLost t hs)
    rw [spcLockLossActs_interlock]
    by_cases hl : s.act.head.loaded = true <;> simpa [updSpc_interlock, hl] using m
  next hout => exact h.step (.lockKept t hs (by simpa using hout))

/-- R2. -/
@[simp] theorem spcInterval_moves (t : Nat) (saturated : Bool) (h : c.Moves s.interlock) :
    c.Moves (spcInterval t saturated s).interlock := by
  unfold spcInterval
  split
  next => exact h
  next hs =>
    split
    · simpa [updSpc_interlock] using h.step (.upToSpeed hs)
    · exact h
  next hs => exact spcLockingInterval_moves t h hs
  next hs => exact spcLockedInterval_moves t h hs
  all_goals exact spcStopInput_moves _ h

/-- R19: the purge count of a pulse. -/
theorem spcPurgePulse_eq (s : State) : spcPurgePulse s =
    if s.spc.state = .locking ∨ s.spc.state = .locked then s.updSpc Spc.counted else s := by
  have hcount : (if s.spc.purge = 0 then s
      else if s.spc.purgePulses ≥ 7 then s.updSpc fun p => { p with purge := p.purge - 1, purgePulses := 0 }
      else s.updSpc fun p => { p with purgePulses := p.purgePulses + 1 }) = s.updSpc Spc.counted := by
    by_cases h0 : s.spc.purge = 0
    · simp [h0, State.updSpc, Spc.counted]
    · by_cases h7 : s.spc.purgePulses < 7
      · simp [h0, h7, State.updSpc, Spc.counted]
      · simp [h0, h7, State.updSpc, Spc.counted, Nat.not_lt.1 h7]
  unfold spcPurgePulse
  split
  next hs => simpa [hs] using hcount
  next hs => simpa [hs] using hcount
  next h1 h2 => rw [if_neg (by tauto)]

@[simp] theorem spcPurgePulse_moves (h : c.Moves s.interlock) : c.Moves (spcPurgePulse s).interlock := by
  rw [spcPurgePulse_eq]
  split
  · exact h.step .counted
  · exact h

@[simp] theorem spcPermit_moves (was : Bool) (h : c.Moves s.interlock) : c.Moves (spcPermit was s).interlock := by
  unfold spcPermit
  split
  next hp =>
    obtain ⟨hs, hz⟩ : s.spc.state = .locked ∧ s.spc.purge = 0 := by simpa [loadPermission] using hp.2
    exact actPermit_moves h hs hz
  next => exact h

theorem interval_moves (h : c.Moves s.interlock) :
    c.Moves (s.updSpc fun p => { p with interval := 0 }).interlock :=
  h.step (.noted 0 s.spc.waitPwr s.spc.waitRcv s.spc.heldStart)

@[simp] theorem spcTachPulse_moves (ticks : Nat) (h : c.Moves s.interlock) :
    c.Moves (spcTachPulse ticks s).interlock := by
  have hu := spcPurgePulse_moves (interval_moves h)
  unfold spcTachPulse
  apply spcPermit_moves
  split
  · exact spcStopInput_moves _ hu
  · exact spcInterval_moves _ _ hu

@[simp] theorem spcSaturated_moves (h : c.Moves s.interlock) : c.Moves (spcSaturated s).interlock :=
  spcPermit_moves _ (spcInterval_moves _ _ (interval_moves h))

/-- R18. -/
theorem spcSpinFault_moves (h : c.Moves s.interlock)
    (hs : s.spc.state = .accelerating ∨ s.spc.state = .locking ∨ s.spc.state = .braking) :
    c.Moves (spcSpinFault s).interlock := by
  have m := h.step (.faulted hs)
  by_cases hb : s.spc.state = .braking <;> simpa [spcSpinFault, updSpc_interlock, hb] using m

@[simp] theorem spcStartExpiry_moves (h : c.Moves s.interlock) : c.Moves (spcStartExpiry s).interlock := by
  unfold spcStartExpiry
  split
  next hs => exact spcSpinFault_moves h (by tauto)
  next => exact h

@[simp] theorem spcRelockExpiry_moves (h : c.Moves s.interlock) : c.Moves (spcRelockExpiry s).interlock := by
  unfold spcRelockExpiry
  split
  next hs => exact spcSpinFault_moves h (by tauto)
  next => exact h

@[simp] theorem spcBrakeExpiry_moves (h : c.Moves s.interlock) : c.Moves (spcBrakeExpiry s).interlock := by
  unfold spcBrakeExpiry
  split
  next hs => exact spcSpinFault_moves h (by tauto)
  next => exact h

/-! ## Volume Manager -/

@[simp] theorem volLeave_interlock (s : State) : (volLeave s).interlock = s.interlock := rfl
@[simp] theorem volRemoved_interlock (s : State) : (volRemoved s).interlock = s.interlock := rfl
@[simp] theorem volJammed_interlock (s : State) : (volJammed s).interlock = s.interlock := rfl
@[simp] theorem volWindowEnded_interlock (s : State) : (volWindowEnded s).interlock = s.interlock := rfl
@[simp] theorem volInserted_interlock (s : State) : (volInserted s).interlock = s.interlock := rfl
@[simp] theorem volFirstReport_interlock (b : Bool) (s : State) : (volFirstReport b s).interlock = s.interlock := rfl
@[simp] theorem volLoaded_interlock (s : State) : (volLoaded s).interlock = s.interlock := rfl

@[simp] theorem passRelease_interlock (p : Pass) (s : State) : (passRelease p s).interlock = s.interlock := by
  unfold passRelease
  dsimp only
  split <;> simp

@[simp] theorem volAbandon_interlock (code : EndCode) (s : State) : (volAbandon code s).interlock = s.interlock := by
  unfold volAbandon
  dsimp only
  split
  · rfl
  · split <;> simp

@[simp] theorem volDormant_interlock (s : State) : (volDormant s).interlock = s.interlock := by simp [volDormant]

@[simp] theorem passSeek_moves (h : c.Moves s.interlock) : c.Moves (passSeek s).interlock := by
  unfold passSeek
  split
  · exact h
  next p _ =>
    have hm := actSeek_moves .vol { cylinder := 0, comb := 2 * p.volume.toNat } h
    split <;> (rename_i e; rw [e] at hm; simpa using hm)

@[simp] theorem passWithdraw_interlock (p : Pass) (s : State) : (passWithdraw p s).interlock = s.interlock := by
  unfold passWithdraw
  dsimp only
  split <;> simp

@[simp] theorem passGrant_moves (v : Vol) (lent : Bool) (h : c.Moves s.interlock) :
    c.Moves (passGrant v lent s).interlock := by
  unfold passGrant
  extract_lets block p t u
  have hu : c.Moves u.interlock := by
    simp only [u]
    split <;> simpa [t] using h
  split
  case _ | _ | _ | _ => exact passSeek_moves hu
  all_goals
    split
    · exact actRequestLoad_moves _ _ hu
    · simpa using hu

@[simp] theorem passEnd_interlock (st : VolState) (hc : Option HeaderContents) (s : State) :
    (passEnd st hc s).interlock = s.interlock := by
  unfold passEnd
  split <;> simp

@[simp] theorem passRead_interlock (p : Pass) (s : State) : (passRead p s).interlock = s.interlock := by
  unfold passRead
  dsimp only
  split
  · split <;> simp
  · simp

@[simp] theorem passClosed_interlock (slot : Nat) (seen : IdentitySeen) (off : Bool) (out : ReadOutcome)
    (data : List Byte) (s : State) : (passClosed slot seen off out data s).interlock = s.interlock := by
  unfold passClosed
  dsimp only
  split
  · rfl
  · split
    · simp
    · split <;> simp

@[simp] theorem passBoundary_interlock (s : State) : (passBoundary s).interlock = s.interlock := by
  unfold passBoundary
  split <;> simp

@[simp] theorem passLoaded_moves (h : c.Moves s.interlock) : c.Moves (passLoaded s).interlock := by
  unfold passLoaded
  split
  · split
    · exact passSeek_moves h
    · exact h
  · exact h

@[simp] theorem passSeekAnswer_interlock (x : SeekAnswer) (s : State) :
    (passSeekAnswer x s).interlock = s.interlock := by
  unfold passSeekAnswer
  split
  · split
    · split <;> simp
    · rfl
  · rfl

@[simp] theorem passHead_moves (now : HeadState) (h : c.Moves s.interlock) : c.Moves (passHead now s).interlock := by
  unfold passHead
  split
  · exact h
  · split
    · split
      · exact passSeek_moves h
      · exact h
    case _ | _ => split <;> simpa using h
    all_goals exact h

@[simp] theorem passSpinFault_interlock (s : State) : (passSpinFault s).interlock = s.interlock := by
  unfold passSpinFault
  split
  · split <;> simp
  · rfl

/-! ## Receiver Controller -/

@[simp] theorem rcvLock_moves (h : c.Moves s.interlock) : c.Moves (rcvLock s).interlock := h.step .latched

/-- R142, R151, R152. -/
@[simp] theorem rcvEnterReleasing_moves (h : c.Moves s.interlock) : c.Moves (rcvEnterReleasing s).interlock := by
  obtain ⟨hs, hp, -, e⟩ | ⟨hs, hp, -, e⟩ | ⟨hg, e⟩ := rcvEnterReleasing_cases s <;> rw [e]
  · exact h.step (.released .doorOpen hs hp (.inr rfl))
  · exact h.step (.released .releasing hs hp (.inl rfl))
  · exact h.step (.staged .unloading (.inr (.inr hg)))

@[simp] theorem spcDropHeld_rcv (s : State) : (spcDropHeld s).rcv = s.rcv := by
  obtain ⟨_, -, e⟩ | ⟨-, e⟩ := spcDropHeld_cases s <;> rw [e]

/-- SPC writes no receiver record. -/
@[simp] theorem spcStop_rcv (x : Requester) (cause : StopCause) (s : State) : (spcStop x cause s).1.rcv = s.rcv := by
  obtain ⟨e, -⟩ | ⟨e, -⟩ | ⟨e, -⟩ | ⟨e, -⟩ | ⟨e, -⟩ := spcStop_cases x cause s <;> rw [e] <;>
    simp [spcEnterBraking, spcTell, spcJoin]

theorem rcvStopCause_ne_supply (r : Rcv) : rcvStopCause r ≠ .supply := by
  unfold rcvStopCause
  split <;> simp

/-- R150. -/
theorem rcvEnterStopping_moves (h : c.Moves s.interlock)
    (hg : s.rcv.stage ≠ .releasing ∧ s.rcv.stage ≠ .doorOpen) : c.Moves (rcvEnterStopping s).interlock := by
  unfold rcvEnterStopping
  set u := s.updRcv fun r => { r with stage := .stopping }
  have ht := spcStop_moves .rcv (h.step (.staged .stopping (.inr (.inl hg))) : c.Moves u.interlock)
    (cause := rcvStopCause s.rcv) (fun hc => absurd hc (rcvStopCause_ne_supply _))
  have hr : (spcStop .rcv (rcvStopCause s.rcv) u).1.rcv.stage ≠ .releasing ∧
      (spcStop .rcv (rcvStopCause s.rcv) u).1.rcv.stage ≠ .doorOpen := by simp [u]
  split <;> (rename_i e; rw [e] at ht hr)
  · exact rcvEnterReleasing_moves ht
  · exact ht
  · exact actUnload_moves (ht.step (.staged .unloading (.inr (.inl hr))))

/-- R149. -/
theorem rcvEnterUnloading_moves (h : c.Moves s.interlock)
    (hg : s.rcv.stage ≠ .releasing ∧ s.rcv.stage ≠ .doorOpen) : c.Moves (rcvEnterUnloading s).interlock := by
  have ht : c.Moves (s.updRcv fun r => { r with stage := .unloading }).interlock :=
    h.step (.staged .unloading (.inr (.inl hg)))
  unfold rcvEnterUnloading
  dsimp only
  split
  · exact rcvEnterStopping_moves ht (by simp)
  · exact actUnload_moves ht

/-- R147. -/
theorem rcvStart_moves (source : EjectSource) (h : c.Moves s.interlock) (hg : s.rcv.stage = .none) :
    c.Moves (rcvStart source s).interlock :=
  h.step (.staged .draining (.inr (.inl (by simp [hg]))))

/-- R153. -/
theorem rcvEnd_moves (h : c.Moves s.interlock) (hl : s.rcv.latch = .locked) : c.Moves (rcvEnd s).interlock := by
  have ht : c.Moves (s.updRcv fun r => { r with stage := .none, purpose := none, source := none }).interlock :=
    h.step (.staged .none (.inl hl))
  unfold rcvEnd
  dsimp only
  rw [send_interlock]
  split
  · exact spcStart_moves _ ht
  · exact ht

@[simp] theorem rcvRemoval_moves (h : c.Moves s.interlock) : c.Moves (rcvRemoval s).interlock :=
  rcvEnd_moves (by simpa using rcvLock_moves h) rfl

@[simp] theorem rcvJam_moves (h : c.Moves s.interlock) : c.Moves (rcvJam s).interlock :=
  rcvEnd_moves (by simpa using rcvLock_moves h) rfl

@[simp] theorem rcvInsertion_moves (h : c.Moves s.interlock) : c.Moves (rcvInsertion s).interlock :=
  rcvEnd_moves (by simpa using rcvLock_moves h) rfl

@[simp] theorem rcvWindowEnd_moves (h : c.Moves s.interlock) : c.Moves (rcvWindowEnd s).interlock :=
  rcvEnd_moves (by simpa using rcvLock_moves h) rfl

@[simp] theorem rcvPresenceSwitch_moves (was closed : Bool) (h : c.Moves s.interlock) :
    c.Moves (rcvPresenceSwitch was closed s).interlock := by
  unfold rcvPresenceSwitch rcvSwitchDue
  split
  · exact h
  · split
    · split
      · exact rcvJam_moves (by simpa using h)
      · split
        · exact rcvWindowEnd_moves (by simpa using h)
        · simpa using h
    · simpa using h

@[simp] theorem rcvPresenceChange_moves (present : Bool) (h : c.Moves s.interlock) :
    c.Moves (rcvPresenceChange present s).interlock := by
  unfold rcvPresenceChange
  dsimp only
  split
  · exact rcvRemoval_moves (by simpa using h)
  · split
    · exact rcvInsertion_moves (by simpa using h)
    · simpa using h

@[simp] theorem rcvPresenceDebounced_moves (h : c.Moves s.interlock) :
    c.Moves (rcvPresenceDebounced s).interlock := by
  unfold rcvPresenceDebounced
  dsimp only
  split
  · split
    · simpa using h
    · split
      · exact rcvPresenceChange_moves _ (by simpa using h)
      · simpa using h
  · exact h

@[simp] theorem rcvRemovalExpiry_moves (h : c.Moves s.interlock) : c.Moves (rcvRemovalExpiry s).interlock := by
  unfold rcvRemovalExpiry
  dsimp only
  split
  · split
    · exact rcvJam_moves (by simpa using h)
    · simpa using h
  · exact h

@[simp] theorem rcvWindowExpiry_moves (h : c.Moves s.interlock) : c.Moves (rcvWindowExpiry s).interlock := by
  unfold rcvWindowExpiry
  dsimp only
  split
  · split
    · exact rcvWindowEnd_moves (by simpa using h)
    · simpa using h
  · exact h

@[simp] theorem rcvButtonSwitch_interlock (was pressed : Bool) (s : State) :
    (rcvButtonSwitch was pressed s).interlock = s.interlock := by
  unfold rcvButtonSwitch
  split
  · rfl
  · exact interlock_congr rfl rfl rfl rfl rfl rfl

@[simp] theorem rcvPress_moves (h : c.Moves s.interlock) : c.Moves (rcvPress s).interlock := by
  unfold rcvPress
  dsimp only
  split
  · exact h
  · split
    · simpa using h
    next hg =>
      split
      · simpa using h
      · exact rcvStart_moves _ (by simpa using h) (by simpa using hg)

@[simp] theorem rcvButtonDebounced_moves (h : c.Moves s.interlock) : c.Moves (rcvButtonDebounced s).interlock := by
  unfold rcvButtonDebounced
  dsimp only
  split
  · split
    · simpa using h
    · split
      · exact rcvPress_moves (by simpa using h)
      · simpa using h
  · exact h

@[simp] theorem rcvHoldExpiry_moves (h : c.Moves s.interlock) : c.Moves (rcvHoldExpiry s).interlock := by
  unfold rcvHoldExpiry
  dsimp only
  split
  · split
    · simpa using h
    next hg => split <;> exact rcvStart_moves _ (by simpa using h) (by simpa using hg)
  · exact h

@[simp] theorem rcvRefusalExpiry_interlock (s : State) : (rcvRefusalExpiry s).interlock = s.interlock := by
  simp [rcvRefusalExpiry]

@[simp] theorem rcvEject_moves (tag : Nat) (h : c.Moves s.interlock) : c.Moves (rcvEject tag s).1.interlock := by
  unfold rcvEject
  dsimp only
  split
  · simpa using h
  · split
    · simpa using h
    · split
      next hg => exact rcvStart_moves _ (by simpa using h) (by simpa using hg)
      next => simpa using h

@[simp] theorem rcvHold_interlock (s : State) : (rcvHold s).1.interlock = s.interlock := by
  unfold rcvHold
  split
  · rfl
  · rfl
  · split
    · rfl
    · simp

@[simp] theorem rcvRelease_interlock (s : State) : (rcvRelease s).interlock = s.interlock := by simp [rcvRelease]

@[simp] theorem rcvSupplyFault_moves (h : c.Moves s.interlock) : c.Moves (rcvSupplyFault s).interlock := by
  unfold rcvSupplyFault
  dsimp only
  split
  case _ | _ => exact rcvLock_moves (by simpa using h)
  all_goals simpa using h

@[simp] theorem rcvSupplyRecovery_moves (h : c.Moves s.interlock) : c.Moves (rcvSupplyRecovery s).interlock := by
  have ht : c.Moves (s.updRcv fun r => { r with pause := false }).interlock := by simpa using h
  unfold rcvSupplyRecovery
  dsimp only
  split
  · exact ht
  · exact ht
  next hg => exact rcvEnterUnloading_moves ht (by simp [hg])
  next hg => exact rcvEnterStopping_moves ht (by simp [hg])
  · exact rcvEnterReleasing_moves ht
  · exact rcvEnterReleasing_moves ht

@[simp] theorem rcvParked_moves (h : c.Moves s.interlock) : c.Moves (rcvParked s).interlock := by
  unfold rcvParked
  split
  next hg => exact rcvEnterStopping_moves h (by simp [hg.1])
  next => exact h

@[simp] theorem rcvStopped_moves (h : c.Moves s.interlock) : c.Moves (rcvStopped s).interlock := by
  unfold rcvStopped
  split
  · exact rcvEnterReleasing_moves h
  · exact h

@[simp] theorem rcvReenter_moves (h : c.Moves s.interlock) : c.Moves (rcvReenter s).interlock := by
  unfold rcvReenter
  split
  next hg => exact rcvEnterUnloading_moves h (by simp [hg.1])
  next => exact h

/-! ## Power Manager -/

/-- R158: PWR's descent cause becomes HOST ORDER or IDLE, or ends. -/
theorem updPwr_descends {f : Pwr → Pwr} (h : c.Moves s.interlock)
    (hd : ∀ x ∈ (f s.pwr).descent, x = .hostOrder ∨ x = .idle) : c.Moves (s.updPwr f).interlock :=
  h.step (.descends (f s.pwr).descent hd)

@[simp] theorem pwrSetState_interlock (p : PowerState) (s : State) : (pwrSetState p s).interlock = s.interlock := by
  obtain ⟨-, e⟩ | ⟨-, -, e⟩ | ⟨-, -, e⟩ := pwrSetState_cases p s <;> rw [e]
  · rfl
  · rfl

@[simp] theorem pwrAtTarget_moves (h : c.Moves s.interlock) : c.Moves (pwrAtTarget s).interlock := by
  have ht : c.Moves (s.updPwr fun w => { w with progress := .none, descent := none }).interlock :=
    updPwr_descends h (by simp)
  unfold pwrAtTarget
  dsimp only
  split <;> simpa using ht

/-- R161: PWR's stop carries its descent cause. -/
@[simp] theorem pwrStopStep_moves (h : c.Moves s.interlock) : c.Moves (pwrStopStep s).interlock := by
  have ht := spcStop_moves .pwr h (cause := s.pwr.descent.getD .idle) (by cases s.pwr.descent <;> simp +contextual)
  unfold pwrStopStep
  split <;> (rename_i e; rw [e] at ht)
  · exact pwrAtTarget_moves ht
  · simpa using ht
  · simpa using ht

@[simp] theorem pwrParkedStep_moves (h : c.Moves s.interlock) : c.Moves (pwrParkedStep s).interlock := by
  unfold pwrParkedStep
  split
  · exact pwrAtTarget_moves h
  · exact pwrStopStep_moves h
  · exact pwrStopStep_moves h
  · simpa using h
  · simpa using h

theorem pwrMoveDown_moves (level : PowerState) {cause : StopCause} (h : c.Moves s.interlock)
    (hc : cause = .hostOrder ∨ cause = .idle) : c.Moves (pwrMoveDown level cause s).interlock := by
  have ht : c.Moves (s.updPwr fun w => { w with target := level, descent := some cause }).interlock :=
    updPwr_descends h (by simpa using hc)
  unfold pwrMoveDown
  dsimp only
  split
  · exact pwrParkedStep_moves ht
  · simpa using ht

@[simp] theorem pwrWake_moves (h : c.Moves s.interlock) : c.Moves (pwrWake s).interlock := by
  unfold pwrWake
  split
  · exact h
  · exact spcStart_moves _ (updPwr_descends h (by simp))

@[simp] theorem pwrLoading_moves (h : c.Moves s.interlock) : c.Moves (pwrLoading s).interlock := by
  have ht : c.Moves (s.updPwr fun w => { w with target := .active, progress := .none, descent := none }).interlock :=
    updPwr_descends h (by simp)
  unfold pwrLoading
  dsimp only
  split <;> simpa using ht

@[simp] theorem pwrParked_moves (h : c.Moves s.interlock) : c.Moves (pwrParked s).interlock := by
  unfold pwrParked
  split
  · exact pwrParkedStep_moves h
  · exact h

@[simp] theorem pwrLocked_interlock (s : State) : (pwrLocked s).interlock = s.interlock := by
  unfold pwrLocked
  split
  · simp
  · split <;> simp

@[simp] theorem pwrPositionLost_moves (h : c.Moves s.interlock) : c.Moves (pwrPositionLost s).interlock := by
  unfold pwrPositionLost
  split
  · exact updPwr_descends h (by simp)
  · exact h

@[simp] theorem pwrSpinFault_moves (h : c.Moves s.interlock) : c.Moves (pwrSpinFault s).interlock := by
  unfold pwrSpinFault
  split
  · exact h
  · rw [pwrSetState_interlock]
    by_cases hb : s.pwr.target.atSpinFault.below s.pwr.atSpinFault = true
    · have e : (s.updPwr fun w =>
          { w with target := w.target.atSpinFault,
                   progress := if w.progress = .waitSpin then .none else w.progress,
                   descent := if w.target.atSpinFault.below w.atSpinFault then w.descent else none }).interlock =
          s.interlock := interlock_congr rfl rfl rfl rfl rfl (by simp [hb])
      rwa [e]
    · exact updPwr_descends h (by simp [hb])

@[simp] theorem pwrSpindle_moves (st : SpindleState) (h : c.Moves s.interlock) :
    c.Moves (pwrSpindle st s).interlock := by
  unfold pwrSpindle
  split <;> simp [h]

@[simp] theorem pwrStopped_moves (h : c.Moves s.interlock) : c.Moves (pwrStopped s).interlock := by
  unfold pwrStopped
  split
  · split
    · simpa using h
    · exact pwrAtTarget_moves h
  · exact h

@[simp] theorem pwrIdleReset_interlock (s : State) : (pwrIdleReset s).interlock = s.interlock := by
  simp [pwrIdleReset]

@[simp] theorem pwrCompare_moves (h : c.Moves s.interlock) : c.Moves (pwrCompare s).interlock := by
  unfold pwrCompare
  split
  · split
    · exact pwrMoveDown_moves _ h (.inr rfl)
    · exact h
  · exact h

@[simp] theorem pwrTick_moves (h : c.Moves s.interlock) : c.Moves (pwrTick s).interlock := by
  unfold pwrTick
  split
  · exact pwrCompare_moves (s := s.updPwr Pwr.count) h
  · exact h

@[simp] theorem pwrLimitTick_moves (h : c.Moves s.interlock) : c.Moves (pwrLimitTick s).interlock := by
  unfold pwrLimitTick
  split
  · exact pwrTick_moves h
  · exact h

@[simp] theorem pwrLimits_interlock (a b d : Nat) (s : State) : (pwrLimits a b d s).interlock = s.interlock := by
  simp [pwrLimits]

@[simp] theorem pwrLinkReset_interlock (s : State) : (pwrLinkReset s).interlock = s.interlock := by
  simp [pwrLinkReset]

/-- R116, R168. -/
@[simp] theorem pwrSetPower_moves (p : PowerState) (h : c.Moves s.interlock) :
    c.Moves (pwrSetPower p s).1.interlock := by
  have hu : c.Moves (s.updPwr fun w => { w with setWait := some p }).interlock := by simpa using h
  unfold pwrSetPower
  dsimp only
  split
  · exact updPwr_descends h (by simp)
  · split
    · exact hu
    all_goals
      split
      · exact pwrMoveDown_moves _ hu (.inl rfl)
      · split
        · exact pwrWake_moves hu
        · split
          · exact pwrAtTarget_moves (by simpa using hu)
          · exact spcStart_moves _ (updPwr_descends hu (by simp))

theorem actRetract_not_loaded (s : State) : (actRetract s).act.head.loaded = false := by
  rw [← interlock_head, actRetract_interlock]
  by_cases hp : s.act.head = .parked <;> simp [hp, HeadState.loaded]

/-- R170: the spindle brakes under heads that retract. -/
@[simp] theorem pwrSupplyFault_moves (h : c.Moves s.interlock) : c.Moves (pwrSupplyFault s).interlock := by
  unfold pwrSupplyFault
  extract_lets t
  have ht : c.Moves (actRetract (t.send .supplyFault)).interlock := by
    refine actRetract_moves ?_
    rw [send_interlock]
    exact updPwr_descends h (by simp)
  have hm := spcStop_moves .pwr ht (cause := .supply) (fun _ => .inl (actRetract_not_loaded _))
  split <;> (rename_i e; rw [e] at hm; simpa using hm)

@[simp] theorem pwrFall_moves (h : c.Moves s.interlock) : c.Moves (pwrFall s).interlock := by
  unfold pwrFall
  split
  · exact pwrSupplyFault_moves h
  · exact h
  · simpa using h

@[simp] theorem pwrRise_interlock (s : State) : (pwrRise s).interlock = s.interlock := by
  unfold pwrRise
  split <;> simp

@[simp] theorem pwrHoldOffExpiry_moves (h : c.Moves s.interlock) : c.Moves (pwrHoldOffExpiry s).interlock := by
  unfold pwrHoldOffExpiry pwrRecovery
  split
  · simpa using rcvSupplyRecovery_moves (by simpa using h)
  · exact h

/-! ## Block Buffer -/

@[simp] theorem reserveRead_interlock {tag sequence : Nat} {s t : State} (h : reserveRead tag sequence s = some t) :
    t.interlock = s.interlock := by
  obtain ⟨-, e⟩ | ⟨i, -, e⟩ | ⟨-, e⟩ := reserveRead_cases tag sequence s <;> rw [e] at h <;> cases h <;> rfl

@[simp] theorem fillRead_interlock (tag order sequence length : Nat) (check : Bool) (data : List Byte) (s : State) :
    (fillRead tag order sequence length check data s).interlock = s.interlock := by
  unfold fillRead
  split <;> rfl

@[simp] theorem slotDelivered_interlock (s : State) : (slotDelivered s).interlock = s.interlock := by
  unfold slotDelivered
  split
  · split <;> rfl
  · rfl

@[simp] theorem reserveEach_interlock (tag : Nat) (qs : List Nat) (s : State) :
    (reserveEach tag qs s).interlock = s.interlock := by
  induction qs generalizing s with
  | nil => rfl
  | cons q qs ih =>
    unfold reserveEach
    split
    · rw [ih]; rfl
    · rfl

@[simp] theorem reserveWrite_interlock (ch : Chain) (s : State) : (reserveWrite ch s).interlock = s.interlock := by
  unfold reserveWrite
  dsimp only
  split <;> simp

@[simp] theorem fillWrite_interlock (tag sequence : Nat) (data : List Byte) (s : State) :
    (fillWrite tag sequence data s).interlock = s.interlock := by
  unfold fillWrite
  split <;> rfl

@[simp] theorem freeWritten_interlock (tag sequence : Nat) (s : State) :
    (freeWritten tag sequence s).interlock = s.interlock := by
  unfold freeWritten
  split <;> rfl

@[simp] theorem wantDelivered_interlock (s : State) : (wantDelivered s).interlock = s.interlock := by
  unfold wantDelivered
  split
  · split <;> rfl
  · rfl

@[simp] theorem bbfChainEnd_interlock (tag : Nat) (s : State) : (bbfChainEnd tag s).interlock = s.interlock := rfl

/-! ## The order that holds the mechanism -/

@[simp] theorem updJobChain_interlock (j : Job) (f : Chain → Chain) (s : State) :
    (updJobChain j f s).interlock = s.interlock := by
  unfold updJobChain
  split <;> rfl

@[simp] theorem jobEnd_interlock (code : EndCode) (s : State) : (jobEnd code s).interlock = s.interlock := by
  unfold jobEnd
  split
  · split <;> rfl
  · rfl

@[simp] theorem jobLeaves_interlock (j : Job) (s : State) : (jobLeaves j s).interlock = s.interlock := by
  unfold jobLeaves
  dsimp only
  split
  case _ | _ => simp
  case _ | _ => split <;> simp
  all_goals rfl

@[simp] theorem jobFault_interlock (code : EndCode) (s : State) : (jobFault code s).interlock = s.interlock := by
  unfold jobFault
  split
  · split <;> simp
  · rfl

@[simp] theorem jobStop_interlock (s : State) : (jobStop s).interlock = s.interlock := jobEnd_interlock _ s

@[simp] theorem jobPlaced_interlock (s : State) : (jobPlaced s).interlock = s.interlock := rfl

@[simp] theorem askSeek_moves (t : Target) (h : c.Moves s.interlock) : c.Moves (askSeek t s).interlock := by
  have hm := actSeek_moves .che t h
  unfold askSeek
  split <;> (rename_i e; rw [e] at hm; simpa using hm)

@[simp] theorem goTo_moves (t : Target) (h : c.Moves s.interlock) : c.Moves (goTo t s).interlock := by
  unfold goTo
  split
  · exact askSeek_moves t h
  · exact h

@[simp] theorem takeUp_moves (f : Job → Job) (h : c.Moves s.interlock) : c.Moves (takeUp f s).interlock := by
  unfold takeUp
  dsimp only
  split
  · exact goTo_moves _ h
  · exact h

@[simp] theorem nextBlock_moves (h : c.Moves s.interlock) : c.Moves (nextBlock s).interlock := by
  unfold nextBlock
  split
  · exact h
  · exact takeUp_moves _ h

@[simp] theorem jobSeekAnswer_interlock (x : SeekAnswer) (s : State) :
    (jobSeekAnswer x s).interlock = s.interlock := by
  unfold jobSeekAnswer
  split
  · rfl
  · split
    · split
      · split
        · simp
        · split <;> simp
      all_goals simp
    · rfl

@[simp] theorem jobHead_moves (was now : HeadState) (h : c.Moves s.interlock) :
    c.Moves (jobHead was now s).interlock := by
  unfold jobHead
  split
  · exact h
  · split
    · split
      · exact askSeek_moves _ h
      · split
        · exact askSeek_moves _ h
        · exact h
    all_goals exact h

@[simp] theorem jobSpinFault_interlock (s : State) : (jobSpinFault s).interlock = s.interlock := by
  unfold jobSpinFault
  split
  · split <;> simp
  · rfl

@[simp] theorem jobLoadFailed_interlock (s : State) : (jobLoadFailed s).interlock = s.interlock := by
  unfold jobLoadFailed
  split
  · split <;> simp
  · rfl

@[simp] theorem jobPassAbandoned_interlock (code : EndCode) (s : State) :
    (jobPassAbandoned code s).interlock = s.interlock := by
  unfold jobPassAbandoned
  split
  · split <;> simp
  · rfl

@[simp] theorem jobReached_interlock (s : State) : (jobReached s).interlock = s.interlock := by
  unfold jobReached
  split
  · split <;> simp
  · rfl

@[simp] theorem wantExpired_interlock (tag first : Nat) (s : State) :
    (wantExpired tag first s).interlock = s.interlock := by
  unfold wantExpired
  dsimp only
  split
  · split
    · split
      · split <;> simp
      · rfl
    · rfl
  · rfl

end operations
end Sys2Proof.Machine
end

section
/-! PROOF. What the orders, the chains, the link and the reactions do to the interlock. -/

namespace Sys2Proof.Machine

section operations
variable {c : Interlock} {s : State}

/-! ## Defect tables and formatting -/

@[simp] theorem beginHeader_moves (use : HeaderUse) (h : c.Moves s.interlock) :
    c.Moves (beginHeader use s).interlock := by
  unfold beginHeader
  split
  · exact h
  · exact askSeek_moves _ h

@[simp] theorem writeThrough_moves (changed : Bool) (ok bad : EndCode) (h : c.Moves s.interlock) :
    c.Moves (writeThrough changed ok bad s).interlock := by
  unfold writeThrough
  split
  · exact beginHeader_moves _ h
  · simpa using h

@[simp] theorem beginFormat_moves (h : c.Moves s.interlock) : c.Moves (beginFormat s).interlock := takeUp_moves _ h

@[simp] theorem formatDone_moves (j : Job) (h : c.Moves s.interlock) : c.Moves (formatDone j s).interlock :=
  writeThrough_moves _ _ _ (by simpa using h)

@[simp] theorem beginAltRead_moves (j : Job) (h : c.Moves s.interlock) : c.Moves (beginAltRead j s).interlock :=
  takeUp_moves _ h

@[simp] theorem chooseAlternate_moves (h : c.Moves s.interlock) : c.Moves (chooseAlternate s).interlock := by
  unfold chooseAlternate
  split
  · exact h
  · split
    · exact takeUp_moves _ h
    · exact writeThrough_moves _ _ _ h

@[simp] theorem setAlternate_interlock (j : Job) (a : Nat) (x : Alt) (s : State) :
    (setAlternate j a x s).interlock = s.interlock := by simp [setAlternate]

@[simp] theorem altReadDone_moves (j : Job) (h : c.Moves s.interlock) : c.Moves (altReadDone j s).interlock := by
  unfold altReadDone
  apply chooseAlternate_moves
  split <;> simpa using h

@[simp] theorem altWriteClosed_moves (j : Job) (a : Nat) (kept : Bool) (h : c.Moves s.interlock) :
    c.Moves (altWriteClosed j a kept s).interlock := by
  unfold altWriteClosed
  split
  · exact takeUp_moves _ h
  · split
    · simpa using h
    · exact writeThrough_moves _ _ _ h

@[simp] theorem altVerifyClosed_moves (j : Job) (a : Nat) (seen : IdentitySeen) (out : ReadOutcome)
    (data : List Byte) (h : c.Moves s.interlock) : c.Moves (altVerifyClosed j a seen out data s).interlock := by
  unfold altVerifyClosed
  extract_lets unread final t
  have ht : c.Moves t.interlock := by simpa [t] using h
  split
  · exact writeThrough_moves _ _ _ (by simpa using ht)
  · exact chooseAlternate_moves (by simpa using ht)

@[simp] theorem beginAltTrack_moves (head : Nat) (h : c.Moves s.interlock) :
    c.Moves (beginAltTrack head s).interlock := takeUp_moves _ h

@[simp] theorem initDone_moves (j : Job) (h : c.Moves s.interlock) : c.Moves (initDone j s).interlock := by
  unfold initDone
  dsimp only
  split
  · simpa using h
  · exact beginHeader_moves _ (by simpa using h)

@[simp] theorem altTrackDone_moves (j : Job) (head : Nat) (h : c.Moves s.interlock) :
    c.Moves (altTrackDone j head s).interlock := by
  unfold altTrackDone
  split
  · exact beginAltTrack_moves _ h
  · exact initDone_moves _ h

@[simp] theorem headerWritten_moves (j : Job) (use : HeaderUse) (h : c.Moves s.interlock) :
    c.Moves (headerWritten j use s).interlock := by
  unfold headerWritten
  extract_lets t
  have ht : c.Moves t.interlock := by simpa [t] using h
  split
  · split
    · exact beginFormat_moves ht
    · exact beginAltRead_moves _ ht
  · simpa using ht
  · exact beginAltTrack_moves _ ht
  · simpa using ht

@[simp] theorem headerFailed_interlock (j : Job) (use : HeaderUse) (s : State) :
    (headerFailed j use s).interlock = s.interlock := by
  unfold headerFailed
  dsimp only
  split <;> simp

@[simp] theorem slotFinished_moves (j : Job) (h : c.Moves s.interlock) : c.Moves (slotFinished j s).interlock := by
  unfold slotFinished
  split
  · split
    · exact headerWritten_moves _ _ h
    · exact altTrackDone_moves _ _ h
    · exact formatDone_moves _ h
    all_goals exact h
  · exact h

@[simp] theorem slotGivenUp_moves (j : Job) (slot : Nat) (h : c.Moves s.interlock) :
    c.Moves (slotGivenUp j slot s).interlock := by
  unfold slotGivenUp
  split
  · simpa using h
  · exact slotFinished_moves _ (by simpa using h)
  · simpa using h

@[simp] theorem slotClosed_moves (j : Job) (slot : Nat) (kept : Bool) (h : c.Moves s.interlock) :
    c.Moves (slotClosed j slot kept s).interlock := by
  unfold slotClosed
  split
  · exact slotFinished_moves _ h
  · split
    · exact h
    · exact slotGivenUp_moves _ _ h

/-! ## The transfer of one block -/

@[simp] theorem startXfer_interlock (j : Job) (kind : XferKind) (slot : Nat) (data : List Byte) (s : State) :
    (startXfer j kind slot data s).interlock = s.interlock := by
  cases kind <;> simp [startXfer]

@[simp] theorem dataWait_interlock (j : Job) (s : State) : (dataWait j s).interlock = s.interlock := by
  simp [dataWait]

@[simp] theorem dataReady_interlock (j : Job) (s : State) : (dataReady j s).interlock = s.interlock := by
  simp [dataReady]

@[simp] theorem openBlock_interlock (j : Job) (slot : Nat) (s : State) :
    (openBlock j slot s).interlock = s.interlock := by
  unfold openBlock
  split
  · rfl
  · split
    · split
      next e => simp [reserveRead_interlock e]
      next => simp
    · split <;> simp
    · simp

@[simp] theorem jobOpen_interlock (wedge : Nat) (s : State) : (jobOpen wedge s).interlock = s.interlock := by
  unfold jobOpen
  split
  · rfl
  next j _ =>
    split
    · cases j.task with
      | none | seekOnly => rfl
      | _ => dsimp only; split <;> simp
    · rfl

@[simp] theorem passOpen_interlock (wedge : Nat) (p : Pass) (s : State) :
    (passOpen wedge p s).interlock = s.interlock := by
  unfold passOpen
  split <;> rfl

@[simp] theorem openWedge_interlock (wedge : Nat) (s : State) : (openWedge wedge s).interlock = s.interlock := by
  unfold openWedge
  split
  · split <;> simp
  · rfl

@[simp] theorem blockEnded_moves (h : c.Moves s.interlock) : c.Moves (blockEnded s).interlock := by
  unfold blockEnded
  dsimp only
  split
  · exact h
  · split
    · simpa using h
    · split
      · simpa using h
      · split
        · simpa using h
        · exact nextBlock_moves h

@[simp] theorem countBlock_interlock (j : Job) (s : State) : (countBlock j s).interlock = s.interlock := by
  simp [countBlock]

@[simp] theorem readDone_moves (j : Job) (out : ReadOutcome) (data : List Byte) (h : c.Moves s.interlock) :
    c.Moves (readDone j out data s).interlock := by
  unfold readDone
  split
  · exact blockEnded_moves h
  · apply blockEnded_moves
    split <;> simpa using h

@[simp] theorem altReadEnded_moves (j : Job) (out : ReadOutcome) (data : List Byte) (h : c.Moves s.interlock) :
    c.Moves (altReadEnded j out data s).interlock := by
  unfold altReadEnded
  split
  · simpa using h
  · dsimp only
    split
    · simpa using h
    · exact altReadDone_moves _ (by simpa using h)

@[simp] theorem readClosed_moves (j : Job) (seen : IdentitySeen) (off : Bool) (out : ReadOutcome) (data : List Byte)
    (h : c.Moves s.interlock) : c.Moves (readClosed j seen off out data s).interlock := by
  unfold readClosed
  extract_lets final done
  have hdone : ∀ o, c.Moves (done o data s).interlock := by
    intro o
    simp only [done]
    split
    · exact altReadEnded_moves _ _ _ h
    · exact readDone_moves _ _ _ h
  split
  · simpa using h
  · split
    · exact hdone _
    · split
      · simpa using h
      · split
        · exact h
        · exact hdone _

@[simp] theorem writeClosed_moves (j : Job) (seen : IdentitySeen) (kept : Bool) (h : c.Moves s.interlock) :
    c.Moves (writeClosed j seen kept s).interlock := by
  unfold writeClosed
  split
  · simpa using h
  · split
    · split
      · exact blockEnded_moves (by simpa using h)
      · simpa using h
    · split
      · simpa using h
      · split
        · simpa using h
        · split
          · simpa using h
          · exact h

@[simp] theorem jobClose_moves (x : Xfer) (close : Option Int) (out : ReadOutcome) (data : List Byte)
    (h : c.Moves s.interlock) : c.Moves (jobClose x close out data s).interlock := by
  unfold jobClose
  split
  · exact h
  · split
    · split
      · exact writeClosed_moves _ _ _ h
      · exact readClosed_moves _ _ _ _ _ h
    · exact readClosed_moves _ _ _ _ _ h
    · exact altWriteClosed_moves _ _ _ h
    · split
      · exact h
      · exact altVerifyClosed_moves _ _ _ _ _ h
    case _ | _ | _ => exact slotClosed_moves _ _ _ h
    all_goals exact h

@[simp] theorem closeXfer_moves (x : Xfer) (close : Option Int) (out : ReadOutcome) (data : List Byte)
    (h : c.Moves s.interlock) : c.Moves (closeXfer x close out data s).interlock := by
  unfold closeXfer
  dsimp only
  split
  · split <;> simpa using h
  · exact jobClose_moves _ _ _ _ h

@[simp] theorem jobBoundary_interlock (s : State) : (jobBoundary s).interlock = s.interlock := by
  unfold jobBoundary
  split
  · split <;> simp
  · rfl

@[simp] theorem boundaryWedge_moves (wedge : Nat) (e : Int) (out : ReadOutcome) (data : List Byte)
    (h : c.Moves s.interlock) : c.Moves (boundaryWedge wedge e out data s).interlock := by
  unfold boundaryWedge
  simp only [send_interlock, jobBoundary_interlock, passBoundary_interlock]
  split
  · exact closeXfer_moves _ _ _ _ (by simpa using h)
  · simpa using h

@[simp] theorem closingUnread_moves (data : List Byte) (h : c.Moves s.interlock) :
    c.Moves (closingUnread data s).interlock := by
  unfold closingUnread
  split
  · exact closeXfer_moves _ _ _ _ (by simpa using h)
  · exact h

@[simp] theorem boundaryLost_interlock (s : State) : (boundaryLost s).interlock = s.interlock := by
  unfold boundaryLost
  dsimp only
  split
  · simp
  · split
    · split
      · simp
      · split <;> simp
    · simp

@[simp] theorem misplaced_moves (x : Xfer) (h : c.Moves s.interlock) : c.Moves (misplaced x s).interlock := by
  unfold misplaced
  dsimp only
  split <;> exact actMisplaced_moves _ _ (by simpa using h)

@[simp] theorem identityRead_moves (identity : Option Identity) (h : c.Moves s.interlock) :
    c.Moves (identityRead identity s).interlock := by
  unfold identityRead
  split
  · exact h
  · split
    · exact h
    · split
      · exact h
      · split
        · exact h
        · split
          · exact misplaced_moves _ h
          · exact h

/-! ## Chain Engine -/

@[simp] theorem chainEnd_interlock (i : Nat) (code : EndCode) (loc : Option FaultLocation) (s : State) :
    (chainEnd i code loc s).interlock = s.interlock := by
  unfold chainEnd
  split <;> simp

@[simp] theorem runFree_interlock (o : Order) (s : State) : (runFree o s).1.interlock = s.interlock := by
  unfold runFree
  split <;> simp

@[simp] theorem chainReach_interlock (n i : Nat) (s : State) : (chainReach n i s).interlock = s.interlock := by
  induction n generalizing s with
  | zero => rfl
  | succ n ih =>
    unfold chainReach
    split
    · rfl
    · split
      · rfl
      · split
        next o _ _ =>
          have ho := (runFree_interlock o (offerProgress i s)).trans (offerProgress_interlock i s)
          split <;> rename_i e <;> rw [e] at ho
          · split
            · rw [ih]; exact ho
            · simpa using ho
          · simpa using ho
        · rfl

@[simp] theorem chainPass_interlock (i : Nat) (s : State) : (chainPass i s).interlock = s.interlock := by
  simp [chainPass]

@[simp] theorem beginWork_moves (h : c.Moves s.interlock) : c.Moves (beginWork s).interlock := by
  unfold beginWork
  split
  · exact h
  · dsimp only
    split
    case _ | _ | _ => exact nextBlock_moves h
    · split
      · split
        · exact askSeek_moves _ h
        · simpa using h
      · exact h
    · split
      · simpa using h
      · split
        · exact beginHeader_moves _ h
        · exact beginFormat_moves h
    · split
      · exact beginHeader_moves _ h
      · exact beginAltRead_moves _ h
    · exact beginHeader_moves _ h
    all_goals exact h

@[simp] theorem mountWait_interlock (j : Job) (s : State) : (mountWait j s).interlock = s.interlock := by
  unfold mountWait
  split <;> simp

@[simp] theorem withHeads_moves (waits : Bool) (j : Job) (h : c.Moves s.interlock) :
    c.Moves (withHeads waits j s).interlock := by
  unfold withHeads
  split
  · simpa using h
  · exact beginWork_moves h

@[simp] theorem needHeads_moves (waits : Bool) (j : Job) (h : c.Moves s.interlock) :
    c.Moves (needHeads waits j s).interlock := by
  unfold needHeads
  split
  · exact pwrWake_moves (actRequestLoad_moves _ _ h)
  · exact withHeads_moves _ _ h

@[simp] theorem orderChecks_moves (h : c.Moves s.interlock) : c.Moves (orderChecks s).interlock := by
  unfold orderChecks
  split
  · exact h
  · split
    · simpa using h
    · exact needHeads_moves _ _ h
    · exact needHeads_moves _ _ h

@[simp] theorem jobLoaded_moves (h : c.Moves s.interlock) : c.Moves (jobLoaded s).interlock := by
  unfold jobLoaded
  split
  · split
    · split
      · simpa using h
      · exact withHeads_moves _ _ h
      · exact withHeads_moves _ _ h
    · exact h
  · exact h

@[simp] theorem jobMounted_moves (v : Vol) (h : c.Moves s.interlock) : c.Moves (jobMounted v s).interlock := by
  unfold jobMounted
  split
  · split
    · exact orderChecks_moves h
    · exact h
  · exact h

@[simp] theorem orderEject_moves (i tag : Nat) (h : c.Moves s.interlock) : c.Moves (orderEject i tag s).interlock := by
  unfold orderEject
  dsimp only
  split
  case _ | _ =>
    rename_i e
    have hm := rcvEject_moves tag h
    rw [e] at hm
    simpa using hm
  all_goals exact rcvEject_moves tag h

@[simp] theorem orderSetPower_moves (p : PowerState) (h : c.Moves s.interlock) :
    c.Moves (orderSetPower p s).interlock := by
  have hm := pwrSetPower_moves (s := setPhase .power s) p h
  unfold orderSetPower
  split <;> rename_i e <;> rw [e] at hm
  · simpa using hm
  · split
    · exact actRequestLoad_moves _ _ hm
    · exact hm

@[simp] theorem orderStart_moves (i : Nat) (ready : Bool) (h : c.Moves s.interlock) :
    c.Moves (orderStart i ready s).interlock := by
  unfold orderStart
  split
  · exact h
  · split
    · exact h
    · dsimp only
      split
      · exact orderEject_moves _ _ (by simpa using h)
      · exact orderSetPower_moves _ (by simpa using h)
      · exact orderChecks_moves (by simpa using h)

@[simp] theorem orderRelease_interlock (s : State) : (orderRelease s).interlock = s.interlock := by
  unfold orderRelease
  dsimp only
  split <;> simp

@[simp] theorem orderChainEnd_interlock (j : Job) (i : Nat) (ch : Chain) (code : EndCode) (s : State) :
    (orderChainEnd j i ch code s).interlock = s.interlock := by
  unfold orderChainEnd
  dsimp only
  split <;> simp

@[simp] theorem orderEnded_moves (code : EndCode) (h : c.Moves s.interlock) :
    c.Moves (orderEnded code s).interlock := by
  unfold orderEnded
  dsimp only
  split
  · exact h
  · split
    · simpa using h
    · split
      · simpa using h
      · split
        · simpa using h
        · split
          · simpa using h
          · split
            · exact orderStart_moves _ _ (by simpa using h)
            · split
              · simpa using h
              · split
                · simpa using h
                · split <;> simpa using h

@[simp] theorem acceptChain_interlock (tag : Nat) (orders : List Order) (s : State) :
    (acceptChain tag orders s).interlock = s.interlock := by
  unfold acceptChain
  split <;> simp

@[simp] theorem cheAccept_interlock (tag : Nat) (payload : List Byte) (s : State) :
    (cheAccept tag payload s).1.interlock = s.interlock := by
  unfold cheAccept
  dsimp only
  split <;> simp

@[simp] theorem cancelRunning_interlock (i : Nat) (ch : Chain) (s : State) :
    (cancelRunning i ch s).interlock = s.interlock := by
  unfold cancelRunning
  dsimp only
  split
  · simp
  · split
    · split <;> simp
    · simp

@[simp] theorem cheCancel_interlock (tag : Nat) (s : State) : (cheCancel tag s).1.interlock = s.interlock := by
  unfold cheCancel
  split
  · rfl
  · split
    · rfl
    · split <;> simp

@[simp] theorem cheData_interlock (tag sequence : Nat) (data : List Byte) (s : State) :
    (cheData tag sequence data s).1.interlock = s.interlock := by
  unfold cheData
  dsimp only
  split
  · split
    · split
      · split <;> simp
      · simp
    · rfl
  · rfl

@[simp] theorem powerFaultChain_moves (i : Nat) (h : c.Moves s.interlock) :
    c.Moves (powerFaultChain i s).interlock := by
  unfold powerFaultChain
  split
  · split
    · exact orderEnded_moves _ (by simpa using h)
    · split <;> simpa using h
  · split <;> simpa using h

@[simp] theorem cheSupplyFault_moves (h : c.Moves s.interlock) : c.Moves (cheSupplyFault s).interlock := by
  have ht := foldl_moves (f := fun t i => powerFaultChain i t) (fun t i => powerFaultChain_moves (s := t) i)
    (slotsOldestFirst (·.state.inProgress) s) h
  unfold cheSupplyFault
  dsimp only
  split
  · simpa using ht
  · exact ht

@[simp] theorem cheEjectStarted_interlock (s : State) : (cheEjectStarted s).interlock = s.interlock :=
  foldl_interlock (by simp) _ s

@[simp] theorem ejectEnded_interlock (i : Nat) (s : State) : (ejectEnded i s).interlock = s.interlock := by
  unfold ejectEnded
  split
  · split <;> simp
  · rfl

@[simp] theorem cheSequenceEnded_interlock (s : State) : (cheSequenceEnded s).interlock = s.interlock :=
  foldl_interlock (by simp) _ s

@[simp] theorem jobLinkReset_interlock (s : State) : (jobLinkReset s).interlock = s.interlock := by
  unfold jobLinkReset
  dsimp only
  split
  · rfl
  · split <;> simp

@[simp] theorem cheLinkReset_interlock (s : State) : (cheLinkReset s).interlock = s.interlock := by
  simp [cheLinkReset]

@[simp] theorem grant_moves (g : Grant) (h : c.Moves s.interlock) : c.Moves (grant g s).interlock := by
  unfold grant
  split
  · exact passGrant_moves _ _ h
  · exact orderStart_moves _ _ h

@[simp] theorem serveRead_interlock (j : Job) (s : State) : (serveRead j s).interlock = s.interlock := by
  unfold serveRead
  split
  next ch _ =>
    cases e : reserveRead ch.tag ch.sequence (dataReady j s) with
    | none => rfl
    | some t => simpa using reserveRead_interlock e
  · rfl

/-! ## Link Interface -/

@[simp] theorem takeSettings_interlock (payload : List Byte) (s : State) :
    (takeSettings payload s).interlock = s.interlock := by simp [takeSettings]

@[simp] theorem linkResetActs_interlock (s : State) : (linkResetActs s).interlock = s.interlock := by
  simp [linkResetActs, bbfReset]

@[simp] theorem handFrame_interlock (kind : Nat) (tag : Byte) (payload : List Byte) (s : State) :
    (handFrame kind tag payload s).1.interlock = s.interlock := by
  unfold handFrame
  split <;> simp

@[simp] theorem addReply_interlock (r : Reply) (s : State) : (addReply r s).interlock = s.interlock := rfl

@[simp] theorem takeFrame_interlock (sum kind tag : Byte) (length : Nat) (payload : List Byte) (s : State) :
    (takeFrame sum kind tag length payload s).interlock = s.interlock := by
  obtain ⟨r, -, e⟩ | ⟨-, e⟩ := takeFrame_cases sum kind tag length payload s <;> rw [e] <;> simp

@[simp] theorem lnkByte_interlock (b : Byte) (s : State) : (lnkByte b s).interlock = s.interlock := by
  unfold lnkByte
  dsimp only
  split
  · split <;> rfl
  · split <;> rfl
  · rfl
  · simp

@[simp] theorem lnkBytes_interlock (bytes : List Byte) (s : State) : (lnkBytes bytes s).interlock = s.interlock := by
  induction bytes generalizing s with
  | nil => rfl
  | cons b bs ih => rw [lnkBytes, ih, lnkByte_interlock]

@[simp] theorem lnkReceive_interlock (bytes : List Byte) (s : State) :
    (lnkReceive bytes s).interlock = s.interlock := by
  obtain ⟨e, -⟩ | ⟨e, -⟩ := lnkReceive_cases bytes s <;> rw [e] <;> simp

@[simp] theorem takeWaiting_interlock (bytes : List Byte) (s : State) :
    (takeWaiting bytes s).interlock = s.interlock := by simp [takeWaiting]

@[simp] theorem lnkLineReset_interlock (s : State) : (lnkLineReset s).interlock = s.interlock := by
  simp [lnkLineReset]

@[simp] theorem beginFrame_interlock (s : State) : (beginFrame s).interlock = s.interlock := by
  obtain ⟨f, -, -, e⟩ | ⟨-, e⟩ := beginFrame_cases s <;> rw [e]
  cases hf : f.carries <;> rfl

@[simp] theorem delivered_interlock (o : Outbound) {act : State → State} (s : State)
    (ha : ∀ t, (act t).interlock = t.interlock) : (delivered o act s).interlock = s.interlock := by
  unfold delivered
  split
  · split
    · rw [ha]; rfl
    · rfl
  · rfl

@[simp] theorem replyLeaves_interlock (s : State) : (replyLeaves s).interlock = s.interlock := rfl

/-! ## Reactions -/

@[simp] theorem reactHead_moves (was now : HeadState) (h : c.Moves s.interlock) :
    c.Moves (reactHead was now s).interlock := by
  have hv : c.Moves (if was = .loading ∧ now = .following then volLoaded s else s).interlock := by
    split <;> simpa using h
  have ht := jobHead_moves was now (passHead_moves now hv)
  unfold reactHead
  dsimp only
  split
  · exact pwrLoading_moves ht
  · exact rcvParked_moves (pwrParked_moves ht)
  all_goals exact ht

@[simp] theorem reactSupplyFault_moves (h : c.Moves s.interlock) : c.Moves (reactSupplyFault s).interlock := by
  simpa [reactSupplyFault] using
    rcvSupplyFault_moves (cheSupplyFault_moves (s := volAbandon .powerFault s) (by simpa using h))

@[simp] theorem reactAttention_interlock (a : Attention) (s : State) :
    (reactAttention a s).interlock = s.interlock := by
  unfold reactAttention
  split <;> rfl

theorem react_moves (m : Signal) (h : c.Moves s.interlock) : c.Moves (react m s).interlock := by
  cases m with
  | spindle st => exact pwrSpindle_moves _ h
  | stopped dest =>
    cases dest with
    | pwr => exact pwrStopped_moves h
    | rcv => exact rcvStopped_moves h
  | startWithdrawn | stopWithdrawn => exact h
  | lockLoss | spinFault | boundaryLost | opening | lentPassAbandoned | reached | ejectStarted | sequenceEnded
  | attention => simpa [react] using h
  | head was now => exact reactHead_moves _ _ h
  | loaded dest =>
    cases dest with
    | vol => exact passLoaded_moves h
    | che => exact jobLoaded_moves h
  | loadFailed dest => cases dest <;> simpa [react] using h
  | seekAnswer dest x => cases dest <;> simpa [react] using h
  | boundary => exact boundaryWedge_moves _ _ _ _ h
  | positionLost => exact pwrPositionLost_moves (by simpa using h)
  | mountEnded v => exact jobMounted_moves _ h
  | supplyFault => exact reactSupplyFault_moves h
  | orderEnd code => exact orderEnded_moves _ h
  | enterUnloading => exact rcvReenter_moves h

@[simp] theorem chosen_interlock (contested : Bool) (s : State) : (chosen contested s).interlock = s.interlock := by
  unfold chosen
  split <;> rfl

theorem unloadOrGrant_ne_drained (s : State) : unloadOrGrant s ≠ some .drained := by
  unfold unloadOrGrant
  split
  · split
    · split <;> simp
    · simp
  · simp

/-- The rule that ends DRAINING is due only there. -/
theorem idleRule_drained (h : idleRule s = some .drained) : s.rcv.stage = .draining := by
  by_cases hd : drained s = true
  · simp only [drained, Bool.and_eq_true, decide_eq_true_eq] at hd
    exact hd.1.1.1
  · exfalso
    unfold idleRule at h
    rw [if_neg hd] at h
    repeat' split at h
    all_goals try cases h
    next e => exact unloadOrGrant_ne_drained s e
    next => simp at h

theorem fire_moves {r : Rule} (hr : idleRule s = some r) (h : c.Moves s.interlock) : c.Moves (fire r s).interlock := by
  cases r with
  | drained => exact rcvEnterUnloading_moves h (by simp [idleRule_drained hr])
  | startFree i => simpa [fire] using h
  | ejectDue i tag => exact orderEject_moves _ _ h
  | lend v => exact passGrant_moves _ _ h
  | serveRead j => simpa [fire] using h
  | serveWrite ch => simpa [fire] using h
  | unload contested => exact actUnload_moves (by simpa using h)
  | grant g contested => exact grant_moves _ (by simpa using h)
  | frame bytes => simpa [fire] using h

/-- Whatever a reaction is, it moves the interlock as its blocks may. -/
theorem settleOnce_moves {t : State} (hs : settleOnce s = some t) (h : c.Moves s.interlock) : c.Moves t.interlock := by
  unfold settleOnce at hs
  split at hs
  · cases hs
    exact react_moves _ h
  · obtain ⟨r, hr, rfl⟩ := Option.map_eq_some_iff.1 hs
    exact fire_moves hr h

theorem settle_moves (n : Nat) (h : c.Moves s.interlock) : c.Moves (settle n s).interlock :=
  settle_keeps (P := fun t => c.Moves t.interlock) (fun _ _ hs ht => settleOnce_moves ht hs) n s h

theorem conclude_moves {t : State} (h : c.Moves s.interlock) (ht : conclude s = .next t) : c.Moves t.interlock := by
  obtain ⟨u, hu, -, e⟩ | e := conclude_cases s <;> rw [e] at ht <;> cases ht
  simpa [← hu] using settle_moves _ h

/-! ## Commands -/

/-- A command that one block takes moves as its block does, and as the reactions do. -/
theorem run_moves {f : State → State} {t : State} (h : s.interlock.Moves (f s).interlock) (ht : run f s = .next t) :
    s.interlock.Moves t.interlock := by
  unfold run at ht
  split at ht
  · cases ht
    exact .refl _
  · exact conclude_moves h ht

theorem runPins_moves {p : Pins → Pins} {f : State → State} {t : State}
    (hf : ∀ u : State, s.interlock.Moves u.interlock → s.interlock.Moves (f u).interlock)
    (ht : runPins p f s = .next t) : s.interlock.Moves t.interlock :=
  run_moves (s := s.updPins p) (hf _ (.refl _)) ht

theorem powered_moves (pins : Pins) (good : Bool) : s.interlock.Moves (State.powerOn good pins).interlock :=
  (Interlock.Moves.refl _).step .powered

theorem powerOnActs_moves (good : Bool) : s.interlock.Moves (powerOnActs good s).interlock := by
  unfold powerOnActs
  split
  · exact powered_moves { s.pins with logicLow := false } good
  · exact powered_moves { s.pins with logicLow := false } good

/-- Every command moves the interlock in the ways listed, and in no other. -/
theorem exec_moves {i : Instr} {t : State} (h : exec i s = .next t) : s.interlock.Moves t.interlock := by
  have r := Interlock.Moves.refl s.interlock
  cases i with
  | tachPulse ticks => exact run_moves (spcTachPulse_moves ticks r) h
  | saturatedInterval => exact run_moves (spcSaturated_moves r) h
  | startTimerExpiry => exact run_moves (spcStartExpiry_moves r) h
  | relockTimerExpiry => exact run_moves (spcRelockExpiry_moves r) h
  | brakeTimerExpiry => exact run_moves (spcBrakeExpiry_moves r) h
  | wedgeReport => exact run_moves (actWedge_moves _ _ _ _ _ r) h
  | closingWedgeUnread => exact run_moves (closingUnread_moves _ r) h
  | acquisitionTimerExpiry => exact run_moves (actAcquisitionExpiry_moves r) h
  | rampReport => exact run_moves (actRamp_moves r) h
  | unloadTimerExpiry => exact run_moves (actUnloadExpiry_moves r) h
  | retractTimerExpiry => exact run_moves (actRetractExpiry_moves r) h
  | planTimeEnd => exact run_moves (actPlanEnd_moves r) h
  | settlePeriodEnd => exact run_moves (actSettleEnd_moves r) h
  | seekTimeoutExpiry => exact run_moves (actSeekTimeout_moves r) h
  | stage1Expiry => exact run_moves (actStage1_moves r) h
  | stage2Expiry => exact run_moves (actStage2_moves r) h
  | wantTimerExpiry => exact run_moves (by simp) h
  | presenceSwitchChange => exact runPins_moves (fun _ => rcvPresenceSwitch_moves _ _) h
  | presenceDebounceEnd => exact run_moves (rcvPresenceDebounced_moves r) h
  | buttonSwitchChange => exact runPins_moves (fun u hu => by rwa [rcvButtonSwitch_interlock]) h
  | buttonDebounceEnd => exact run_moves (rcvButtonDebounced_moves r) h
  | holdTimerExpiry => exact run_moves (rcvHoldExpiry_moves r) h
  | refusalIndicationExpiry => exact run_moves (by simp) h
  | removalTimerExpiry => exact run_moves (rcvRemovalExpiry_moves r) h
  | doorOpenWindowExpiry => exact run_moves (rcvWindowExpiry_moves r) h
  | oneSecondTick => exact run_moves (pwrTick_moves r) h
  | idleLimitReached => exact run_moves (pwrLimitTick_moves r) h
  | supplyFall => exact run_moves (pwrFall_moves r) h
  | supplyRise => exact run_moves (by simp) h
  | holdOffTimerExpiry => exact run_moves (pwrHoldOffExpiry_moves r) h
  | powerOnReset good => exact conclude_moves (powerOnActs_moves good) h
  | chain | cancel | data | driveStatus | volumeStatus | defectList | chainStatus | settings | linkReset
  | unknownFrameKind | awaitLeadByteDiscarded | frameRefusedCheck | unknownQuerySubkind =>
    exact run_moves (by simp) h
  | linkResetLineAsserted =>
    refine runPins_moves (fun u hu => ?_) h
    split
    · exact hu
    · rwa [lnkLineReset_interlock]
  | linkResetLineReleased | hostReadyAsserted | hostReadyDeasserted => exact runPins_moves (fun _ hu => hu) h
  | replyDelivered => exact run_moves (by rwa [delivered_interlock _ _ replyLeaves_interlock]) h
  | dataFrameDelivered => exact run_moves (by simp) h
  | dataWantedDelivered => exact run_moves (by simp) h
  | noticeDelivered => exact run_moves (by simp) h
  | logicSupplyFall =>
    cases h
    exact powered_moves { s.pins with logicLow := true } true
  | slotIdentityRead identity => exact run_moves (identityRead_moves _ r) h

theorem step_moves {t : State} (h : step s = .next t) : s.interlock.Moves t.interlock := by
  unfold step at h
  split at h
  next =>
    cases h
    exact .refl _
  next rest _ => exact exec_moves (s := { s with pending := rest }) h

end operations

/-- A law of the interlock that every move keeps is kept by every step. -/
theorem keptByStep_of_move {P : Interlock → Prop} (hP : ∀ c d : Interlock, c.Move d → P c → P d) :
    KeptByStep fun s => P s.interlock :=
  fun _ _ hs hstep => (step_moves hstep).keeps hP hs

/-- Settles O4: each move keeps the outputs and the ranges (`Interlock.Move.keeps_spindle`), and a step only makes
moves. -/
theorem spindleLawKept : Obligations.SpindleLawKept :=
  keptByStep_of_move (P := fun c => c.spc.Outputs ∧ c.spc.Ranges) fun _ _ m => m.keeps_spindle

/-- Settles O6: each move keeps the three laws together (`Interlock.Move.keeps_lawful`), and a step only makes
moves. -/
theorem headAndLatchLawKept : Obligations.HeadAndLatchLawKept :=
  fun s t hs hstep => (State.lawful_iff t).1
    (keptByStep_of_move (P := Interlock.Lawful) (fun _ _ m => m.keeps_lawful) s t ((State.lawful_iff s).2 hs) hstep)

end Sys2Proof.Machine
end

section
/-! PROOF. Chapter 1: what each interval and timeout does to a part at rest. -/

namespace Sys2Proof.Machine

/-! ## Coming to rest by steps -/

/-- A part at rest stays at rest where only SPC's and ACT's records change, the spindle stays stopped or not
stopped, and the heads stay on or off the ramp. -/
theorem settled_of_drive {s : State} (h : s.settled = true) {p : Spc} {a : Act}
    (hp : p.state = .stopped ↔ s.spc.state = .stopped) (ha : a.head.loaded = s.act.head.loaded) :
    ({ s with spc := p, act := a } : State).settled = true := by
  refine settled_of_agree h (settled_inbox (s := s) h) ?_ ?_ rfl rfl rfl
  · exact idleRule_congr rfl rfl rfl rfl rfl rfl rfl rfl rfl (by simp [unloadDue, ha]) rfl rfl rfl rfl rfl
  · simp [lampOf, hp]

theorem settled_of_spc {s : State} (h : s.settled = true) {p : Spc}
    (hp : p.state = .stopped ↔ s.spc.state = .stopped) : ({ s with spc := p } : State).settled = true :=
  settled_of_drive h hp rfl

/-- At most `b` reactions lead from one state to another. -/
def Within (b : Nat) (s t : State) : Prop := ∃ k ≤ b, ∀ n, settle (n + k) s = settle n t

theorem Within.refl (s : State) : Within 0 s s := ⟨0, le_rfl, fun _ => rfl⟩

theorem Within.trans {a b : Nat} {s t u : State} (h : Within a s t) (h' : Within b t u) : Within (a + b) s u := by
  obtain ⟨j, hj, ej⟩ := h
  obtain ⟨k, hk, ek⟩ := h'
  exact ⟨k + j, by omega, fun n => by rw [← Nat.add_assoc, ej, ek]⟩

theorem Within.mono {a b : Nat} {s t : State} (h : Within a s t) (hab : a ≤ b) : Within b s t := by
  obtain ⟨k, hk, e⟩ := h
  exact ⟨k, hk.trans hab, e⟩

theorem Within.one {s t : State} (h : settleOnce s = some t) : Within 1 s t := ⟨1, le_rfl, fun n => settle_succ h n⟩

/-- The first report on its way is taken first. -/
theorem Within.report {s : State} {m : Signal} {rest : List Signal} (h : s.inbox = m :: rest) :
    Within 1 s (react m { s with inbox := rest }) := .one (settleOnce_report h)

/-- With every report taken, a rule acts whose condition holds. -/
theorem Within.rule {s : State} {r : Rule} (hi : s.inbox = []) (hr : idleRule s = some r) : Within 1 s (fire r s) :=
  .one (by rw [settleOnce_quiet hi, hr]; rfl)

/-- A part that comes to rest within the bound ends its step there, with the lamp and the lane to follow. -/
theorem Within.conclude {b : Nat} {s t : State} (h : Within b s t) (ht : settleOnce t = none)
    (hb : b ≤ reactionBound := by decide) : conclude s = .next (State.rest t) := by
  obtain ⟨k, hk, e⟩ := h
  exact conclude_of_settle (hk.trans hb) (by simpa [settle] using e 0) ht

theorem Within.conclude_settled {b : Nat} {s t : State} (h : Within b s t) (ht : t.settled = true)
    (hb : b ≤ reactionBound := by decide) : Machine.conclude s = .next t := by
  rw [h.conclude (settled_rest ht) hb, State.rest, setLamp_of_lit (settled_lamp ht),
    beginFrame_of_closed (settled_lane ht)]

/-- Where nothing is left to do, the lamp and the lane of a state at rest make the other one settled. -/
theorem settled_of_rests {s t : State} (hs : s.settled = true) (ht : settleOnce t = none) (hlamp : lampOf t = lampOf s)
    (hlit : t.rcv.lamp = s.rcv.lamp) (hopen : laneOpen t = laneOpen s)
    (hnext : (nextFrame t).isSome = (nextFrame s).isSome) : t.settled = true := by
  obtain ⟨hi, hidle⟩ := (settleOnce_none_iff t).1 ht
  exact settled_of_agree hs hi (hidle.trans (settled_idle hs).symm) hlamp hlit hopen hnext

/-- With nothing on hand, the part is at rest wherever PWR has no unload to send. -/
theorem State.Clear.rests {s t : State} (h : s.Clear) (hi : t.inbox = []) (hche : t.che = s.che)
    (h0 : t.vol0.pass = .none) (h1 : t.vol1.pass = .none) (hstage : t.rcv.stage = s.rcv.stage)
    (hwaiting : t.lnk.waiting = s.lnk.waiting) (hunload : unloadDue t = false) : settleOnce t = none := by
  have hchains : t.chains = s.chains := by simp [State.chains, State.chainAt, hche]
  exact (settleOnce_none_iff t).2 ⟨hi, idleRule_of_nothing (hchains.trans h.no_chain) (by rw [hche, h.no_job])
    (by simp [h0]) (by simp [h1]) (by simp [hstage, h.stage]) hunload (hwaiting.trans h.none_waiting)⟩

theorem unloadDue_of_progress {s : State} (h : s.pwr.progress ≠ .waitParked) : unloadDue s = false := by
  simp [unloadDue, h]

theorem unloadDue_of_not_loaded {s : State} (h : s.act.head.loaded = false) : unloadDue s = false := by
  simp [unloadDue, h]

/-! ## Reports nobody acts on -/

/-- With no order at work and no mount pass, a report at which no block does anything. -/
def Signal.silent : Signal → Bool
  | .spindle st => decide (st ≠ .locked) && decide (st ≠ .spinFault)
  | .head _ now => decide (now = .unloading) || decide (now = .retracting)
  | .startWithdrawn _ | .stopWithdrawn _ | .lockLoss | .spinFault | .seekAnswer _ _ | .reached => true
  | _ => false

/-- With no order at work and no mount pass, nobody waits for an answer. -/
theorem react_silent {s : State} {m : Signal} (hj : s.che.job = none) (hp : s.pass = none) (hm : m.silent = true) :
    react m s = s := by
  cases m with
  | spindle st => cases st <;> simp_all [Signal.silent, react, pwrSpindle]
  | head was now => cases now <;> simp_all [Signal.silent, react, reactHead, passHead, jobHead]
  | seekAnswer dest x => cases dest <;> simp [react, passSeekAnswer, jobSeekAnswer, hj, hp]
  | startWithdrawn | stopWithdrawn => rfl
  | lockLoss => simp [react, jobFault, volAbandon, hj, hp]
  | spinFault => simp [react, jobSpinFault, passSpinFault, hj, hp]
  | reached => simp [react, jobReached, hj]
  | _ => cases hm

/-- At a report no block does anything, whatever else is on its way. -/
def State.Unheeded (s : State) (m : Signal) : Prop :=
  ∀ i, react m { s with inbox := i } = { s with inbox := i }

theorem unheeded_of_silent {s : State} {m : Signal} (hj : s.che.job = none) (hp : s.pass = none)
    (hm : m.silent = true) : s.Unheeded m := fun _ => react_silent hj hp hm

theorem within_unheeded {ms : List Signal} {s : State} (hm : ∀ m ∈ ms, s.Unheeded m) {rest : List Signal}
    (hi : s.inbox = ms ++ rest) : Within ms.length s { s with inbox := rest } := by
  induction ms generalizing s with
  | nil => rw [List.nil_append] at hi; rw [← hi]; exact .refl s
  | cons m ms ih =>
    have h1 := Within.report (s := s) (m := m) (rest := ms ++ rest) hi
    rw [hm m (by simp)] at h1
    have h2 := ih (s := { s with inbox := ms ++ rest }) (fun x hx => hm x (by simp [hx])) rfl
    simpa [Nat.add_comm] using h1.trans h2

theorem within_silent {ms : List Signal} (hm : ∀ m ∈ ms, m.silent = true) {s : State} (hj : s.che.job = none)
    (hp : s.pass = none) {rest : List Signal} (hi : s.inbox = ms ++ rest) :
    Within ms.length s { s with inbox := rest } :=
  within_unheeded (fun m h => unheeded_of_silent hj hp (hm m h)) hi

/-- R44: the transfer under way is abandoned, and with nobody at work nothing else happens. -/
theorem react_boundaryLost {s : State} (hj : s.che.job = none) (hp : s.pass = none) (hg : s.act.gate = false) :
    react .boundaryLost s = { s with xfer := none } := by
  have ha : ({ s.act with gate := false } : Act) = s.act := by rw [← hg]
  have hc : closeGate (s.setXfer none) = { s with xfer := none } := by
    simp [closeGate, State.updAct, State.setXfer, ha]
  simp [react, boundaryLost, hc, passBoundary, passLeaving, hj, hp]

/-- R31, R33, R44: heads that leave the medium with nobody at work end the transfer, and no more. -/
theorem within_departure {before after : List Signal} {s : State} (hj : s.che.job = none) (hp : s.pass = none)
    (hg : s.act.gate = false) (hb : ∀ m ∈ before, m.silent = true) (ha : ∀ m ∈ after, m.silent = true)
    (hi : s.inbox = before ++ .boundaryLost :: after) :
    Within (before.length + 1 + after.length) s { s with inbox := [], xfer := none } := by
  have h1 := within_silent hb hj hp hi
  have h2 := Within.report (s := { s with inbox := .boundaryLost :: after }) rfl
  rw [react_boundaryLost (by exact hj) (by exact hp) (by exact hg)] at h2
  have h3 := within_silent ha (s := { s with inbox := after, xfer := none }) hj hp (List.append_nil after).symm
  exact (h1.trans h2).trans h3

/-- R34, R39: the answer of a seek that heads leaving the medium end. -/
def Act.seekEnded (a : Act) : List Signal := (a.seek.map fun k => Signal.seekAnswer k.party .aborted).toList

theorem seekEnded_silent (a : Act) : ∀ m ∈ a.seekEnded, m.silent = true := by
  cases h : a.seek <;> simp [Act.seekEnded, h, Signal.silent]

theorem seekEnded_length (a : Act) : a.seekEnded.length ≤ 1 := by
  cases h : a.seek <;> simp [Act.seekEnded, h]

theorem actAnswer_aborted (s : State) : actAnswer .aborted s =
    { s with act := { s.act with seek := none, targetEnded := s.act.targetEnded || s.act.seek.isSome },
             inbox := s.inbox ++ s.act.seekEnded } := by
  obtain ⟨h, e⟩ | ⟨k, h, e⟩ := actAnswer_cases .aborted s
  · have ea : ({ s.act with seek := none } : Act) = s.act := by rw [← h]
    simp [e, h, Act.seekEnded, ea]
  · simp [e, h, Act.seekEnded, SeekAnswer.early]

/-- R30 to R32: loaded heads begin to unload. -/
theorem actUnload_eq {s : State} (h : s.act.head.loaded = true) : actUnload s =
    { s with act := s.act.toRamp,
             inbox := s.inbox ++ s.act.seekEnded ++ [.boundaryLost, .head s.act.head .unloading] } := by
  have hne : s.act.head ≠ .unloading := by intro e; simp [e, HeadState.loaded] at h
  simp [actUnload, h, actEnterUnloading, actAnswer_aborted, actHead, State.send, State.updAct, Act.leave, Act.toRamp,
    hne]

/-- R33: heads off the ramp begin to retract. -/
theorem actRetract_eq {s : State} (h : s.act.head ≠ .parked) (h' : s.act.head ≠ .retracting) : actRetract s =
    { s with act := s.act.retracted,
             inbox := s.inbox ++ s.act.seekEnded ++ [.boundaryLost, .head s.act.head .retracting] } := by
  unfold actRetract
  split
  · contradiction
  · contradiction
  · simp [actAnswer_aborted, actHead, State.send, State.updAct, Act.leave, Act.retracted, h']

/-- R4: a quarter of t - 5,000, truncated toward zero. -/
theorem quarter_eq (t : Nat) : Int.tdiv ((t : Int) - 5000) 4 =
    if 5000 ≤ t then (((t - 5000) / 4 : Nat) : Int) else -(((5000 - t) / 4 : Nat) : Int) := by
  split
  next h =>
    rw [Int.tdiv_eq_ediv_of_nonneg (by omega)]
    omega
  next h =>
    rw [show (t : Int) - 5000 = -((5000 - t : Nat) : Int) by omega, Int.neg_tdiv, Int.tdiv_eq_ediv_of_nonneg (by omega)]
    omega

/-- R4: the model's regulation step is the manual's. -/
theorem regulate_eq_levelAfter (level t : Nat) : regulate level t = levelAfter level t := by
  unfold regulate regulationStep levelAfter
  rw [quarter_eq]
  dsimp only
  generalize (if 5000 ≤ t then (((t - 5000) / 4 : Nat) : Int) else -(((5000 - t) / 4 : Nat) : Int)) = q
  split_ifs <;> omega

/-! ## Pulses and saturated intervals -/

/-- R1: a change to a state of which PWR makes nothing is told, and the part is at rest. -/
theorem conclude_spcTell {s : State} {st : SpindleState} (hl : st ≠ .locked) (hf : st ≠ .spinFault)
    (hi : s.inbox = []) (hs : ({ s with
      spc := { s.spc with state := st }, act := { s.act with permission := false } } : State).settled = true) :
    conclude (spcTell st s) = .next { s with
      spc := { s.spc with state := st }, act := { s.act with permission := false } } := by
  have h := Within.report (s := spcTell st s) (m := .spindle st) (rest := []) (by simp [spcTell_eq, hi])
  have e : react (.spindle st) { spcTell st s with inbox := [] } =
      { s with spc := { s.spc with state := st }, act := { s.act with permission := false } } := by
    cases st <;> simp_all [react, pwrSpindle, spcTell_eq]
  rw [e] at h
  exact h.conclude_settled hs

/-- R2: SPC's interval counter starts again. -/
def State.restarted (s : State) : State := { s with spc := { s.spc with interval := 0 } }

/-- R2: a pulse at the moment of saturation, which no interval of length 0 follows. -/
theorem exec_tachPulse_zero {s : State} {ticks : Nat} (h : s.pins.logicLow = false)
    (h0 : min 65535 (s.spc.interval + ticks) = 0) : exec (.tachPulse ticks) s =
      conclude (spcPermit (loadPermission s) (spcStopInput false (spcPurgePulse s.restarted))) := by
  refine (run_of_powered h (spcTachPulse ticks)).trans ?_
  simp only [spcTachPulse, if_pos h0]
  rfl

/-- R2: a pulse that ends an interval. -/
theorem exec_tachPulse_pos {s : State} {ticks : Nat} (h : s.pins.logicLow = false)
    (h0 : 0 < min 65535 (s.spc.interval + ticks)) : exec (.tachPulse ticks) s = conclude (spcPermit (loadPermission s)
      (spcInterval (min 65535 (s.spc.interval + ticks)) false (spcPurgePulse s.restarted))) := by
  refine (run_of_powered h (spcTachPulse ticks)).trans ?_
  simp only [spcTachPulse, if_neg h0.ne']
  rfl

theorem exec_saturatedInterval {s : State} (h : s.pins.logicLow = false) : exec .saturatedInterval s =
    conclude (spcPermit (loadPermission s) (spcInterval 65535 true s.restarted)) :=
  run_of_powered h _

/-- R20: no permission is sent out of LOCKED. -/
theorem spcPermit_of_not_locked {was : Bool} {s : State} (h : s.spc.state ≠ .locked) : spcPermit was s = s := by
  simp [spcPermit, loadPermission, h]

theorem spcPurgePulse_of_other {s : State} (h1 : s.spc.state ≠ .locking) (h2 : s.spc.state ≠ .locked) :
    spcPurgePulse s = s := by
  simp [spcPurgePulse_eq, h1, h2]

/-! R19: the purge count touches nothing but the purge. -/

section counted
variable (p : Spc)
@[simp] theorem counted_state : p.counted.state = p.state := by unfold Spc.counted; split_ifs <;> rfl
@[simp] theorem counted_level : p.counted.level = p.level := by unfold Spc.counted; split_ifs <;> rfl
@[simp] theorem counted_inRun : p.counted.inRun = p.inRun := by unfold Spc.counted; split_ifs <;> rfl
@[simp] theorem counted_slowRun : p.counted.slowRun = p.slowRun := by unfold Spc.counted; split_ifs <;> rfl
@[simp] theorem counted_outRun : p.counted.outRun = p.outRun := by unfold Spc.counted; split_ifs <;> rfl
theorem counted_restarted : ({ p with interval := 0 } : Spc).counted = { p.counted with interval := 0 } := by
  unfold Spc.counted; split_ifs <;> rfl
end counted

/-- R2, R19: a pulse in LOCKING or LOCKED has been counted toward the purge. -/
theorem spcPurgePulse_restarted {s : State} (h : s.spc.state = .locking ∨ s.spc.state = .locked) :
    spcPurgePulse s.restarted = { s with spc := { s.spc.counted with interval := 0 } } := by
  rw [spcPurgePulse_eq, if_pos (by simpa [State.restarted] using h)]
  simp [State.restarted, State.updSpc, counted_restarted]

/-- Settles O13: in ACCELERATING an interval counts by its length alone. -/
theorem acceleratingInterval : Obligations.AcceleratingInterval := by
  intro s ticks hr hs
  have hu : s.restarted.spc.state = .accelerating := hs
  have hrest : conclude s.restarted = .next s.restarted :=
    conclude_of_settled (settled_of_spc hr.settled Iff.rfl)
  have hpermit : spcPermit (loadPermission s) s.restarted = s.restarted := spcPermit_of_not_locked (by simp [hu])
  have hpulse : spcPurgePulse s.restarted = s.restarted := spcPurgePulse_of_other (by simp [hu]) (by simp [hu])
  constructor
  · by_cases h0 : min 65535 (s.spc.interval + ticks) = 0
    · have e : spcStopInput false s.restarted = s.restarted := by simp [spcStopInput, hu]
      rw [exec_tachPulse_zero hr.powered h0, hpulse, e, hpermit, hrest, if_neg (by omega)]
      rfl
    · rw [exec_tachPulse_pos hr.powered (by omega), hpulse]
      by_cases hup : min 65535 (s.spc.interval + ticks) ≤ 5250
      · have e : spcInterval (min 65535 (s.spc.interval + ticks)) false s.restarted =
            spcTell .locking (s.restarted.updSpc fun p => { p with level := 160, inRun := 0, slowRun := 0 }) := by
          simp only [spcInterval, hu, if_pos hup]
        rw [e, spcPermit_of_not_locked (by simp), if_pos ⟨by omega, hup⟩]
        exact conclude_spcTell (by decide) (by decide) (settled_inbox (s := s) hr.settled)
          (settled_of_drive hr.settled (by simp [hs]) rfl)
      · have e : spcInterval (min 65535 (s.spc.interval + ticks)) false s.restarted = s.restarted := by
          simp only [spcInterval, hu, if_neg hup]
        rw [e, hpermit, hrest, if_neg (fun h => hup h.2)]
        rfl
  · have e : spcInterval 65535 true s.restarted = s.restarted := by simp [spcInterval, hu]
    rw [exec_saturatedInterval hr.powered, e, hpermit, hrest]
    rfl

/-! ## LOCKING -/

theorem lockingTick_inRun (p : Spc) (t : Nat) :
    (p.lockingTick t).inRun = if 4975 ≤ t ∧ t ≤ 5025 then p.inRun + 1 else 0 := by
  simp [Spc.lockingTick, inWindow]

theorem lockingTick_slowRun (p : Spc) (t : Nat) :
    (p.lockingTick t).slowRun = if 5750 < t then p.slowRun + 1 else 0 := rfl

theorem lockingTick_eq (p : Spc) (t : Nat) : p.lockingTick t =
    { p with level := levelAfter p.level t, inRun := if 4975 ≤ t ∧ t ≤ 5025 then p.inRun + 1 else 0,
             slowRun := if 5750 < t then p.slowRun + 1 else 0 } := by
  simp [Spc.lockingTick, inWindow, regulate_eq_levelAfter]

theorem spcInterval_locking {s : State} (h : s.spc.state = .locking) (t : Nat) (saturated : Bool) :
    spcInterval t saturated s = spcLockingInterval t s := by
  simp [spcInterval, h]

section locking
variable {s : State} {q : Spc} {t : Nat} {was saturated : Bool}

/-- R4 to R6: an interval in LOCKING short of lock and of the eighth slow one regulates and counts. -/
theorem conclude_locking_short (h : s.settled = true) (hs : s.spc.state = .locking) (hq : q.state = .locking)
    (hin : (q.lockingTick t).inRun < 24) (hslow : (q.lockingTick t).slowRun < 8) :
    conclude (spcPermit was (spcInterval t saturated { s with spc := q })) =
      .next { s with spc := q.lockingTick t } := by
  rw [spcInterval_locking (by exact hq), spcLockingInterval_eq, if_neg (Nat.not_le.2 hin), if_neg (Nat.not_le.2 hslow),
    spcPermit_of_not_locked (by simp [Spc.lockingTick, hq])]
  exact conclude_of_settled (settled_of_spc h (by simp [Spc.lockingTick, hq, hs]))

/-- R6: the eighth slow interval returns to ACCELERATING. -/
theorem conclude_locking_slow (h : s.settled = true) (hs : s.spc.state = .locking) (hq : q.state = .locking)
    (hin : (q.lockingTick t).inRun < 24) (hslow : 8 ≤ (q.lockingTick t).slowRun) :
    conclude (spcPermit was (spcInterval t saturated { s with spc := q })) = .next { s with
      spc := { q.lockingTick t with state := .accelerating, level := 255, inRun := 0, slowRun := 0 }
      act := { s.act with permission := false } } := by
  rw [spcInterval_locking (by exact hq), spcLockingInterval_eq, if_neg (Nat.not_le.2 hin), if_pos hslow,
    spcPermit_of_not_locked (by simp)]
  exact conclude_spcTell (by decide) (by decide) (settled_inbox (s := s) h) (settled_of_drive h (by simp [hs]) rfl)

end locking

/-- Settles O14: the pulse and the saturated interval differ in the purge count alone. -/
theorem lockingInterval : Obligations.LockingInterval := by
  intro s ticks hr hs hslow8
  have htaken : ∀ (was saturated : Bool) (t : Nat) (p : Spc), p.state = .locking → p.inRun = s.spc.inRun →
      p.slowRun = s.spc.slowRun →
      let out := conclude (spcPermit was (spcInterval t saturated { s with spc := { p with interval := 0 } }))
      let run := if 4975 ≤ t ∧ t ≤ 5025 then s.spc.inRun + 1 else 0
      let slow := if 5750 < t then s.spc.slowRun + 1 else 0
      (run < 24 → slow < 8 → out = .next
        { s with spc := { p with interval := 0, level := levelAfter p.level t, inRun := run, slowRun := slow } }) ∧
      (slow = 8 → out = .next
        { s with spc := { p with interval := 0, state := .accelerating, level := 255, inRun := 0, slowRun := 0 },
                 act := { s.act with permission := false } }) := by
    intro was saturated t p hp hin hslow
    dsimp only
    constructor
    · intro hrun hrun'
      rw [conclude_locking_short hr.settled hs (by exact hp) (by rwa [lockingTick_inRun, hin])
        (by rwa [lockingTick_slowRun, hslow]), lockingTick_eq]
      simp [hin, hslow]
    · intro h8
      have hlong : 5750 < t := by by_contra hn; simp [hn] at h8
      rw [conclude_locking_slow hr.settled hs (by exact hp)
        (by rw [lockingTick_inRun, if_neg (by omega)]; omega) (by rw [lockingTick_slowRun, hslow]; omega)]
      rfl
  have hpulse := spcPurgePulse_restarted (.inl hs)
  refine ⟨fun h0 => ?_, fun h0 => ?_, ?_⟩
  · rw [exec_tachPulse_zero hr.powered h0, hpulse]
    have e : spcStopInput false { s with spc := { s.spc.counted with interval := 0 } } =
        { s with spc := { s.spc.counted with interval := 0 } } := by simp [spcStopInput, hs]
    rw [e, spcPermit_of_not_locked (by simp [hs])]
    exact conclude_of_settled (settled_of_spc hr.settled (by simp [hs]))
  · dsimp only
    rw [exec_tachPulse_pos hr.powered h0, hpulse]
    exact htaken _ _ _ s.spc.counted (by simp [hs]) (by simp) (by simp)
  · dsimp only
    rw [exec_saturatedInterval hr.powered]
    exact htaken _ _ _ s.spc hs rfl rfl

/-! ## LOCKED -/

theorem lockedTick_eq (p : Spc) (t : Nat) : p.lockedTick t =
    { p with level := levelAfter p.level t, outRun := if 4975 ≤ t ∧ t ≤ 5025 then 0 else p.outRun + 1 } := by
  simp [Spc.lockedTick, inWindow, regulate_eq_levelAfter]

theorem spcInterval_locked {s : State} (h : s.spc.state = .locked) (t : Nat) (saturated : Bool) :
    spcInterval t saturated s = spcLockedInterval t s := by
  simp [spcInterval, h]

/-- R20, R28: permission where no load can start is ACT's copy and no more. -/
theorem spcPermit_of_no_load (was : Bool) {s : State} (h : s.act.loads = [] ∨ s.act.head ≠ .parked) :
    spcPermit was s =
      { s with act := { s.act with permission := s.act.permission || (!was && loadPermission s) } } := by
  have hload : actPermit s = { s with act := { s.act with permission := true } } := by
    unfold actPermit actTryLoad
    split
    · rfl
    next r rest hl =>
      have hne : s.act.head ≠ .parked := h.resolve_left (by rw [show s.act.loads = _ from hl]; simp)
      rw [if_neg (fun hh => hne hh.1)]
      rfl
  unfold spcPermit
  cases was <;> cases hp : loadPermission s <;> simp [hload]

section locked
variable {s : State} {q : Spc}

/-- R4, R7, R19, R20: whatever keeps LOCKED leaves a part at rest with the permission its purge gives. -/
theorem conclude_locked (h : s.settled = true) (hs : s.spc.state = .locked) (hl : s.act.loads = [])
    (hq : q.state = .locked) : conclude (spcPermit (loadPermission s) { s with spc := q }) = .next { s with
      spc := q
      act := { s.act with permission :=
        s.act.permission || (decide (s.spc.purge ≠ 0) && decide (q.purge = 0)) } } := by
  rw [spcPermit_of_no_load _ (.inl (by exact hl))]
  have hp : (!loadPermission s && loadPermission { s with spc := q }) =
      (decide (s.spc.purge ≠ 0) && decide (q.purge = 0)) := by simp [loadPermission, hs, hq]
  rw [hp]
  exact conclude_of_settled (settled_of_drive h (by simp [hs, hq]) rfl)

/-- R7: an interval that leaves the out-of-window run below 4 keeps lock. -/
theorem spcInterval_lockKept (hq : q.state = .locked) {t : Nat} (saturated : Bool)
    (h : (if 4975 ≤ t ∧ t ≤ 5025 then 0 else q.outRun + 1) < 4) : spcInterval t saturated { s with spc := q } =
      { s with spc := { q with
        level := levelAfter q.level t, outRun := if 4975 ≤ t ∧ t ≤ 5025 then 0 else q.outRun + 1 } } := by
  rw [spcInterval_locked (by exact hq), spcLockedInterval_eq, lockedTick_eq, if_neg (by simpa using h)]
  simp [State.updSpc, lockedTick_eq]

end locked

/-- Settles O16: lock is kept, and permission comes with the purge's end. -/
theorem lockedInterval : Obligations.LockedInterval := by
  intro s ticks hr hs hl
  have hpulse := spcPurgePulse_restarted (.inr hs)
  refine ⟨fun h0 => ?_, fun h0 hrun => ?_, fun hrun => ?_⟩
  · have e : spcStopInput false { s with spc := { s.spc.counted with interval := 0 } } =
        { s with spc := { s.spc.counted with interval := 0 } } := by simp [spcStopInput, hs]
    refine (exec_tachPulse_zero hr.powered h0).trans ?_
    rw [hpulse, e]
    exact conclude_locked hr.settled hs hl (by simp [hs])
  · refine (exec_tachPulse_pos hr.powered h0).trans ?_
    rw [hpulse, spcInterval_lockKept (by simp [hs]) _ (by simpa using hrun)]
    refine (conclude_locked hr.settled hs hl (by simp [hs])).trans ?_
    simp
  · have hout : ¬ (4975 ≤ 65535 ∧ 65535 ≤ 5025) := by decide
    refine (exec_saturatedInterval hr.powered).trans ?_
    rw [State.restarted, spcInterval_lockKept (by exact hs) _
      (by rw [if_neg hout]; exact Nat.succ_lt_succ hrun)]
    exact conclude_locked hr.settled hs hl (by exact hs)

/-! ## The lock loss -/

/-- R7: the record of a spindle that loses lock. -/
def Spc.unlocked (t : Nat) (p : Spc) : Spc :=
  { p with level := levelAfter p.level t, outRun := 4, state := .locking, inRun := 0, slowRun := 0,
           relockTimer := some 5000000 }

section lockLoss
variable {s : State} {q : Spc} {t : Nat} {saturated was : Bool}

/-- R7, R8: the fourth interval out of window loses lock. -/
theorem spcInterval_lockLost (hq : q.state = .locked) (h3 : q.outRun = 3) (ht : ¬ (4975 ≤ t ∧ t ≤ 5025)) :
    spcInterval t saturated { s with spc := q } = spcLockLossActs { s with
      spc := q.unlocked t, act := { s.act with permission := false }, inbox := s.inbox ++ [.spindle .locking] } := by
  rw [spcInterval_locked (by exact hq), spcLockedInterval_eq, if_pos (by simp [lockedTick_eq, ht, h3])]
  simp [spcTell_eq, State.updSpc, lockedTick_eq, ht, h3, Spc.unlocked]

/-- R8, log 9: over heads that are not loaded the lock loss is silent. -/
theorem conclude_lockLost_unloaded (h : s.settled = true) (hs : s.spc.state = .locked) (hl : s.act.head.loaded = false)
    (hq : q.state = .locked) (h3 : q.outRun = 3) (ht : ¬ (4975 ≤ t ∧ t ≤ 5025)) :
    conclude (spcPermit was (spcInterval t saturated { s with spc := q })) = .next { s with
      spc := q.unlocked t, act := { s.act with permission := false } } := by
  have e : spcLockLossActs { s with
      spc := q.unlocked t, act := { s.act with permission := false }, inbox := s.inbox ++ [.spindle .locking] } =
      spcTell .locking { s with spc := q.unlocked t } := by simp [spcLockLossActs, hl, spcTell_eq, Spc.unlocked]
  rw [spcInterval_lockLost hq h3 ht, e, spcPermit_of_not_locked (by simp)]
  exact conclude_spcTell (by decide) (by decide) (settled_inbox (s := s) h)
    (settled_of_drive h (by simp [hs]) rfl)

/-- R8, R32: loaded heads go to the ramp, and with nobody at work only the transfer ends with that. -/
theorem conclude_lockLost_loaded (h : s.Quiet) (hs : s.spc.state = .locked) (hl : s.act.head.loaded = true)
    (hq : q.state = .locked) (h3 : q.outRun = 3) (ht : ¬ (4975 ≤ t ∧ t ≤ 5025)) :
    conclude (spcPermit was (spcInterval t saturated { s with spc := q })) = .next { s with
      spc := q.unlocked t, act := { s.act.toRamp with permission := false }, xfer := none } := by
  set u : State := { s with
    spc := q.unlocked t, act := { s.act with permission := false }, inbox := s.inbox ++ [.spindle .locking] } with hu
  have e : spcLockLossActs u = { s with
      spc := q.unlocked t, act := { s.act.toRamp with permission := false },
      inbox := [.spindle .locking, .lockLoss] ++ s.act.seekEnded ++ [.boundaryLost, .head s.act.head .unloading] } := by
    have hl' : u.act.head.loaded = true := hl
    rw [spcLockLossActs, if_pos hl', actUnload_eq (by exact hl)]
    simp [hu, State.send, settled_inbox h.settled, Act.toRamp, Act.leave, Act.seekEnded]
  rw [spcInterval_lockLost hq h3 ht, e, spcPermit_of_not_locked (by simp [Spc.unlocked])]
  have hw := within_departure (before := [.spindle .locking, .lockLoss] ++ s.act.seekEnded)
    (after := [.head s.act.head .unloading]) (s := { s with
      spc := q.unlocked t, act := { s.act.toRamp with permission := false },
      inbox := [.spindle .locking, .lockLoss] ++ s.act.seekEnded ++ [.boundaryLost, .head s.act.head .unloading] })
    h.no_job h.no_pass rfl (by simpa [Signal.silent] using seekEnded_silent s.act) (by simp [Signal.silent]) rfl
  have hi := settled_inbox (s := s) h.settled
  have hlen := seekEnded_length s.act
  refine (hw.conclude_settled ?_ (by simp [reactionBound]; omega)).trans (by rw [hi])
  exact settled_of_rests h.settled (h.toClear.rests rfl rfl h.pass0 h.pass1 rfl rfl (unloadDue_of_not_loaded rfl))
    (by simp [lampOf, hs, Spc.unlocked]) rfl rfl rfl

end lockLoss

/-- Settles O17: the pulse and the saturated interval lose lock alike, whatever the purge count. -/
theorem lockLoss : Obligations.LockLoss := by
  intro s c t p hs h3 hc hwin
  have hexec : s.Ready → ∃ (was saturated : Bool), exec c s =
      conclude (spcPermit was (spcInterval t saturated { s with spc := { p with interval := 0 } })) := by
    intro hr
    obtain ⟨rfl, rfl, rfl⟩ | ⟨ticks, rfl, rfl, h0, rfl⟩ := hc
    · exact ⟨_, _, exec_saturatedInterval hr.powered⟩
    · exact ⟨_, _, (exec_tachPulse_pos hr.powered h0).trans (by rw [spcPurgePulse_restarted (.inr hs)])⟩
  have hp : p.state = .locked ∧ p.outRun = 3 := by
    obtain ⟨-, -, rfl⟩ | ⟨ticks, -, -, -, rfl⟩ := hc <;> simp [hs, h3]
  refine ⟨fun hr hl => ?_, fun hq hl => ?_⟩
  · obtain ⟨was, saturated, e⟩ := hexec hr
    exact e.trans (conclude_lockLost_unloaded hr.settled hs hl (by exact hp.1) (by exact hp.2) hwin)
  · obtain ⟨was, saturated, e⟩ := hexec hq.toReady
    exact e.trans (conclude_lockLost_loaded hq hs hl (by exact hp.1) (by exact hp.2) hwin)

end Sys2Proof.Machine
end

section
/-! PROOF. Chapters 1 and 9 together: the stop test, the timeouts and the lock, with what PWR makes of them. -/

namespace Sys2Proof.Machine

/-! ## What a part at rest has left undone -/

theorem unloadOrGrant_none_iff (s : State) : unloadOrGrant s = none ↔
    ¬ (unloadDue s = true ∧ unloadAllowed s = true) ∧ arbiterChoice s = none := by
  unfold unloadOrGrant
  split
  next h =>
    cases arbiterChoice s with
    | none => simp [h]
    | some g => simp only; split <;> simp
  next h => simp [h]

theorem idleRule_none_iff (s : State) : idleRule s = none ↔
    drained s = false ∧ freeStarter s = none ∧ heldEjectDue s = none ∧ lendsTo s = none ∧ readWaits s = none ∧
      writeNeeds s = none ∧ unloadOrGrant s = none ∧ waitingFrame s = none := by
  unfold idleRule
  cases drained s <;> cases freeStarter s <;> cases heldEjectDue s <;> cases lendsTo s <;> cases readWaits s <;>
    cases writeNeeds s <;> cases unloadOrGrant s <;> simp

/-- A part at rest stays at rest where only SPC's, ACT's, PWR's and NTU's records change, the drive stays in or out of
FAULT HOLD, and PWR has no unload to send that it had not before. -/
theorem rests_of_drive {s : State} (h : s.settled = true) {p : Spc} {a : Act} {w : Pwr} {n : Ntu}
    (hf : w.state = .faultHold ↔ s.pwr.state = .faultHold)
    (hu : unloadDue { s with spc := p, act := a, pwr := w, ntu := n } = true → unloadDue s = true) :
    settleOnce { s with spc := p, act := a, pwr := w, ntu := n } = none := by
  obtain ⟨hi, hidle⟩ := (settleOnce_none_iff s).1 (settled_rest h)
  obtain ⟨hdrained, hfree, heject, hlends, hread, hwrite, hgrant, hwait⟩ := (idleRule_none_iff s).1 hidle
  obtain ⟨hunload, hchoice⟩ := (unloadOrGrant_none_iff s).1 hgrant
  refine (settleOnce_none_iff _).2 ⟨hi, (idleRule_none_iff _).2
    ⟨hdrained, ?_, heject, hlends, hread, hwrite,
      (unloadOrGrant_none_iff _).2 ⟨fun ⟨hd, ha⟩ => hunload ⟨hu hd, ha⟩, ?_⟩, hwait⟩⟩
  · rw [← hfree]
    simp only [freeStarter, ne_eq, hf]
    rfl
  · rw [← hchoice]
    simp only [arbiterChoice, ne_eq, hf]
    rfl

/-- With nothing on hand PWR has no unload to send. -/
theorem State.Clear.no_unload {s : State} (h : s.Clear) : unloadDue s = false := by
  obtain ⟨-, -, -, -, -, -, hgrant, -⟩ := (idleRule_none_iff s).1 (settled_idle h.settled)
  have hn := ((unloadOrGrant_none_iff s).1 hgrant).1
  simpa [unloadAllowed, h.mech] using hn

/-! ## PWR's record -/

/-- R168: the report that a SET POWER wait is over. -/
def State.reachedBy (s : State) (p : PowerState) : List Signal :=
  if s.pwr.state ≠ p ∧ s.pwr.setWait = some p then [.reached] else []

theorem reachedBy_silent (s : State) (p : PowerState) : ∀ m ∈ s.reachedBy p, m.silent = true := by
  unfold State.reachedBy
  split <;> simp [Signal.silent]

theorem reachedBy_length (s : State) (p : PowerState) : (s.reachedBy p).length ≤ 1 := by
  unfold State.reachedBy
  split <;> simp

theorem pwrSetState_eq (p : PowerState) (s : State) :
    pwrSetState p s = { powerBecomes p s with inbox := s.inbox ++ s.reachedBy p } := by
  obtain ⟨h, e⟩ | ⟨h, hw, e⟩ | ⟨h, hw, e⟩ := pwrSetState_cases p s
  · simp [e, powerBecomes, State.reachedBy, h]
  · simp [e, powerBecomes, State.reachedBy, h, hw]
  · simp [e, powerBecomes, State.reachedBy, h, hw]

/-- R159: a change of power state touches PWR's record and NTU's. -/
theorem powerBecomes_eq (p : PowerState) (s : State) : powerBecomes p s = { s with
    pwr := { s.pwr with
      state := p
      setWait := if s.pwr.state ≠ p ∧ s.pwr.setWait = some p then none else s.pwr.setWait }
    ntu := if s.pwr.state = p then s.ntu else s.ntu.attend (.powerState p s.pwr.state) } := by
  unfold powerBecomes
  by_cases h : s.pwr.state = p
  · subst h
    simp
  · simp [h]

/-- With no mount pass VOL has none to abandon. -/
theorem volAbandon_of_no_pass (code : EndCode) {s : State} (h : s.pass = none) : volAbandon code s = s := by
  simp [volAbandon, h]

/-- With no chain in the table there is none to go through. -/
theorem slotsOldestFirst_of_no_chain (p : Chain → Bool) {s : State} (h : s.chains = []) :
    slotsOldestFirst p s = [] := by
  have hgo : ∀ n, slotsOldestFirst.go n [] = [] := by rintro (_ | _) <;> simp [slotsOldestFirst.go, oldest]
  simp [slotsOldestFirst, h, hgo]

/-- R161: the move is over, and a SET POWER that waits for it is told. -/
theorem pwrAtTarget_eq {s : State} (hp : s.pass = none) : pwrAtTarget s =
    { targetReached s with inbox := s.inbox ++ s.reachedBy s.pwr.target } := by
  unfold pwrAtTarget targetReached
  dsimp only
  rw [pwrSetState_eq]
  by_cases h : s.pwr.target = .dormant ∧ s.pwr.state ≠ .dormant
  · rw [if_pos h, if_pos h, volDormant, volAbandon_of_no_pass _ (by simpa [powerBecomes_eq] using hp)]
    simp only [powerBecomes_eq]
    rfl
  · rw [if_neg h, if_neg h]
    rfl

/-- R65, R161: what reaching the target touches: PWR's record, with its move over, NTU's, and the contexts. -/
theorem targetReached_eq (s : State) : ∃ w n v0 v1, targetReached s =
    { s with pwr := w, ntu := n, vol0 := v0, vol1 := v1 } ∧ w.progress = .none ∧
      (s.vol0.pass = .none → v0.pass = .none) ∧ (s.vol1.pass = .none → v1.pass = .none) := by
  unfold targetReached
  dsimp only
  rw [powerBecomes_eq]
  split
  · refine ⟨_, _, _, _, rfl, rfl, fun _ => rfl, fun _ => ?_⟩
    split <;> rfl
  · exact ⟨_, _, _, _, rfl, rfl, id, id⟩

/-! ## The stop test -/

/-- R14, R18: the answers to the stop waiters. -/
def Spc.stopAnswers (p : Spc) : List Signal :=
  (if p.waitPwr = true then [.stopped .pwr] else []) ++ if p.waitRcv = true then [.stopped .rcv] else []

theorem spcAnswerStopped_eq (s : State) : spcAnswerStopped s =
    { s with spc := { s.spc with waitPwr := false, waitRcv := false }, inbox := s.inbox ++ s.spc.stopAnswers } := by
  cases hp : s.spc.waitPwr <;> cases hr : s.spc.waitRcv <;>
    simp [spcAnswerStopped, Spc.stopAnswers, State.send, State.updSpc, hp, hr]

/-- R153: RCV does nothing at STOPPED outside STOPPING. -/
theorem unheeded_stopped {s : State} (h : s.rcv.stage = .none) : s.Unheeded (.stopped .rcv) := by
  intro i
  simp [react, rcvStopped, h]

/-- R161, R170: PWR answered STOPPED, in terms of the move it waits with. -/
theorem pwrStopped_eq {s : State} (hp : s.pass = none) :
    ∃ ms : List Signal, (∀ m ∈ ms, m.silent = true) ∧ ms.length ≤ 1 ∧
    pwrStopped s = { (if s.pwr.progress = .waitStopped then
        if s.pwr.state = .faultHold then { s with pwr := { s.pwr with progress := .none } } else targetReached s
      else s) with inbox := s.inbox ++ ms } := by
  unfold pwrStopped
  split
  · split
    · exact ⟨[], by simp, by simp, by simp [State.updPwr]⟩
    · exact ⟨_, reachedBy_silent s _, reachedBy_length s _, pwrAtTarget_eq hp⟩
  · exact ⟨[], by simp, by simp, by simp⟩

/-- What reaching the target makes of PWR, NTU and the volumes reads nothing of SPC or of the reports on their way. -/
theorem targetReached_frame (s : State) (p : Spc) (i : List Signal) :
    targetReached { s with spc := p, inbox := i } = { targetReached s with spc := p, inbox := i } := by
  unfold targetReached
  simp only [powerBecomes_eq]
  split <;> rfl

/-- R161, R170: what the answer to PWR touches, if anything. -/
theorem stoppedAnswered_eq (s : State) : ∃ w n v0 v1, stoppedAnswered s =
    { s with pwr := w, ntu := n, vol0 := v0, vol1 := v1 } ∧ (w = s.pwr ∨ w.progress = .none) ∧
      (s.vol0.pass = .none → v0.pass = .none) ∧ (s.vol1.pass = .none → v1.pass = .none) := by
  unfold stoppedAnswered
  split
  · split
    · exact ⟨_, _, _, _, rfl, .inr rfl, id, id⟩
    · obtain ⟨w, n, v0, v1, e, hw, h0, h1⟩ := targetReached_eq s
      exact ⟨w, n, v0, v1, e, .inr hw, h0, h1⟩
  · exact ⟨_, _, _, _, rfl, .inl rfl, id, id⟩

/-- R14, R18, R161, R170: the waiters are answered STOPPED, and only PWR makes something of it. -/
theorem within_stopAnswers {s : State} (hj : s.che.job = none) (hp : s.pass = none) (hstage : s.rcv.stage = .none)
    {p : Spc} {tail : List Signal} (htail : ∀ m ∈ tail, m.silent = true) :
    Within (3 + tail.length) { s with spc := p, inbox := s.spc.stopAnswers ++ tail }
      { stoppedAnswered s with spc := p, inbox := [] } := by
  set rest : List Signal := (if s.spc.waitRcv = true then [.stopped .rcv] else []) ++ tail with hrest
  have hlen : rest.length ≤ 1 + tail.length := by
    rw [hrest]; split <;> simp [Nat.add_comm]
  have hun : ∀ (t : State) (ms : List Signal), t.che.job = none → t.pass = none → t.rcv.stage = .none →
      (∀ m ∈ ms, m.silent = true) → ∀ m ∈ rest ++ ms, t.Unheeded m := by
    intro t ms htj htp hts hms m hm
    rcases List.mem_append.1 hm with hm | hm
    · rcases List.mem_append.1 hm with hm | hm
      · split at hm
        · rw [List.mem_singleton.1 hm]; exact unheeded_stopped hts
        · cases hm
      · exact unheeded_of_silent htj htp (htail m hm)
    · exact unheeded_of_silent htj htp (hms m hm)
  by_cases hw : s.spc.waitPwr = true
  · obtain ⟨ms, hms, hlen', e⟩ := pwrStopped_eq (s := { s with spc := p, inbox := rest }) hp
    have h1 := Within.report (s := { s with spc := p, inbox := s.spc.stopAnswers ++ tail }) (m := .stopped .pwr)
      (rest := rest) (by simp [Spc.stopAnswers, hw, hrest])
    have e' : react (.stopped .pwr) { s with spc := p, inbox := rest } =
        { stoppedAnswered s with spc := p, inbox := rest ++ ms } := by
      rw [show react (.stopped .pwr) { s with spc := p, inbox := rest } =
        pwrStopped { s with spc := p, inbox := rest } from rfl, e, targetReached_frame]
      unfold stoppedAnswered
      by_cases hg : s.pwr.progress = .waitStopped
      · by_cases hf : s.pwr.state = .faultHold <;> simp [hw, hg, hf]
      · simp [hg]
    have h1' : Within 1 { s with spc := p, inbox := s.spc.stopAnswers ++ tail }
      { stoppedAnswered s with spc := p, inbox := rest ++ ms } := e' ▸ h1
    obtain ⟨w, n, v0, v1, ea, -⟩ := stoppedAnswered_eq s
    have h2 := within_unheeded (ms := rest ++ ms) (rest := [])
      (s := { stoppedAnswered s with spc := p, inbox := rest ++ ms })
      (by rw [ea]; exact hun _ ms hj hp hstage hms) (List.append_nil _).symm
    exact (h1'.trans h2).mono (by simp; omega)
  · have ea : stoppedAnswered s = s := by simp [stoppedAnswered, hw]
    have h2 := within_unheeded (ms := rest) (rest := []) (s := { s with spc := p, inbox := rest })
      (by simpa using hun { s with spc := p, inbox := rest } [] hj hp hstage (by simp)) (List.append_nil _).symm
    rw [ea, show s.spc.stopAnswers ++ tail = rest by simp [Spc.stopAnswers, hw, hrest]]
    exact h2.mono (by omega)

/-- R14, R18: with nothing on hand a stop comes to rest at the answers to its waiters. -/
theorem conclude_stopped {s : State} (h : s.Clear) (p : Spc) {tail : List Signal} (htail : ∀ m ∈ tail, m.silent = true)
    (hlen : tail.length ≤ 1) : conclude { s with
      spc := p, act := { s.act with permission := false },
      inbox := .spindle .stopped :: (s.spc.stopAnswers ++ tail) } = .next (State.rest
        { stoppedAnswered { s with act := { s.act with permission := false } } with spc := p }) := by
  have h1 := within_silent (ms := [.spindle .stopped]) (rest := s.spc.stopAnswers ++ tail) (by simp [Signal.silent])
    (s := { s with
      spc := p, act := { s.act with permission := false },
      inbox := .spindle .stopped :: (s.spc.stopAnswers ++ tail) }) h.no_job h.no_pass rfl
  have h2 := within_stopAnswers (s := { s with act := { s.act with permission := false } }) h.no_job h.no_pass h.stage
    (p := p) htail
  obtain ⟨w, n, v0, v1, ea, hw, h0, h1'⟩ := stoppedAnswered_eq { s with act := { s.act with permission := false } }
  have hi := settled_inbox (s := s) h.settled
  have hu : ∀ x : State, x.pwr = w → x.act = { s.act with permission := false } → unloadDue x = false := by
    intro x hx ha
    rcases hw with hw | hw
    · exact (show unloadDue x = unloadDue s by simp [unloadDue, hx, ha, hw]).trans h.no_unload
    · exact unloadDue_of_progress (by simp [hx, hw])
  have h3 := (h1.trans h2).conclude (h.rests rfl (by rw [ea]) (by rw [ea]; exact h0 h.pass0)
    (by rw [ea]; exact h1' h.pass1) (by rw [ea]) (by rw [ea]) (hu _ (by rw [ea]) (by rw [ea])))
    (by simp [reactionBound]; omega)
  refine h3.trans ?_
  rw [ea, ← hi]

theorem spcTakeStart_eq (s : State) : spcTakeStart s = { s with
    spc := s.spc.started (longPurge s), act := { s.act with permission := false },
    inbox := s.inbox ++ [.spindle .accelerating] } := by
  simp [spcTakeStart, spcTell_eq, State.updSpc, Spc.started]

/-- R14: the record of a spindle that has stopped in BRAKING. -/
def Spc.atRest (p : Spc) : Spc :=
  { p with state := .stopped, level := 0, brake := false, brakeTimer := none, waitPwr := false, waitRcv := false }

/-- R13, R14: the stop test passes in BRAKING, and a held start is taken. -/
theorem spcStopped_eq (s : State) : spcStopped s = { s with
    spc := if s.spc.heldStart = none then s.spc.atRest else s.spc.started (longPurge s)
    act := { s.act with permission := false }
    inbox := s.inbox ++ .spindle .stopped ::
      (s.spc.stopAnswers ++ if s.spc.heldStart = none then [] else [.spindle .accelerating]) } := by
  unfold spcStopped
  rw [spcAnswerStopped_eq]
  cases hh : s.spc.heldStart with
  | none => simp [spcTell_eq, State.updSpc, hh, Spc.atRest, Spc.stopAnswers]
  | some y => simp [spcTell_eq, State.updSpc, hh, Spc.stopAnswers, spcTakeStart_eq, Spc.started, longPurge]

/-- R18: the stop test passes in SPIN FAULT with a waiter. -/
theorem spcConfirmed_eq {s : State} (h : s.spc.waitPwr = true ∨ s.spc.waitRcv = true) : spcConfirmed s = { s with
    spc := { s.spc with state := .stopped, brake := false, waitPwr := false, waitRcv := false }
    act := { s.act with permission := false }
    inbox := s.inbox ++ .spindle .stopped :: s.spc.stopAnswers } := by
  rw [spcConfirmed, if_pos h, spcAnswerStopped_eq]
  simp [spcTell_eq, State.updSpc, Spc.stopAnswers]

/-- Where the stop test runs, a pulse and a saturated interval are its inputs and nothing else. -/
def Spc.testing (p : Spc) : Prop := p.state = .braking ∨ p.state = .spinFault ∧ p.stopConfirmed = false

theorem spcInterval_testing {s : State} (h : s.spc.testing) (t : Nat) (saturated : Bool) :
    spcInterval t saturated s = spcStopInput saturated s := by
  obtain h | ⟨h, -⟩ := h <;> simp [spcInterval, h]

theorem testing_not_locked {p : Spc} (h : p.testing) : p.state ≠ .locking ∧ p.state ≠ .locked := by
  obtain h | ⟨h, -⟩ := h <;> simp [h]

/-- R14, R18: what passing the test leads to in each of the two states. -/
def stopPassed (s : State) : State → State := if s.spc.state = .braking then spcStopped else spcConfirmed

theorem spcStopInput_testing {s : State} (h : s.spc.testing) (saturated : Bool) :
    spcStopInput saturated s = spcStopTest saturated (stopPassed s) s := by
  obtain h | ⟨h, hc⟩ := h
  · simp [spcStopInput, stopPassed, h]
  · simp [spcStopInput, stopPassed, h, hc]

/-- A tach pulse starts the stop test again, whatever its interval (log 8). -/
theorem exec_tachPulse_testing {s : State} (hr : s.Ready) (h : s.spc.testing) (ticks : Nat) :
    exec (.tachPulse ticks) s = .next { s with spc := { s.spc with interval := 0, satRun := 0 } } := by
  have hu : s.restarted.spc.testing := h
  have e : spcStopInput false (spcPurgePulse s.restarted) =
      { s with spc := { s.spc with interval := 0, satRun := 0 } } := by
    rw [spcPurgePulse_of_other (testing_not_locked hu).1 (testing_not_locked hu).2, spcStopInput_testing hu]
    rfl
  have hrest : conclude (spcPermit (loadPermission s) { s with spc := { s.spc with interval := 0, satRun := 0 } }) =
      .next { s with spc := { s.spc with interval := 0, satRun := 0 } } := by
    rw [spcPermit_of_not_locked (by exact (testing_not_locked h).2)]
    exact conclude_of_settled (settled_of_spc hr.settled Iff.rfl)
  by_cases h0 : min 65535 (s.spc.interval + ticks) = 0
  · rw [exec_tachPulse_zero hr.powered h0, e, hrest]
  · have hp : (spcPurgePulse s.restarted).spc.testing := by
      rwa [spcPurgePulse_of_other (testing_not_locked hu).1 (testing_not_locked hu).2]
    rw [exec_tachPulse_pos hr.powered (by omega), spcInterval_testing hp, e, hrest]

theorem exec_saturatedInterval_testing {s : State} (hr : s.Ready) (h : s.spc.testing) :
    exec .saturatedInterval s =
      conclude (spcPermit (loadPermission s) (spcStopTest true (stopPassed s.restarted) s.restarted)) := by
  have hu : s.restarted.spc.testing := h
  rw [exec_saturatedInterval hr.powered, spcInterval_testing hu, spcStopInput_testing hu]

/-- The sixth saturated interval in a row passes the test. -/
theorem spcStopTest_passes {s : State} (passed : State → State) (h : s.spc.satRun = 5) :
    spcStopTest true passed s.restarted = passed { s with spc := { s.spc with interval := 0, satRun := 6 } } := by
  simp [spcStopTest, State.restarted, State.updSpc, h]

/-- Settles O18: a pulse restarts the test, five saturated intervals count, and the sixth passes it. -/
theorem stopTest : Obligations.StopTest := by
  intro s ticks h
  have ht : s.spc.testing := h
  refine ⟨fun hr => exec_tachPulse_testing hr ht ticks, fun hr h5 => ?_, fun hc h5 hs => ?_, fun hc h5 hs hw => ?_,
    fun hr h5 hs hp hq => ?_⟩
  · have e : spcStopTest true (stopPassed s.restarted) s.restarted =
        { s with spc := { s.spc with interval := 0, satRun := s.spc.satRun + 1 } } := by
      obtain ⟨hf, -⟩ | ⟨-, -, e⟩ | ⟨-, h5', -⟩ := spcStopTest_cases true (stopPassed s.restarted) s.restarted
      · cases hf
      · exact e
      · exact absurd h5 (Nat.not_lt.2 h5')
    rw [exec_saturatedInterval_testing hr ht, e, spcPermit_of_not_locked (by exact (testing_not_locked ht).2)]
    exact conclude_of_settled (settled_of_spc hr.settled Iff.rfl)
  · have hi := settled_inbox (s := s) hc.settled
    rw [exec_saturatedInterval_testing hc.toReady ht, spcStopTest_passes _ h5,
      show stopPassed s.restarted = spcStopped from if_pos hs, spcStopped_eq,
      spcPermit_of_not_locked (by cases hh : s.spc.heldStart <;> simp [hh, Spc.atRest, Spc.started])]
    refine (congrArg conclude ?_).trans ((conclude_stopped hc
      (if s.spc.heldStart = none then { s.spc with interval := 0, satRun := 6 }.atRest
        else { s.spc with interval := 0, satRun := 6 }.started (longPurge s))
      (tail := if s.spc.heldStart = none then [] else [.spindle .accelerating]) ?_ ?_).trans ?_)
    · simp only [hi, List.nil_append]
      rfl
    · split <;> simp [Signal.silent]
    · split <;> simp
    · by_cases hh : s.spc.heldStart = none
      · simp only [if_pos hh]
        rfl
      · simp only [if_neg hh]
        rfl
  · have hi := settled_inbox (s := s) hc.settled
    rw [exec_saturatedInterval_testing hc.toReady ht, spcStopTest_passes _ h5,
      show stopPassed s.restarted = spcConfirmed from if_neg (by simp [State.restarted, hs]),
      spcConfirmed_eq (by exact hw),
      spcPermit_of_not_locked (by simp)]
    refine (congrArg conclude ?_).trans (conclude_stopped hc
      { s.spc with interval := 0, satRun := 6, state := .stopped, brake := false, waitPwr := false, waitRcv := false }
      (tail := []) (by simp) (by simp))
    simp only [hi, List.nil_append, List.append_nil]
    rfl
  · have e : spcConfirmed { s with spc := { s.spc with interval := 0, satRun := 6 } } =
        { s with spc := { s.spc with interval := 0, satRun := 6, brake := false, stopConfirmed := true } } := by
      simp [spcConfirmed, hp, hq, State.updSpc]
    rw [exec_saturatedInterval_testing hr ht, spcStopTest_passes _ h5,
      show stopPassed s.restarted = spcConfirmed from if_neg (by simp [State.restarted, hs]), e,
      spcPermit_of_not_locked (by simp [hs])]
    exact conclude_of_settled (settled_of_spc hr.settled (by simp))

end Sys2Proof.Machine
end

section
/-! PROOF. Chapters 1 and 9: the timeouts and the lock, with what PWR makes of them. -/

namespace Sys2Proof.Machine

/-! ## SPIN FAULT -/

/-- R15 to R18: the record of a spindle that enters SPIN FAULT. -/
def Spc.faulted (p : Spc) : Spc :=
  { p with
    state := .spinFault, level := 0, brake := true, stopConfirmed := false, lastStop := .spinFault,
    startTimer := none, relockTimer := none, brakeTimer := none, inRun := 0, slowRun := 0, outRun := 0,
    satRun := if p.state = .braking then p.satRun else 0 }

theorem spcSpinFault_eq (s : State) : spcSpinFault s = { s with
    spc := s.spc.faulted, act := { s.act with permission := false },
    inbox := s.inbox ++ [.spindle .spinFault, .spinFault] } := by
  simp [spcSpinFault, spcTell_eq, State.updSpc, State.send, Spc.faulted]

/-- R164: the record PWR falls, or from DORMANT rises, to SLEEP with. -/
def Pwr.sunk (w : Pwr) : Pwr :=
  { w with
    target := w.target.atSpinFault, progress := if w.progress = .waitSpin then .none else w.progress
    descent := if w.target.atSpinFault.below w.atSpinFault then w.descent else none }

theorem pwrSpinFault_eq {s : State} (h : s.pwr.state ≠ .faultHold) : pwrSpinFault s =
    { powerBecomes s.pwr.atSpinFault { s with pwr := s.pwr.sunk } with
      inbox := s.inbox ++ s.reachedBy s.pwr.atSpinFault } := by
  rw [pwrSpinFault, if_neg h, pwrSetState_eq]
  rfl

/-- R164: with nothing on hand and the heads on the ramp, PWR alone acts on a spin fault. -/
theorem conclude_spinFault {s : State} (h : s.Clear) (hl : s.act.head.loaded = false) : conclude (spcSpinFault s) =
    .next (State.rest (
      let fault := { s with spc := s.spc.faulted, act := { s.act with permission := false } }
      if s.pwr.state = .faultHold then fault
      else powerBecomes s.pwr.atSpinFault { fault with pwr := s.pwr.sunk })) := by
  have hi := settled_inbox (s := s) h.settled
  have hmem : ∀ m ∈ [Signal.spinFault], m.silent = true := by simp [Signal.silent]
  set fault : State := { s with spc := s.spc.faulted, act := { s.act with permission := false } } with hfault
  have hw := Within.report (s := spcSpinFault s) (m := .spindle .spinFault) (rest := [.spinFault])
    (by simp [spcSpinFault_eq, hi])
  have hr : react (.spindle .spinFault) { spcSpinFault s with inbox := [.spinFault] } =
      pwrSpinFault { fault with inbox := [.spinFault] } := by rw [spcSpinFault_eq]; rfl
  rw [hr] at hw
  dsimp only
  split
  next hf =>
    rw [pwrSpinFault, if_pos (by exact hf)] at hw
    have hw' := hw.trans (within_silent (s := { fault with inbox := [.spinFault] }) hmem h.no_job h.no_pass
      (List.append_nil _).symm)
    refine (hw'.conclude (h.rests rfl rfl h.pass0 h.pass1 rfl rfl (unloadDue_of_not_loaded hl))).trans ?_
    rw [← hi]
  next hf =>
    rw [pwrSpinFault_eq (by exact hf)] at hw
    have hlen := reachedBy_length fault s.pwr.atSpinFault
    have hw' := hw.trans (within_silent (ms := [.spinFault] ++ fault.reachedBy s.pwr.atSpinFault) (rest := [])
      (by
        intro m hm
        rcases List.mem_append.1 hm with hm | hm
        · exact hmem m hm
        · exact reachedBy_silent _ _ m hm)
      (by simpa [powerBecomes_eq] using h.no_job) (by simpa [powerBecomes_eq] using h.no_pass) (List.append_nil _).symm)
    have hw'' := hw'.conclude (by
      rw [powerBecomes_eq]
      exact h.rests rfl rfl h.pass0 h.pass1 rfl rfl (unloadDue_of_not_loaded hl)) (by simp [reactionBound]; omega)
    refine hw''.trans ?_
    simp only [powerBecomes_eq]
    rw [← hi]

/-- Settles O19: each of the three timeouts enters SPIN FAULT, and PWR follows. -/
theorem spinFaultEntered : Obligations.SpinFaultEntered := by
  intro s c h hl hc
  have e : exec c s = conclude (spcSpinFault s) := by
    obtain ⟨rfl, ht, hs⟩ | ⟨rfl, ht, hs⟩ | ⟨rfl, ht, hs⟩ := hc
    · exact (run_of_powered h.powered spcStartExpiry).trans
        (congrArg conclude (if_pos ⟨Option.isSome_iff_ne_none.2 ht, hs⟩))
    · exact (run_of_powered h.powered spcRelockExpiry).trans
        (congrArg conclude (if_pos ⟨Option.isSome_iff_ne_none.2 ht, hs⟩))
    · exact (run_of_powered h.powered spcBrakeExpiry).trans
        (congrArg conclude (if_pos ⟨Option.isSome_iff_ne_none.2 ht, hs⟩))
  refine ⟨fun hf => ?_, fun hf => ?_⟩
  · exact e.trans ((conclude_spinFault h hl).trans (by simp only [if_pos hf]; rfl))
  · exact e.trans ((conclude_spinFault h hl).trans (by simp only [if_neg hf]; rfl))

end Sys2Proof.Machine
end

section
/-! PROOF. Chapters 1, 2 and 9: LOCKED, with the load and the power state it brings. -/

namespace Sys2Proof.Machine

/-- R168: an order other than one that waits for a power state does nothing at REACHED. -/
theorem unheeded_reached {s : State} (h : ∀ j ∈ s.che.job, j.phase ≠ .power) : s.Unheeded .reached := by
  intro i
  cases hj : s.che.job with
  | none => simp [react, jobReached, hj]
  | some j => simp [react, jobReached, hj, h j hj]

theorem unheeded_reachedBy {s : State} (h : ∀ j ∈ s.che.job, j.phase ≠ .power) (t : State) (p : PowerState) :
    ∀ m ∈ t.reachedBy p, s.Unheeded m := by
  intro m hm
  unfold State.reachedBy at hm
  split at hm
  · rw [List.mem_singleton.1 hm]
    exact unheeded_reached h
  · cases hm

/-- R163: the power state PWR's move up ends in at LOCKED. -/
def Pwr.risesTo (w : Pwr) : PowerState :=
  if w.target = .standby ∧ (w.state = .sleep ∨ w.state = .dormant) then .standby
  else if w.target = .active ∧ w.progress = .waitSpin ∧ ((w.state = .sleep ∨ w.state = .dormant) ∨ w.state = .standby)
    then .active
  else w.state

/-- R163: PWR's record where its move up has ended. -/
def Pwr.risen (w : Pwr) : Pwr := { w with progress := if w.risesTo = w.state then w.progress else .none }

theorem pwrLocked_eq (s : State) : pwrLocked s =
    { powerBecomes s.pwr.risesTo { s with pwr := s.pwr.risen } with
      inbox := s.inbox ++ s.reachedBy s.pwr.risesTo } := by
  have hmove : ∀ p, s.pwr.risesTo = p → p ≠ s.pwr.state →
      pwrSetState p (s.updPwr fun w => { w with progress := .none }) =
        { powerBecomes s.pwr.risesTo { s with pwr := s.pwr.risen } with
          inbox := s.inbox ++ s.reachedBy s.pwr.risesTo } := by
    intro p hp hne
    rw [pwrSetState_eq, Pwr.risen, hp, if_neg hne]
    rfl
  unfold pwrLocked
  split
  next h => exact hmove _ (if_pos h) (by obtain ⟨-, h | h⟩ := h <;> simp [h])
  next h =>
    split
    next h' =>
      obtain ⟨ht, hp, hs⟩ := h'
      exact hmove _ ((if_neg h).trans (if_pos ⟨ht, hp, by tauto⟩)) (by obtain h | h | h := hs <;> simp [h])
    next h' =>
      have e : s.pwr.risesTo = s.pwr.state := (if_neg h).trans (if_neg fun ⟨ht, hp, hs⟩ => h' ⟨ht, hp, by tauto⟩)
      have ew : s.pwr.risen = s.pwr := by simp [Pwr.risen, e]
      simp [e, ew, powerBecomes, State.reachedBy]

/-- R163: PWR's record where a load has begun. -/
def Pwr.loading (w : Pwr) : Pwr := { w with target := .active, progress := .none, descent := none }

theorem pwrLoading_eq (s : State) : pwrLoading s = if s.pwr.state = .faultHold then { s with pwr := s.pwr.loading }
    else { powerBecomes .active { s with pwr := s.pwr.loading } with inbox := s.inbox ++ s.reachedBy .active } := by
  have hmove := pwrSetState_eq .active { s with pwr := s.pwr.loading }
  cases h : s.pwr.state with
  | active => simp [pwrLoading, h, powerBecomes, State.reachedBy, Pwr.loading, State.updPwr]
  | faultHold => simp [pwrLoading, h, Pwr.loading, State.updPwr]
  | standby => simp only [pwrLoading, h]; exact hmove
  | sleep => simp only [pwrLoading, h]; exact hmove
  | dormant => simp only [pwrLoading, h]; exact hmove

theorem risesTo_faultHold_iff (w : Pwr) : w.risesTo = .faultHold ↔ w.state = .faultHold := by
  unfold Pwr.risesTo
  split
  next h => obtain ⟨-, h | h⟩ := h <;> simp [h]
  next =>
    split
    next h => obtain ⟨-, -, (h | h) | h⟩ := h <;> simp [h]
    next => rfl

/-- R20, R28: permission with parked heads and a waiting requester starts the load of the first one. -/
theorem spcPermit_of_load {s : State} (hp : loadPermission s = true) (hh : s.act.head = .parked) {r : LoadRequest}
    {rest : List LoadRequest} (hl : s.act.loads = r :: rest) : spcPermit false s = { s with
      act := { s.act with
        permission := true, head := .loading, comb := 2 * r.volume.toNat, attempt := 1, acquisition := some 400000 }
      inbox := s.inbox ++ [.head .parked .loading] } := by
  simp [spcPermit, hp, actPermit, actTryLoad, State.updAct, hl, hh, actHead, State.send]

section lock
variable {s : State} {q : Spc} {a : Act}

/-- R5: the record of a spindle that enters LOCKED. -/
def Spc.lockedAfter (t : Nat) (p : Spc) : Spc :=
  { p with
    level := levelAfter p.level t, inRun := 24, slowRun := 0, state := .locked, outRun := 0, startTimer := none,
    relockTimer := none }

/-- R5: the 24th interval in the window reaches lock. -/
theorem spcInterval_lockReached {t : Nat} (hq : q.state = .locking) (h23 : q.inRun = 23) (h : 4975 ≤ t) (h' : t ≤ 5025)
    (saturated : Bool) : spcInterval t saturated { s with spc := q } =
      { s with spc := q.lockedAfter t, inbox := s.inbox ++ [.spindle .locked] } := by
  have hslow : ¬ 5750 < t := by omega
  rw [spcInterval_locking (by exact hq), spcLockingInterval_eq,
    if_pos (by simp [lockingTick_inRun, h, h', h23])]
  simp [spcTell_eq, State.updSpc, lockingTick_eq, h, h', h23, hslow, Spc.lockedAfter]

/-- R163: at LOCKED PWR's move up ends. -/
theorem within_locked {tail : List Signal} :
    Within 1 { s with spc := q, act := a, inbox := .spindle .locked :: tail }
      { powerBecomes s.pwr.risesTo { s with spc := q, act := a, pwr := s.pwr.risen } with
        inbox := tail ++ s.reachedBy s.pwr.risesTo } := by
  have h := Within.report (s := { s with spc := q, act := a, inbox := .spindle .locked :: tail }) rfl
  have e : react (.spindle .locked) { s with spc := q, act := a, inbox := tail } =
      { powerBecomes s.pwr.risesTo { s with spc := q, act := a, pwr := s.pwr.risen } with
        inbox := tail ++ s.reachedBy s.pwr.risesTo } := by
    refine (pwrLocked_eq { s with spc := q, act := a, inbox := tail }).trans ?_
    simp only [powerBecomes_eq]
    rfl
  exact e ▸ h

/-- R159: where PWR rises or stays, the part stays at rest. -/
theorem rests_risen (h : s.settled = true) (ha : a.head = s.act.head) :
    settleOnce (powerBecomes s.pwr.risesTo { s with spc := q, act := a, pwr := s.pwr.risen }) = none := by
  rw [powerBecomes_eq]
  refine rests_of_drive h (risesTo_faultHold_iff s.pwr) fun hu => ?_
  by_cases hr : s.pwr.risesTo = s.pwr.state
  · simpa [unloadDue, Pwr.risen, hr, ha] using hu
  · simp [unloadDue, Pwr.risen, hr] at hu

/-- R163: PWR and NTU once the load has raised the drive to ACTIVE. -/
def loadRaises (s : State) : State :=
  if s.pwr.state = .faultHold then { s with pwr := s.pwr.loading }
  else powerBecomes .active { s with pwr := s.pwr.loading }

theorem loadRaises_inbox (s : State) (i : List Signal) :
    loadRaises { s with inbox := i } = { loadRaises s with inbox := i } := by
  unfold loadRaises
  simp only [powerBecomes_eq]
  split <;> rfl

/-- R163: the load touches PWR's record, with its move over, and NTU's. -/
theorem loadRaises_eq (s : State) : ∃ w n, loadRaises s = { s with pwr := w, ntu := n } ∧
    (w.state = .faultHold ↔ s.pwr.state = .faultHold) ∧ w.progress = .none := by
  unfold loadRaises
  split
  next h => exact ⟨_, _, rfl, Iff.rfl, rfl⟩
  next h => exact ⟨_, _, powerBecomes_eq _ _, by simp [h], rfl⟩

theorem within_loading {was : HeadState} {tail : List Signal} (hi : s.inbox = .head was .loading :: tail) :
    ∃ ms : List Signal, ms.length ≤ 1 ∧ (∀ m ∈ ms, m ∈ s.reachedBy .active) ∧
      Within 1 s { loadRaises s with inbox := tail ++ ms } := by
  have h := Within.report hi
  have e : react (.head was .loading) { s with inbox := tail } = pwrLoading { s with inbox := tail } := by
    have hp : passHead .loading { s with inbox := tail } = { s with inbox := tail } := by
      unfold passHead; split <;> rfl
    have hj : jobHead was .loading { s with inbox := tail } = { s with inbox := tail } := by
      unfold jobHead; split <;> rfl
    simp [react, reactHead, hp, hj]
  rw [e, pwrLoading_eq] at h
  unfold loadRaises
  by_cases hf : s.pwr.state = .faultHold
  · rw [if_pos (by exact hf)] at h
    exact ⟨[], by simp, by simp, by simpa [hf] using h⟩
  · rw [if_neg (by exact hf)] at h
    rw [powerBecomes_eq] at h
    refine ⟨s.reachedBy .active, reachedBy_length s _, fun m hm => hm, ?_⟩
    rw [if_neg hf, powerBecomes_eq]
    exact h

/-- With no order that waits for a power state, LOCKED is PWR's alone. -/
theorem conclude_risen (h : s.settled = true) (hj : ∀ j ∈ s.che.job, j.phase ≠ .power) (ha : a.head = s.act.head) :
    conclude { s with spc := q, act := a, inbox := [.spindle .locked] } = .next (State.rest
      (powerBecomes s.pwr.risesTo { s with spc := q, act := a, pwr := s.pwr.risen })) := by
  have hi := settled_inbox (s := s) h
  have hlen := reachedBy_length s s.pwr.risesTo
  have hw := (within_locked (s := s) (q := q) (a := a) (tail := [])).trans (within_unheeded
    (unheeded_reachedBy (by rw [powerBecomes_eq]; exact hj) s s.pwr.risesTo) (List.append_nil _).symm)
  have hinbox : ({ powerBecomes s.pwr.risesTo { s with spc := q, act := a, pwr := s.pwr.risen } with inbox := [] } :
      State) = powerBecomes s.pwr.risesTo { s with spc := q, act := a, pwr := s.pwr.risen } := by
    rw [powerBecomes_eq, ← hi]
  exact (hinbox ▸ hw).conclude (rests_risen h ha) (by simp [reactionBound]; omega)

/-- With a load that starts besides, the drive is raised to ACTIVE. -/
theorem conclude_loading (h : s.settled = true) (hj : ∀ j ∈ s.che.job, j.phase ≠ .power) {was : HeadState} :
    conclude { s with spc := q, act := a, inbox := [.spindle .locked, .head was .loading] } = .next (State.rest
      (loadRaises (powerBecomes s.pwr.risesTo { s with spc := q, act := a, pwr := s.pwr.risen }))) := by
  have hi := settled_inbox (s := s) h
  have hlen := reachedBy_length s s.pwr.risesTo
  set u := powerBecomes s.pwr.risesTo { s with spc := q, act := a, pwr := s.pwr.risen } with hu
  have hw := (within_locked (s := s) (q := q) (a := a) (tail := [.head was .loading]))
  obtain ⟨ms, hlen', hms, hw'⟩ := within_loading
    (s := { u with inbox := [.head was .loading] ++ s.reachedBy s.pwr.risesTo }) rfl
  obtain ⟨w, n, e, hf, hp⟩ := loadRaises_eq u
  have hche : (loadRaises u).che = s.che := by rw [e, hu, powerBecomes_eq]
  have hw'' := within_unheeded (s := { loadRaises u with inbox := s.reachedBy s.pwr.risesTo ++ ms }) (rest := [])
    (fun m hm => (List.mem_append.1 hm).elim (unheeded_reachedBy (by rw [hche]; exact hj) _ _ m)
      fun hm => unheeded_reachedBy (by rw [hche]; exact hj) _ _ m (hms m hm)) (List.append_nil _).symm
  rw [loadRaises_inbox] at hw'
  have hinbox : ({ loadRaises u with inbox := [] } : State) = loadRaises u := by
    rw [e, hu, powerBecomes_eq, ← hi]
  refine (hinbox ▸ (hw.trans hw').trans hw'').conclude ?_ (by simp [reactionBound]; omega)
  rw [e, hu, powerBecomes_eq]
  exact rests_of_drive h (hf.trans (by rw [hu, powerBecomes_eq]; exact risesTo_faultHold_iff s.pwr))
    fun hd => by simp [unloadDue, hp] at hd

end lock

/-- Settles O15: LOCKED and permission, then PWR's move up and the load. -/
theorem lockReached : Obligations.LockReached := by
  intro s ticks hr hs h23 hj
  dsimp only
  intro h h'
  have hi := settled_inbox (s := s) hr.settled
  have hperm : loadPermission s = false := by simp [loadPermission, hs]
  set q : Spc := { s.spc.counted with interval := 0 }.lockedAfter (min 65535 (s.spc.interval + ticks)) with hq
  have hexec : exec (.tachPulse ticks) s =
      conclude (spcPermit false { s with spc := q, inbox := [.spindle .locked] }) := by
    rw [exec_tachPulse_pos hr.powered (by omega), spcPurgePulse_restarted (.inl hs), hperm,
      spcInterval_lockReached (by simp [hs]) (by simp [h23]) h h', hi]
    rfl
  have hpurge : loadPermission { s with spc := q, inbox := [.spindle .locked] } = decide (s.spc.counted.purge = 0) := by
    simp [loadPermission, hq, Spc.lockedAfter]
  refine ⟨fun hload => ?_, fun r rest hp hh hl => ?_⟩
  · have e : spcPermit false { s with spc := q, inbox := [.spindle .locked] } = { s with
        spc := q, act := { s.act with permission := s.act.permission || decide (s.spc.counted.purge = 0) },
        inbox := [.spindle .locked] } := by
      by_cases hp : s.spc.counted.purge = 0
      · rw [spcPermit_of_no_load _ (by exact (hload.resolve_left (· hp)).symm), hpurge]
        rfl
      · simp [spcPermit, hpurge, hp]
    rw [hexec, e]
    exact conclude_risen hr.settled hj rfl
  · have e : (s.act.permission || decide (s.spc.counted.purge = 0)) = true := by simp [hp]
    rw [hexec, spcPermit_of_load (s := { s with spc := q, inbox := [.spindle .locked] })
      (by rw [hpurge]; simp [hp]) hh hl]
    refine (conclude_loading hr.settled hj).trans ?_
    simp only [loadRaises, powerBecomes_eq, e]
    rfl

end Sys2Proof.Machine
end

section
/-! PROOF. Chapters 1, 3 and 8: the ends of an eject sequence, and the restart. -/

namespace Sys2Proof.Machine

/-- With no chain in the table an eject sequence's end is nobody's but RCV's. -/
theorem react_sequenceEnded {s : State} (h : s.chains = []) : react .sequenceEnded s = s := by
  simp [react, cheSequenceEnded, slotsOldestFirst_of_no_chain _ h]

/-- R153: the eject sequence is over. -/
def State.sequenceOver (s : State) : State :=
  { s with rcv := { s.rcv with stage := .none, purpose := none, source := none } }

/-- R153: RCV has the stopped spindle start again where PWR's target asks for it and no supply pause holds it. -/
def startedAgain (s : State) : State :=
  if (s.pwr.target = .active ∨ s.pwr.target = .standby) ∧ s.rcv.pause = false then
    { s with spc := s.spc.started (purgeIsLong s), act := { s.act with permission := false } }
  else s

theorem restartWanted_iff {s : State} (h : s.chains = []) : restartWanted s = true ↔
    (s.pwr.target = .active ∨ s.pwr.target = .standby) ∧ s.rcv.pause = false := by
  simp [restartWanted, h, and_comm]

/-- R10, R153: the end of a sequence over a spindle that is stopped where it is to turn again. -/
theorem rcvEnd_eq {s : State} (h : s.chains = []) (hlatch : s.rcv.latch = .locked)
    (hstop : (s.pwr.target = .active ∨ s.pwr.target = .standby) → s.rcv.pause = false → s.spc.state = .stopped) :
    rcvEnd s = { startedAgain s.sequenceOver with
      inbox := s.inbox ++ (if (s.pwr.target = .active ∨ s.pwr.target = .standby) ∧ s.rcv.pause = false then
        [.spindle .accelerating] else []) ++ [.sequenceEnded] } := by
  have hw := restartWanted_iff (s := s.sequenceOver) h
  change State.send .sequenceEnded (if restartWanted s.sequenceOver = true then (spcStart .rcv s.sequenceOver).1
    else s.sequenceOver) = _
  by_cases hc : (s.pwr.target = .active ∨ s.pwr.target = .standby) ∧ s.rcv.pause = false
  · have hst : s.sequenceOver.spc.state = .stopped := hstop hc.1 hc.2
    have hlt : s.sequenceOver.rcv.latch = .locked := hlatch
    rw [if_pos (hw.2 hc), if_pos hc, startedAgain, if_pos (by exact hc)]
    simp only [spcStart, hst, hlt, if_true, spcTakeStart_eq]
    rfl
  · rw [if_neg (fun h => hc (hw.1 h)), if_neg hc, startedAgain, if_neg (by exact hc)]
    simp [State.send, State.sequenceOver]

/-- R153: with nobody at work and no chain in the table, the part rests at the end of the sequence. -/
theorem conclude_rcvEnd {s : State} (hi : s.inbox = []) (h : s.chains = []) (hj : s.che.job = none)
    (hp : s.pass = none) (h0 : s.vol0.pass = .none) (h1 : s.vol1.pass = .none) (hw : s.lnk.waiting = [])
    (hprogress : s.pwr.progress = .none) (hlatch : s.rcv.latch = .locked)
    (hstop : (s.pwr.target = .active ∨ s.pwr.target = .standby) → s.rcv.pause = false → s.spc.state = .stopped) :
    conclude (rcvEnd s) = .next (State.rest (startedAgain s.sequenceOver)) := by
  obtain ⟨p, a, e⟩ : ∃ p a, startedAgain s.sequenceOver = { s.sequenceOver with spc := p, act := a } := by
    unfold startedAgain
    split
    · exact ⟨_, _, rfl⟩
    · exact ⟨_, _, rfl⟩
  rw [rcvEnd_eq h hlatch hstop, hi, List.nil_append]
  set ms : List Signal := if (s.pwr.target = .active ∨ s.pwr.target = .standby) ∧ s.rcv.pause = false then
    [.spindle .accelerating] else [] with hms
  have hlen : ms.length ≤ 1 := by rw [hms]; split <;> simp
  have hsilent : ∀ m ∈ ms, m.silent = true := by rw [hms]; split <;> simp [Signal.silent]
  have hche : (startedAgain s.sequenceOver).che = s.che := by rw [e]; rfl
  have h2 := within_silent hsilent (s := { startedAgain s.sequenceOver with inbox := ms ++ [.sequenceEnded] })
    (rest := [.sequenceEnded]) (by rw [hche]; exact hj) (by rw [e]; exact hp) rfl
  have h3 := Within.report (s := { startedAgain s.sequenceOver with inbox := [.sequenceEnded] }) rfl
  rw [react_sequenceEnded (by rw [e]; exact h)] at h3
  have hinbox : ({ startedAgain s.sequenceOver with inbox := [] } : State) = startedAgain s.sequenceOver := by
    rw [e, ← hi]; rfl
  refine (hinbox ▸ h2.trans h3).conclude ?_ (by simp [reactionBound]; omega)
  rw [e]
  exact (settleOnce_none_iff _).2 ⟨hi, idleRule_of_nothing h hj (by simp [State.sequenceOver, h0])
    (by simp [State.sequenceOver, h1]) (by simp [State.sequenceOver])
    (unloadDue_of_progress (by simp [State.sequenceOver, hprogress])) hw⟩

/-- Settles O53: each of the four ends locks the latch, tells VOL and NTU, and ends the sequence. -/
theorem sequenceEnds : Obligations.SequenceEnds := by
  intro s hr hchains hj hp h0 hw hprogress hstop
  have hi := settled_inbox (s := s) hr.settled
  have hend : ∀ (f : State → State) (r : Rcv) (v : VolCtx) (n : Ntu),
      f s = rcvEnd { s with rcv := r, vol1 := v, ntu := n } → v.pass = .none → r.latch = .locked →
      r.pause = s.rcv.pause →
      run f s = .next (State.rest (startedAgain { s with rcv := r, vol1 := v, ntu := n }.sequenceOver)) :=
    fun f r v n hf h1 hl hpause => (run_of_powered hr.powered f).trans ((congrArg conclude hf).trans
      (conclude_rcvEnd hi hchains hj hp h0 h1 hw hprogress hl fun ht hpz => hstop ht (hpause.symm.trans hpz)))
  refine ⟨fun hs hd hf hpre hpin => ?_, fun hs ht hpin => ?_, fun hs hd hf hpre hpin => ?_, fun hs hwin hpin => ?_⟩
  · have e : rcvPresenceDebounced s = rcvEnd { s with
        rcv := { s.rcv with
          latch := .locked, removalTimer := none, window := none, ejector := false, presenceDebounce := none,
          presence := false, holds := 0 }
        vol1 := { s.vol1.drop .empty none with mountedSince := false }
        ntu := s.ntu.attend (.cartridgeRemoved (s.rcv.source.getD .host)) } := by
      simp [rcvPresenceDebounced, Option.isSome_iff_ne_none, hd, hf, hpre, hpin, rcvPresenceChange, hs, rcvRemoval,
        rcvLock, volRemoved, attend_eq, rcvSource, State.updRcv, State.updVol1]
    exact (hend _ _ _ _ e rfl rfl rfl).trans (by dsimp only [startedAgain, State.sequenceOver])
  · have e : rcvRemovalExpiry s = rcvEnd { s with
        rcv := { s.rcv with latch := .locked, removalTimer := none, window := none, ejector := false }
        vol1 := s.vol1.drop .present none, ntu := s.ntu.attend (.ejectJammed (s.rcv.source.getD .host)) } := by
      simp [rcvRemovalExpiry, Option.isSome_iff_ne_none, ht, hpin, hs, rcvJam, rcvLock, volJammed, attend_eq, rcvSource,
        State.updRcv, State.updVol1]
    exact (hend _ _ _ _ e rfl rfl rfl).trans (by dsimp only [startedAgain, State.sequenceOver])
  · have e : rcvPresenceDebounced s = rcvEnd { s with
        rcv := { s.rcv with
          latch := .locked, removalTimer := none, window := none, ejector := false, presenceDebounce := none,
          presence := true }
        vol1 := { s.vol1.drop .present none with mountedSince := false }
        ntu := s.ntu.attend (.cartridgeInserted (s.rcv.source.getD .host)) } := by
      simp [rcvPresenceDebounced, Option.isSome_iff_ne_none, hd, hf, hpre, hpin, rcvPresenceChange, hs, rcvInsertion,
        rcvLock, volInserted, attend_eq, rcvSource, State.updRcv, State.updVol1]
    exact (hend _ _ _ _ e rfl rfl rfl).trans (by dsimp only [startedAgain, State.sequenceOver])
  · have e : rcvWindowExpiry s = rcvEnd { s with
        rcv := { s.rcv with latch := .locked, removalTimer := none, window := none, ejector := false }
        vol1 := s.vol1.drop .empty none, ntu := s.ntu } := by
      simp [rcvWindowExpiry, Option.isSome_iff_ne_none, hwin, hpin, hs, rcvWindowEnd, rcvLock, volWindowEnded,
        State.updRcv, State.updVol1]
    exact (hend _ _ _ _ e rfl rfl rfl).trans (by dsimp only [startedAgain, State.sequenceOver])

end Sys2Proof.Machine
end

section
/-! PROOF. Chapters 1 and 9: the stops PWR sends, with the idle limits and the supply monitor. -/

namespace Sys2Proof.Machine

/-! ## PWR's stop -/

/-- R13: the answer to a held start that a stop drops. -/
def Spc.withdrawn (p : Spc) : List Signal := (p.heldStart.map Signal.startWithdrawn).toList

theorem withdrawn_silent (p : Spc) : ∀ m ∈ p.withdrawn, m.silent = true := by
  cases h : p.heldStart <;> simp [Spc.withdrawn, h, Signal.silent]

theorem withdrawn_length (p : Spc) : p.withdrawn.length ≤ 1 := by
  cases h : p.heldStart <;> simp [Spc.withdrawn, h]

theorem spcDropHeld_eq (s : State) : spcDropHeld s =
    { s with spc := { s.spc with heldStart := none }, inbox := s.inbox ++ s.spc.withdrawn } := by
  obtain ⟨y, h, e⟩ | ⟨h, e⟩ := spcDropHeld_cases s
  · simp [e, Spc.withdrawn, h]
  · have ep : ({ s.spc with heldStart := none } : Spc) = s.spc := by rw [← h]
    simp [e, Spc.withdrawn, h, ep]

theorem spcJoin_pwr_eq (s : State) : spcJoin .pwr s =
    { s with spc := { s.spc with waitPwr := true, heldStart := none }, inbox := s.inbox ++ s.spc.withdrawn } := by
  simp [spcJoin, spcDropHeld_eq, State.updSpc, Spc.setWait]

/-- R12 to R14: a turning spindle brakes, over heads on the ramp or whatever the heads at SUPPLY. -/
theorem spcStop_turning {s : State} {cause : StopCause} (h : s.spc.state.turning = true)
    (hc : s.act.head = .parked ∨ cause = .supply) : spcStop .pwr cause s = ({ s with
      spc := s.spc.braked cause, act := { s.act with permission := false }
      inbox := s.inbox ++ (s.spc.withdrawn ++ [.spindle .braking]) }, .stoppedLater) := by
  have hh : s.act.head = .parked ∨ s.act.head = .retracting ∨ cause = .supply := by tauto
  have e : spcEnterBraking cause (spcJoin .pwr s) = { s with
      spc := s.spc.braked cause, act := { s.act with permission := false }
      inbox := s.inbox ++ (s.spc.withdrawn ++ [.spindle .braking]) } := by
    simp [spcEnterBraking, spcJoin_pwr_eq, spcTell_eq, State.updSpc, Spc.braked]
  cases hs : s.spc.state <;> simp_all [SpindleState.turning, spcStop]

/-! ## The idle counter -/

/-- A part at rest stays at rest where PWR's record changes in neither the power state nor the move. -/
theorem settled_of_pwr {s : State} (h : s.settled = true) {w : Pwr} (hs : w.state = s.pwr.state)
    (ht : w.target = s.pwr.target) (hp : w.progress = s.pwr.progress) : ({ s with pwr := w } : State).settled = true :=
  settled_of_agree h (settled_inbox (s := s) h)
    (idleRule_congr rfl rfl rfl rfl rfl rfl rfl rfl hs (by simp [unloadDue, hs, ht, hp]) rfl rfl rfl rfl rfl)
    rfl rfl rfl rfl

/-- R166: no limit that the counter matches names a level. -/
theorem limitLevel_none {w : Pwr} (h1 : w.standby ≠ w.idle) (h2 : w.sleep ≠ w.idle) (h3 : w.dormant ≠ w.idle) :
    limitLevel w = none := by
  simp [limitLevel, h1, h2, h3]

theorem tableIdle_iff (s : State) : tableIdle s = true ↔ ∀ p ∈ s.chains, p.2.state = .ended := by
  simp [tableIdle]

/-- R165: a tick that does not raise the counter does nothing. -/
theorem pwrTick_of_not_counts {s : State} (h : (∃ p ∈ s.chains, p.2.state ≠ .ended) ∨ 65535 ≤ s.pwr.idle) :
    pwrTick s = s := by
  refine if_neg fun hc => ?_
  obtain ⟨ht, hi⟩ : tableIdle s = true ∧ s.pwr.idle < 65535 := by simpa [pwrCounts] using hc
  obtain ⟨p, hp, hne⟩ | hle := h
  · exact hne ((tableIdle_iff s).1 ht p hp)
  · omega

theorem pwrTick_of_counts {s : State} (h : ∀ p ∈ s.chains, p.2.state = .ended) (hi : s.pwr.idle < 65535) :
    pwrTick s = pwrCompare { s with pwr := s.pwr.count } :=
  if_pos (by simpa [pwrCounts, hi] using (tableIdle_iff s).2 h)

/-- R160, R166: the move a limit sets off, and the two commands that can raise the counter to it. -/
theorem exec_limit {s : State} {c : Instr} {level : PowerState} (h : s.Quiet)
    (hc : c = .oneSecondTick ∨ c = .idleLimitReached) (hn : s.pwr.idle + 1 ≤ 65535) (hs : s.pwr.state = .active)
    (ht : s.pwr.target = .active) (hl : level = if s.pwr.dormant = s.pwr.idle + 1 then .dormant
      else if s.pwr.sleep = s.pwr.idle + 1 then .sleep else .standby)
    (hm : s.pwr.dormant = s.pwr.idle + 1 ∨ s.pwr.sleep = s.pwr.idle + 1 ∨ s.pwr.standby = s.pwr.idle + 1) :
    exec c s = conclude (pwrMoveDown level .idle { s with pwr := s.pwr.count }) := by
  have hlevel : limitLevel s.pwr.count = some level := by
    subst hl
    by_cases hd : s.pwr.dormant = s.pwr.idle + 1
    · simp [limitLevel, Pwr.count, hs, hd]
    · by_cases hsl : s.pwr.sleep = s.pwr.idle + 1
      · simp [limitLevel, Pwr.count, hs, hd, hsl]
      · have hst : s.pwr.standby = s.pwr.idle + 1 := (hm.resolve_left hd).resolve_left hsl
        simp [limitLevel, Pwr.count, hs, hd, hsl, hst]
  have hbelow : level.below s.pwr.count.target = true := by
    rw [hl, show s.pwr.count.target = .active from ht]
    split_ifs <;> rfl
  have htick : pwrTick s = pwrMoveDown level .idle { s with pwr := s.pwr.count } := by
    rw [pwrTick_of_counts (by simp [h.no_chain]) (by omega)]
    simp [pwrCompare, hlevel, hbelow]
  obtain rfl | rfl := hc
  · exact (run_of_powered h.powered pwrTick).trans (congrArg conclude htick)
  · refine (run_of_powered h.powered pwrLimitTick).trans (congrArg conclude (Eq.trans ?_ htick))
    simp [pwrLimitTick, hlevel]

/-- R160: the record of PWR's move to a level below, over heads that are parked or that a stop waits for. -/
def Pwr.lowered (level : PowerState) (w : Pwr) : Pwr :=
  { w with idle := w.idle + 1, target := level, descent := some .idle }

/-- R160: with nothing else on hand PWR's unload is the rule that acts. -/
theorem State.Clear.idleRule_unload {s t : State} (h : s.Clear) (hche : t.che = s.che)
    (h0 : t.vol0.pass = .none) (h1 : t.vol1.pass = .none) (hstage : t.rcv.stage = .none)
    (hdue : unloadDue t = true) : idleRule t = some (.unload false) := by
  have hchains : t.chains = [] := by
    have e : t.chains = s.chains := by simp [State.chains, State.chainAt, hche]
    rw [e, h.no_chain]
  simp [idleRule, drained, freeStarter, heldEjectDue, lendsTo, readWaits, writeNeeds, unloadOrGrant, unloadAllowed,
    arbiterChoice, presentedPass, hchains, hche, h.mech, h.no_job, h0, h1, hstage, hdue, oldest]

section limit
variable {s : State} {level : PowerState}

theorem pwrMoveDown_loaded (h : s.act.head ≠ .parked) : pwrMoveDown level .idle { s with pwr := s.pwr.count } =
    { s with pwr := { s.pwr.lowered level with progress := .waitParked } } :=
  if_neg h

theorem pwrMoveDown_parked (h : s.act.head = .parked) : pwrMoveDown level .idle { s with pwr := s.pwr.count } =
    pwrParkedStep { s with pwr := s.pwr.lowered level } :=
  if_pos h

/-- R160, R30: PWR's unload is sent, and with nobody at work only the transfer ends with it. -/
theorem conclude_limit_loaded (h : s.Quiet) (hl : s.act.head.loaded = true) (hb : level.below s.pwr.state = true) :
    conclude { s with pwr := { s.pwr.lowered level with progress := .waitParked } } = .next { s with
      pwr := { s.pwr.lowered level with progress := .waitParked }, act := s.act.toRamp, xfer := none } := by
  set u : State := { s with pwr := { s.pwr.lowered level with progress := .waitParked } } with hu
  have hi : u.inbox = [] := settled_inbox (s := s) h.settled
  have hrule : idleRule u = some (.unload false) := h.toClear.idleRule_unload rfl h.pass0 h.pass1 h.stage
    (by simp [unloadDue, hu, Pwr.lowered, hb, hl])
  have h1 := Within.rule hi hrule
  have e : fire (.unload false) u = { u with
      act := u.act.toRamp, inbox := u.act.seekEnded ++ .boundaryLost :: [.head u.act.head .unloading] } := by
    refine (actUnload_eq (s := u) hl).trans ?_
    simp [hi]
  rw [e] at h1
  have h2 := within_departure (s := { u with
    act := u.act.toRamp, inbox := u.act.seekEnded ++ .boundaryLost :: [.head u.act.head .unloading] })
    h.no_job h.no_pass rfl (seekEnded_silent _) (by simp [Signal.silent]) rfl
  have hlen := seekEnded_length u.act
  refine ((h1.trans h2).conclude_settled ?_ (by simp [reactionBound]; omega)).trans (by rw [← hi])
  exact settled_of_rests h.settled (h.toClear.rests rfl rfl h.pass0 h.pass1 rfl rfl (unloadDue_of_not_loaded rfl))
    rfl rfl rfl rfl

/-- R161: over parked heads a move that needs no stop, or a stopped spindle, is made at once. -/
theorem conclude_atTarget (h : s.Clear) (w : Pwr) : conclude (pwrAtTarget { s with pwr := w }) =
    .next (State.rest (targetReached { s with pwr := w })) := by
  generalize hu : ({ s with pwr := w } : State) = u
  have hi : u.inbox = [] := by rw [← hu]; exact settled_inbox (s := s) h.settled
  have hp : u.pass = none := by rw [← hu]; exact h.no_pass
  obtain ⟨w', n, v0, v1, e, hw, h0, h1⟩ := targetReached_eq u
  have hm := within_silent (reachedBy_silent u u.pwr.target) (rest := [])
    (s := { targetReached u with inbox := u.reachedBy u.pwr.target }) (by rw [e, ← hu]; exact h.no_job)
    (by rw [e]; exact hp) (List.append_nil _).symm
  have hinbox : ({ targetReached u with inbox := [] } : State) = targetReached u := by rw [e, ← hi]
  have hlen := reachedBy_length u u.pwr.target
  rw [pwrAtTarget_eq hp, hi, List.nil_append]
  refine (hinbox ▸ hm).conclude ?_ (by simp [reactionBound]; omega)
  rw [e]
  subst hu
  exact h.rests hi rfl (h0 h.pass0) (h1 h.pass1) rfl rfl (unloadDue_of_progress (by simp [hw]))

/-- R161: PWR waits for the stop of a spindle that is told to brake, or brakes already. -/
theorem conclude_stopStep (h : s.Clear) {p : Spc} {a : Act} {w : Pwr} {ms : List Signal}
    (hstop : spcStop .pwr (w.descent.getD .idle) { s with pwr := w } =
      ({ s with pwr := w, spc := p, act := a, inbox := s.inbox ++ ms }, .stoppedLater))
    (hm : ∀ m ∈ ms, m.silent = true) (hlen : ms.length ≤ 2) (hp : p.state ≠ .stopped) (hs : s.spc.state ≠ .stopped) :
    conclude (pwrStopStep { s with pwr := w }) =
      .next { s with pwr := { w with progress := .waitStopped }, spc := p, act := a } := by
  have hi := settled_inbox (s := s) h.settled
  have e : pwrStopStep { s with pwr := w } =
      { s with pwr := { w with progress := .waitStopped }, spc := p, act := a, inbox := ms } := by
    simp only [pwrStopStep, hstop]
    simp [hi, State.updPwr]
  have h1 := within_silent hm (rest := [])
    (s := { s with pwr := { w with progress := .waitStopped }, spc := p, act := a, inbox := ms }) h.no_job h.no_pass
    (List.append_nil _).symm
  rw [e]
  refine (h1.conclude_settled ?_ (by simp [reactionBound]; omega)).trans (by rw [← hi])
  exact settled_of_rests h.settled (h.rests rfl rfl h.pass0 h.pass1 rfl rfl (unloadDue_of_progress (by simp)))
    (by simp [lampOf, hp, hs]) rfl rfl rfl

end limit

/-- Settles O54: a tick counts while it may, and the limit it reaches sets off PWR's move down. -/
theorem idleCounter : Obligations.IdleCounter := by
  refine ⟨fun s hr => ⟨fun hn => ?_, fun hc hi h1 h2 h3 => ?_, fun h1 h2 h3 => ?_⟩, ?_⟩
  · exact (run_of_powered hr.powered pwrTick).trans
      ((congrArg conclude (pwrTick_of_not_counts hn)).trans (conclude_of_settled hr.settled))
  · refine (run_of_powered hr.powered pwrTick).trans ?_
    rw [pwrTick_of_counts hc hi]
    simp only [pwrCompare, limitLevel_none (w := s.pwr.count) h1 h2 h3]
    exact conclude_of_settled (settled_of_pwr hr.settled rfl rfl rfl)
  · refine (run_of_powered hr.powered pwrLimitTick).trans ?_
    rw [pwrLimitTick, limitLevel_none (w := s.pwr.count) h1 h2 h3, if_neg (by simp)]
    exact conclude_of_settled hr.settled
  · intro s n c level hq hc hn hle hs ht hl hm
    subst hn
    have hexec := exec_limit hq hc hle hs ht hl hm
    have hbelow : level.below s.pwr.state = true := by
      rw [hl, hs]
      split_ifs <;> rfl
    have hstop : s.act.head = .parked → level ≠ .standby →
        exec c s = conclude (pwrStopStep { s with pwr := s.pwr.lowered level }) := by
      intro hh hne
      rw [hexec, pwrMoveDown_parked hh]
      have ht' : level = .sleep ∨ level = .dormant := by
        revert hne
        rw [hl]
        split_ifs <;> simp
      obtain rfl | rfl := ht' <;> rfl
    refine ⟨fun hh => ?_, fun hh hlow => ?_, fun hh hne hturn => ?_, fun hh hne hbrake => ?_⟩
    · rw [hexec, pwrMoveDown_loaded (by intro e; simp [e, HeadState.loaded] at hh)]
      exact conclude_limit_loaded hq hh hbelow
    · have e : exec c s = conclude (pwrAtTarget { s with pwr := s.pwr.lowered level }) := by
        by_cases hstandby : level = .standby
        · rw [hexec, pwrMoveDown_parked hh]
          subst hstandby
          rfl
        · rw [hstop hh hstandby]
          simp [pwrStopStep, spcStop, hlow.resolve_left hstandby]
      exact e.trans (conclude_atTarget hq.toClear _)
    · refine (hstop hh hne).trans
        (conclude_stopStep hq.toClear (spcStop_turning (by exact hturn) (.inl hh)) ?_ ?_ ?_ ?_)
      · simpa [Signal.silent, or_imp, forall_and] using withdrawn_silent s.spc
      · simpa using withdrawn_length s.spc
      · simp [Spc.braked]
      · intro e; simp [e, SpindleState.turning] at hturn
    · refine (hstop hh hne).trans (conclude_stopStep hq.toClear (a := s.act) ?_ (withdrawn_silent s.spc) ?_ ?_ ?_)
      · simp [spcStop, hbrake, spcJoin_pwr_eq]
      · exact (withdrawn_length s.spc).trans (by decide)
      · simp [hbrake]
      · simp [hbrake]

end Sys2Proof.Machine
end

section
/-! PROOF. Chapter 9: the supply monitor. -/

namespace Sys2Proof.Machine

/-! ## The supply fault -/

/-- R12, R13, R18: a spindle record once the stop of a supply fault has been taken. -/
def Spc.supplyStopped (p : Spc) : Spc :=
  match p.state with
  | .accelerating | .locking | .locked => p.braked .supply
  | .braking => { p with waitPwr := true, heldStart := none }
  | .stopped => p
  | .spinFault =>
    if p.stopConfirmed then { p with state := .stopped, stopConfirmed := false, heldStart := none }
    else { p with waitPwr := true, heldStart := none }

/-- What the stop of a supply fault is answered with besides: the start it drops, and SPC's new state. -/
def Spc.supplyReports (p : Spc) : List Signal :=
  match p.state with
  | .accelerating | .locking | .locked => p.withdrawn ++ [.spindle .braking]
  | .braking => p.withdrawn
  | .stopped => []
  | .spinFault => if p.stopConfirmed then p.withdrawn ++ [.spindle .stopped] else p.withdrawn

theorem supplyReports_silent (p : Spc) : ∀ m ∈ p.supplyReports, m.silent = true := by
  have hw := withdrawn_silent p
  have hw' : ∀ st : SpindleState, st ≠ .locked → st ≠ .spinFault →
      ∀ m ∈ p.withdrawn ++ [.spindle st], m.silent = true := by
    intro st h1 h2 m hm
    rcases List.mem_append.1 hm with hm | hm
    · exact hw m hm
    · simp [List.mem_singleton.1 hm, Signal.silent, h1, h2]
  unfold Spc.supplyReports
  cases p.state with
  | accelerating | locking | locked => exact hw' _ (by decide) (by decide)
  | braking => exact hw
  | stopped => simp
  | spinFault =>
    dsimp only
    split
    · exact hw' _ (by decide) (by decide)
    · exact hw

theorem supplyReports_length (p : Spc) : p.supplyReports.length ≤ 2 := by
  have hw := withdrawn_length p
  have hb : ∀ m : Signal, (p.withdrawn ++ [m]).length ≤ 2 := fun m => by simpa using hw
  unfold Spc.supplyReports
  cases p.state with
  | accelerating | locking | locked => exact hb _
  | braking => exact hw.trans (by decide)
  | stopped => simp
  | spinFault =>
    dsimp only
    split
    · exact hb _
    · exact hw.trans (by decide)

/-- R12: the stop of a supply fault is taken whatever the heads, and at once where the spindle stands. -/
theorem spcStop_supply (s : State) : spcStop .pwr .supply s = ({ s with
    spc := s.spc.supplyStopped
    act := { s.act with permission := s.act.permission &&
      !(s.spc.state.turning || (decide (s.spc.state = .spinFault) && s.spc.stopConfirmed)) }
    inbox := s.inbox ++ s.spc.supplyReports },
    if s.spc.state = .stopped ∨ s.spc.state = .spinFault ∧ s.spc.stopConfirmed = true then .stoppedAtOnce
    else .stoppedLater) := by
  cases hs : s.spc.state with
  | stopped => simp [spcStop, Spc.supplyStopped, Spc.supplyReports, SpindleState.turning, hs]
  | accelerating | locking | locked =>
    rw [spcStop_turning (by simp [hs, SpindleState.turning]) (.inr rfl)]
    simp [Spc.supplyStopped, Spc.supplyReports, SpindleState.turning, hs]
  | braking =>
    simp [spcStop, Spc.supplyStopped, Spc.supplyReports, SpindleState.turning, hs, spcJoin_pwr_eq]
  | spinFault =>
    cases hc : s.spc.stopConfirmed
    · simp [spcStop, Spc.supplyStopped, Spc.supplyReports, SpindleState.turning, hs, hc, spcJoin_pwr_eq]
    · simp [spcStop, Spc.supplyStopped, Spc.supplyReports, SpindleState.turning, hs, hc, spcDropHeld_eq, spcTell_eq,
        State.updSpc]

/-- R33: the reports of heads that are told to retract. -/
def Act.retractReports (a : Act) : List Signal :=
  if a.head = .parked ∨ a.head = .retracting then []
  else a.seekEnded ++ [.boundaryLost, .head a.head .retracting]

theorem actRetract_onRamp {s : State} (h : s.act.head = .parked ∨ s.act.head = .retracting) : actRetract s = s := by
  obtain h | h := h <;> simp [actRetract, h]

/-- R33: the position record after a retract order: heads on the ramp stay. -/
def Act.retreated (a : Act) : Act := if a.head = .parked ∨ a.head = .retracting then a else a.retracted

theorem retreated_permission (a : Act) : a.retreated.permission = a.permission := by
  unfold Act.retreated; split <;> rfl

theorem retreated_gate {a : Act} (h : ¬ (a.head = .parked ∨ a.head = .retracting)) : a.retreated.gate = false := by
  rw [Act.retreated, if_neg h]; rfl

/-- R33: the retract order, wherever the heads are. -/
theorem actRetract_acts (s : State) : actRetract s = { s with
    act := s.act.retreated
    inbox := s.inbox ++ s.act.retractReports } := by
  by_cases h : s.act.head = .parked ∨ s.act.head = .retracting
  · simp [actRetract_onRamp h, h, Act.retractReports, Act.retreated]
  · obtain ⟨h1, h2⟩ := not_or.1 h
    simp [actRetract_eq h1 h2, Act.retractReports, Act.retreated, h1, h2]

/-- R170: PWR's record in FAULT HOLD. -/
def Pwr.faulted (p : Progress) (w : Pwr) : Pwr :=
  { w with
    supply := .fault, beforeFault := some w.state, state := .faultHold, target := .sleep, descent := none,
    setWait := none, progress := p }

/-- R170: what a supply fault does at once, before its reports are taken. -/
theorem pwrSupplyFault_eq (s : State) : pwrSupplyFault s = { s with
    spc := s.spc.supplyStopped
    act := { s.act.retreated with
      permission := s.act.permission &&
        !(s.spc.state.turning || (decide (s.spc.state = .spinFault) && s.spc.stopConfirmed)) }
    pwr := s.pwr.faulted
      (if s.spc.state = .stopped ∨ s.spc.state = .spinFault ∧ s.spc.stopConfirmed = true then .none else .waitStopped)
    inbox := s.inbox ++ .supplyFault :: (s.act.retractReports ++ s.spc.supplyReports) } := by
  unfold pwrSupplyFault
  dsimp only
  rw [actRetract_acts, spcStop_supply]
  by_cases hr : s.spc.state = .stopped ∨ s.spc.state = .spinFault ∧ s.spc.stopConfirmed = true
  · simp only [State.send, State.updPwr, hr, if_true, retreated_permission, List.append_assoc]
    rfl
  · simp only [State.send, State.updPwr, hr, if_false, retreated_permission, List.append_assoc]
    rfl

/-- R170: with nothing at work VOL and CHE have nothing to give up, and RCV is paused. -/
theorem react_supplyFault {s : State} (hc : s.chains = []) (hj : s.che.job = none) (hp : s.pass = none)
    (hs : s.rcv.stage = .none) : react .supplyFault s = { s with
      rcv := { s.rcv with pause := true }
      ntu := (s.ntu.attend (.supplyFault (s.pwr.beforeFault.getD .sleep))).attend
        (.powerState .faultHold (s.pwr.beforeFault.getD .sleep)) } := by
  have hche : cheSupplyFault s = s := by simp [cheSupplyFault, slotsOldestFirst_of_no_chain _ hc, hj]
  simp [react, reactSupplyFault, volAbandon_of_no_pass _ hp, hche, rcvSupplyFault, hs, State.updRcv, attend_eq]

/-- R33, R44: heads that leave the medium for a retract end the transfer. -/
theorem within_retract {s t : State} (hi : t.inbox = s.act.retractReports ++ s.spc.supplyReports)
    (hj : t.che.job = none) (hp : t.pass = none)
    (hg : ¬ (s.act.head = .parked ∨ s.act.head = .retracting) → t.act.gate = false) :
    Within 5 t { t with
      inbox := [], xfer := if s.act.head = .parked ∨ s.act.head = .retracting then t.xfer else none } := by
  have hlen := supplyReports_length s.spc
  have hlen' := seekEnded_length s.act
  unfold Act.retractReports at hi
  by_cases h : s.act.head = .parked ∨ s.act.head = .retracting
  · rw [if_pos h, List.nil_append] at hi
    rw [if_pos h]
    exact (within_silent (supplyReports_silent s.spc) hj hp (hi.trans (List.append_nil _).symm)).mono (by omega)
  · rw [if_neg h] at hi ⊢
    refine (within_departure (before := s.act.seekEnded) (after := .head s.act.head .retracting :: s.spc.supplyReports)
      hj hp (hg h) (seekEnded_silent s.act) ?_ (by simpa using hi)).mono (by simp; omega)
    simpa [Signal.silent] using supplyReports_silent s.spc

/-- R12, R33, R170: with nothing on hand a supply fault comes to rest in FAULT HOLD. -/
theorem conclude_supplyFault {s : State} (h : s.Clear) : conclude (pwrSupplyFault s) = .next (State.rest { s with
    spc := s.spc.supplyStopped
    act := { s.act.retreated with
      permission := s.act.permission &&
        !(s.spc.state.turning || (decide (s.spc.state = .spinFault) && s.spc.stopConfirmed)) }
    xfer := if s.act.head = .parked ∨ s.act.head = .retracting then s.xfer else none
    rcv := { s.rcv with pause := true }
    pwr := s.pwr.faulted
      (if s.spc.state = .stopped ∨ s.spc.state = .spinFault ∧ s.spc.stopConfirmed = true then .none else .waitStopped)
    ntu := (s.ntu.attend (.supplyFault s.pwr.state)).attend (.powerState .faultHold s.pwr.state) }) := by
  have hi := settled_inbox (s := s) h.settled
  have h1 := Within.report (s := pwrSupplyFault s) (m := .supplyFault)
    (rest := s.act.retractReports ++ s.spc.supplyReports) (by rw [pwrSupplyFault_eq, hi]; rfl)
  rw [react_supplyFault (by rw [pwrSupplyFault_eq]; exact h.no_chain) (by rw [pwrSupplyFault_eq]; exact h.no_job)
    (by rw [pwrSupplyFault_eq]; exact h.no_pass) (by rw [pwrSupplyFault_eq]; exact h.stage), pwrSupplyFault_eq] at h1
  have h2 := h1.trans (within_retract rfl h.no_job h.no_pass fun hg => retreated_gate hg)
  rw [pwrSupplyFault_eq]
  refine (h2.conclude (h.rests rfl rfl h.pass0 h.pass1 rfl rfl (unloadDue_of_progress ?_))).trans (by rw [← hi]; rfl)
  simp only [Pwr.faulted]
  split <;> simp

/-! ## The recovery -/

/-- R171: with nothing on hand the recovery is PWR's, RCV's pause and two attention events. -/
theorem conclude_supplyRecovery {s : State} (h : s.Clear) : conclude (pwrRecovery s) = .next (State.rest { s with
    pwr := { s.pwr with
      supply := .good, holdOff := none, state := .sleep, target := .sleep, beforeFault := none, idle := 0 }
    rcv := { s.rcv with pause := false }
    ntu := (s.ntu.attend (.supplyRecovered (s.pwr.beforeFault.getD .sleep))).attend
      (.powerState .sleep s.pwr.state) }) := by
  have e : pwrRecovery s = { s with
      pwr := { s.pwr with
        supply := .good, holdOff := none, state := .sleep, target := .sleep, beforeFault := none, idle := 0 }
      rcv := { s.rcv with pause := false }
      ntu := (s.ntu.attend (.supplyRecovered (s.pwr.beforeFault.getD .sleep))).attend
        (.powerState .sleep s.pwr.state) } := by
    simp [pwrRecovery, rcvSupplyRecovery, h.stage, attend_eq, State.updPwr, State.updRcv]
  rw [e]
  exact conclude_of_rest (h.rests (settled_inbox (s := s) h.settled) rfl h.pass0 h.pass1 rfl rfl
    (by simp [unloadDue, PowerState.below]))

/-- Settles O55: each edge of the supply, and the hold-off's end. -/
theorem supplyMonitored : Obligations.SupplyMonitored := by
  have hstay : ∀ {s : State} {c : Instr} {f : State → State} {w : Pwr}, s.Ready → exec c s = run f s →
      f s = { s with pwr := w } → w.state = s.pwr.state → w.target = s.pwr.target → w.progress = s.pwr.progress →
      exec c s = .next { s with pwr := w } := by
    intro s c f w hr hc hf h1 h2 h3
    rw [hc, run_of_powered hr.powered, hf]
    exact conclude_of_settled (settled_of_pwr hr.settled h1 h2 h3)
  intro s
  refine ⟨fun hr hs => ⟨?_, ?_⟩, fun hr hs => ⟨?_, ?_⟩, fun hr hs => ?_, fun h hs => ?_, fun h hs ht => ?_⟩
  · exact hstay (f := pwrFall) hr rfl (by simp [pwrFall, hs]) rfl rfl rfl
  · exact hstay (f := pwrRise) hr rfl (by simp [pwrRise, hs, State.updPwr]) rfl rfl rfl
  · exact hstay (f := pwrRise) hr rfl (by simp [pwrRise, hs]) rfl rfl rfl
  · exact hstay (f := pwrFall) hr rfl (by simp [pwrFall, hs, State.updPwr]) rfl rfl rfl
  · exact hstay (f := pwrRise) hr rfl (by simp [pwrRise, hs]) rfl rfl rfl
  · refine (run_of_powered h.powered pwrFall).trans ?_
    rw [pwrFall, hs]
    refine (conclude_supplyFault h).trans ?_
    rfl
  · refine (run_of_powered h.powered pwrHoldOffExpiry).trans ?_
    rw [pwrHoldOffExpiry, if_pos ⟨hs, Option.isSome_iff_ne_none.2 ht⟩]
    exact conclude_supplyRecovery h

end Sys2Proof.Machine
end

section
/-! PROOF. Power-on reset: its values, what holds of them, and the hold under a low 5 V supply. -/

namespace Sys2Proof.Machine

/-! ## The values at power-on -/

section powerOn
variable (good : Bool) (pins : Pins)

theorem powerOn_chains : (State.powerOn good pins).chains = [] := rfl

theorem powerOn_spindleLaw : (State.powerOn good pins).spc.Outputs ∧ (State.powerOn good pins).spc.Ranges := by
  refine ⟨⟨rfl, rfl⟩, ?_⟩
  simp [State.powerOn, Reset.spc, Spc.Ranges]

theorem powerOn_driveLaws : (State.powerOn good pins).HeadLaw ∧ (State.powerOn good pins).GateLaw ∧
    (State.powerOn good pins).LatchLaw ∧ (State.powerOn good pins).DescentLaw := by
  refine ⟨⟨?_, ?_⟩, ?_, ?_, ?_⟩
  · simp [State.powerOn, Reset.act, HeadState.loaded]
  · simp [State.powerOn, Reset.act]
  · simp [State.GateLaw, State.powerOn, Reset.act]
  · simp [State.LatchLaw, State.powerOn, Reset.rcv]
  · simp [State.DescentLaw, State.powerOn, Reset.pwr]

theorem powerOn_mechanismLaw : (State.powerOn good pins).MechanismLaw := by
  simp [State.MechanismLaw, State.powerOn, Reset.che]

theorem powerOn_noticeLaw : (State.powerOn good pins).NoticeLaw := by
  rw [State.NoticeLaw, powerOn_chains]
  simp [Ntu.kinds, State.powerOn, Reset.ntu]

theorem powerOn_bufferLaw : (State.powerOn good pins).bbf.BufferLaw := by
  refine ⟨rfl, .nil, fun i => ?_⟩
  have h : (State.powerOn good pins).bbf.slots.getD i .free = .free := by
    rw [List.getD_eq_getElem?_getD]
    exact List.getElem?_getD_replicate_default_eq _ _ i
  rw [h]
  simp [BlockSlot.isFilledRead, State.powerOn, Reset.bbf]

theorem reset_tableLaw (st : VolState) : (Reset.vol st).TableLaw := by
  have h : assignedBlocks (Reset.vol st).alts = [] := rfl
  rw [VolCtx.TableLaw, h]
  simp [Reset.vol, ascending]

theorem powerOn_volumeLaw : (State.powerOn good pins).VolumeLaw :=
  ⟨reset_tableLaw _, reset_tableLaw _, rfl, by simp [State.powerOn, Reset.vol]⟩

theorem powerOn_workLaw : (State.powerOn good pins).WorkLaw := by
  refine ⟨rfl, powerOn_mechanismLaw good pins, ?_, ?_⟩
  · simp [State.powerOn]
  · simp [State.powerOn, Reset.che]

theorem powerOn_linkLaw : (State.powerOn good pins).LinkLaw := by
  simp [State.LinkLaw, State.powerOn, Reset.lnk]

end powerOn

/-- Settles O12: power-on leaves nothing at work, on its way or off its rest. -/
theorem resetMeetsEveryLaw : Obligations.ResetMeetsEveryLaw := by
  intro good pins
  obtain ⟨houtputs, hranges⟩ := powerOn_spindleLaw good pins
  obtain ⟨hhead, hgate, hlatch, hdescent⟩ := powerOn_driveLaws good pins
  exact ⟨houtputs, hranges, hhead, hgate, hlatch, hdescent, powerOn_mechanismLaw good pins, powerOn_noticeLaw good pins,
    powerOn_bufferLaw good pins, powerOn_volumeLaw good pins, powerOn_workLaw good pins, powerOn_linkLaw good pins⟩

/-! ## Power-on reset and the hold -/

/-- R172, log 6: in the hold at most the levels at the inputs change. -/
def StaysHeld (s : State) (o : Host.Outcome State Fault Refusal) : Prop :=
  ∃ t, o = .next t ∧ t = { s with pins := t.pins } ∧ t.pins.logicLow = true

theorem run_staysHeld {s : State} (h : s.pins.logicLow = true) (f : State → State) : StaysHeld s (run f s) :=
  ⟨s, if_pos h, rfl, h⟩

theorem runPins_staysHeld {s : State} (h : s.pins.logicLow = true) {p : Pins → Pins}
    (hp : (p s.pins).logicLow = s.pins.logicLow) (f : State → State) : StaysHeld s (runPins p f s) :=
  ⟨s.updPins p, if_pos (hp.trans h), rfl, hp.trans h⟩

theorem exec_staysHeld {s : State} (h : s.pins.logicLow = true) {c : Instr} (hc : c ≠ .logicSupplyFall)
    (hc' : ∀ g, c ≠ .powerOnReset g) : StaysHeld s (exec c s) := by
  cases c with
  | logicSupplyFall => exact absurd rfl hc
  | powerOnReset g => exact absurd rfl (hc' g)
  | presenceSwitchChange | buttonSwitchChange | linkResetLineAsserted | linkResetLineReleased | hostReadyAsserted
    | hostReadyDeasserted => exact runPins_staysHeld h rfl _
  | _ => exact run_staysHeld h _

/-- R172: power-on puts nothing on hand. -/
theorem powerOnActs_nothing (good : Bool) (s : State) : (powerOnActs good s).inbox = [] ∧
    (powerOnActs good s).chains = [] ∧ (powerOnActs good s).che.job = none ∧ (powerOnActs good s).vol0.pass = .none ∧
    (powerOnActs good s).vol1.pass = .none ∧ (powerOnActs good s).rcv.stage = .none ∧
    (powerOnActs good s).act.head.loaded = false ∧ (powerOnActs good s).lnk.waiting = [] := by
  cases good <;> exact ⟨rfl, rfl, rfl, rfl, rfl, rfl, rfl, rfl⟩

theorem powerOnActs_rests (good : Bool) (s : State) : settleOnce (powerOnActs good s) = none := by
  obtain ⟨hi, hchains, hjob, h0, h1, hstage, hhead, hwaiting⟩ := powerOnActs_nothing good s
  exact (settleOnce_none_iff _).2 ⟨hi, idleRule_of_nothing hchains hjob (by simp [h0]) (by simp [h1]) (by simp [hstage])
    (unloadDue_of_not_loaded hhead) hwaiting⟩

/-- Settles O56: what power-on sets, and that it leaves the part at rest with its lamp off. -/
theorem powerOnReset : Obligations.PowerOnReset := by
  refine ⟨fun s => ⟨rfl, fun c h hc hc' => exec_staysHeld h hc hc'⟩, fun s good => ?_⟩
  have hlamp : setLamp (powerOnActs good s) = powerOnActs good s := by cases good <;> rfl
  refine (conclude_of_rest (powerOnActs_rests good s)).trans ?_
  rw [hlamp]
  cases good <;> rfl

end Sys2Proof.Machine
end

section
/-! PROOF. The write gate (O5): what each block does to it and to what its law reads. -/
namespace Sys2Proof.Machine

/-! ## The law and its frame -/

/-- R45: with the gate off there is nothing to ask. -/
theorem gateLaw_of_off {s : State} (h : s.act.gate = false) : s.GateLaw := by simp [State.GateLaw, h]

/-- R45: out of FOLLOWING the gate is off. -/
theorem State.GateLaw.off {s : State} (h : s.GateLaw) (hh : s.act.head ≠ .following) : s.act.gate = false := by
  by_contra hg
  exact hh (h (by simpa using hg)).1

/-- The law reads the gate, the head state, the position error, the selected comb head and the write-protection of the
volumes, and asks that none of the latter be gained. -/
theorem State.GateLaw.frame {s t : State} (h : s.GateLaw) (hg : t.act.gate = s.act.gate)
    (hh : t.act.head = s.act.head) (he : t.act.error = s.act.error) (hc : t.act.comb = s.act.comb)
    (h0 : s.vol0.writeProtect = false → t.vol0.writeProtect = false)
    (h1 : s.vol1.writeProtect = false → t.vol1.writeProtect = false) : t.GateLaw := by
  intro ht
  obtain ⟨hf, hw, hp⟩ := h (hg ▸ ht)
  refine ⟨hh ▸ hf, he ▸ hw, ?_⟩
  rw [hc]
  revert hp
  cases Vol.ofComb s.act.comb with
  | v0 => exact h0
  | v1 => exact h1

section frames
variable {s : State}
@[simp] theorem updSpc_gateLaw (f) : (s.updSpc f).GateLaw ↔ s.GateLaw := Iff.rfl
@[simp] theorem updChe_gateLaw (f) : (s.updChe f).GateLaw ↔ s.GateLaw := Iff.rfl
@[simp] theorem updBbf_gateLaw (f) : (s.updBbf f).GateLaw ↔ s.GateLaw := Iff.rfl
@[simp] theorem updRcv_gateLaw (f) : (s.updRcv f).GateLaw ↔ s.GateLaw := Iff.rfl
@[simp] theorem updPwr_gateLaw (f) : (s.updPwr f).GateLaw ↔ s.GateLaw := Iff.rfl
@[simp] theorem updNtu_gateLaw (f) : (s.updNtu f).GateLaw ↔ s.GateLaw := Iff.rfl
@[simp] theorem updLnk_gateLaw (f) : (s.updLnk f).GateLaw ↔ s.GateLaw := Iff.rfl
@[simp] theorem updPins_gateLaw (f) : (s.updPins f).GateLaw ↔ s.GateLaw := Iff.rfl
@[simp] theorem setPass_gateLaw (p) : (s.setPass p).GateLaw ↔ s.GateLaw := Iff.rfl
@[simp] theorem setXfer_gateLaw (x) : (s.setXfer x).GateLaw ↔ s.GateLaw := Iff.rfl
@[simp] theorem setCopy_gateLaw (d) : (s.setCopy d).GateLaw ↔ s.GateLaw := Iff.rfl
@[simp] theorem send_gateLaw (m) : (s.send m).GateLaw ↔ s.GateLaw := Iff.rfl
@[simp] theorem setSlot_gateLaw (i c) : (s.setSlot i c).GateLaw ↔ s.GateLaw := Iff.rfl
@[simp] theorem updChain_gateLaw (i f) : (s.updChain i f).GateLaw ↔ s.GateLaw := Iff.rfl
@[simp] theorem updJob_gateLaw (f) : (s.updJob f).GateLaw ↔ s.GateLaw := Iff.rfl
@[simp] theorem setMech_gateLaw (m) : (s.setMech m).GateLaw ↔ s.GateLaw := Iff.rfl
@[simp] theorem setBlockSlot_gateLaw (i b) : (s.setBlockSlot i b).GateLaw ↔ s.GateLaw := Iff.rfl
@[simp] theorem setPassPhase_gateLaw (p) : (s.setPassPhase p).GateLaw ↔ s.GateLaw := Iff.rfl
@[simp] theorem setPhase_gateLaw (p) : (setPhase p s).GateLaw ↔ s.GateLaw := Iff.rfl
@[simp] theorem attend_gateLaw (a) : (attend a s).GateLaw ↔ s.GateLaw := Iff.rfl
@[simp] theorem setLamp_gateLaw : (setLamp s).GateLaw ↔ s.GateLaw := Iff.rfl
@[simp] theorem setPassPhase_act (p) : (s.setPassPhase p).act = s.act := rfl
@[simp] theorem setPhase_act (p) : (setPhase p s).act = s.act := rfl
@[simp] theorem attend_act (a) : (attend a s).act = s.act := rfl

theorem updVol0_gateLaw {f : VolCtx → VolCtx} (h : s.GateLaw)
    (hf : s.vol0.writeProtect = false → (f s.vol0).writeProtect = false) : (s.updVol0 f).GateLaw :=
  h.frame rfl rfl rfl rfl hf id

theorem updVol1_gateLaw {f : VolCtx → VolCtx} (h : s.GateLaw)
    (hf : s.vol1.writeProtect = false → (f s.vol1).writeProtect = false) : (s.updVol1 f).GateLaw :=
  h.frame rfl rfl rfl rfl id hf

/-- R51: a context that does not become write-protected leaves the law alone. -/
@[simp] theorem updVol_gateLaw (v : Vol) {f : VolCtx → VolCtx} (h : s.GateLaw)
    (hf : ∀ c, c.writeProtect = false → (f c).writeProtect = false) : (s.updVol v f).GateLaw := by
  cases v with
  | v0 => exact updVol0_gateLaw h (hf _)
  | v1 => exact updVol1_gateLaw h (hf _)

/-- ACT's record changes in nothing that the law reads. -/
@[simp] theorem updAct_gateLaw {f : Act → Act} (h : s.GateLaw) (hg : ∀ a, (f a).gate = a.gate)
    (hh : ∀ a, (f a).head = a.head) (he : ∀ a, (f a).error = a.error) (hc : ∀ a, (f a).comb = a.comb) :
    (s.updAct f).GateLaw :=
  h.frame (hg _) (hh _) (he _) (hc _) id id

/-- A fold of operations that keep the law keeps it. -/
theorem foldl_gateLaw {α : Type} {f : State → α → State} (hf : ∀ s a, s.GateLaw → (f s a).GateLaw)
    (l : List α) (h : s.GateLaw) : (l.foldl f s).GateLaw := by
  induction l generalizing s with
  | nil => exact h
  | cons a l ih => exact ih (hf s a h)
end frames

/-! ## Actuator Controller -/

section gate
variable (s : State)

@[simp] theorem actHead_gate (h : HeadState) : (actHead h s).act.gate = s.act.gate := by
  obtain ⟨-, e⟩ | ⟨-, e⟩ := actHead_cases h s <;> rw [e]

@[simp] theorem actAnswer_gate (x : SeekAnswer) : (actAnswer x s).act.gate = s.act.gate := by
  obtain ⟨-, e⟩ | ⟨k, -, e⟩ := actAnswer_cases x s <;> rw [e]

@[simp] theorem actAnswer_head (x : SeekAnswer) : (actAnswer x s).act.head = s.act.head := by
  obtain ⟨-, e⟩ | ⟨k, -, e⟩ := actAnswer_cases x s <;> rw [e]

@[simp] theorem actWithdraw_gate (p : Party) : (actWithdraw p s).act.gate = s.act.gate := rfl
@[simp] theorem closeGate_gate : (closeGate s).act.gate = false := rfl
@[simp] theorem closeGate_head : (closeGate s).act.head = s.act.head := rfl

/-- R35: a seek attempt puts the gate off. -/
@[simp] theorem actAttempt_gate (k : Seek) (again : Bool) : (actAttempt k again s).act.gate = false := by
  unfold actAttempt
  dsimp only
  split
  · simp
  · split <;> simp

/-- R31: the gate is off with the unload. -/
@[simp] theorem actEnterUnloading_gate (x : SeekAnswer) : (actEnterUnloading x s).act.gate = false := by
  simp [actEnterUnloading, Act.leave]

end gate

section operations
variable {s : State}

@[simp] theorem closeGate_gateLaw (s : State) : (closeGate s).GateLaw := gateLaw_of_off rfl

/-- R45: the gate opens on its three conditions. -/
@[simp] theorem openGate_gateLaw (s : State) : (openGate s).GateLaw := fun h => (gateOpens_iff s).1 h

@[simp] theorem actAnswer_gateLaw (x : SeekAnswer) (h : s.GateLaw) : (actAnswer x s).GateLaw := by
  obtain ⟨-, e⟩ | ⟨k, -, e⟩ := actAnswer_cases x s <;> rw [e]
  · exact h
  · exact h

@[simp] theorem actWithdraw_gateLaw (p : Party) : (actWithdraw p s).GateLaw ↔ s.GateLaw := Iff.rfl

/-- R26, R28: a load starts from PARKED, where the gate is off. -/
@[simp] theorem actTryLoad_gateLaw (h : s.GateLaw) : (actTryLoad s).GateLaw := by
  unfold actTryLoad
  split
  · exact h
  · split
    next hp => exact gateLaw_of_off (by simpa using h.off (by simp [hp.1]))
    next => exact h

@[simp] theorem actRequestLoad_gateLaw (p : Party) (v : Vol) (h : s.GateLaw) : (actRequestLoad p v s).GateLaw := by
  unfold actRequestLoad
  split
  case _ | _ | _ | _ => exact h
  all_goals
    split
    · exact h
    · exact actTryLoad_gateLaw h

@[simp] theorem actPermit_gateLaw (h : s.GateLaw) : (actPermit s).GateLaw := actTryLoad_gateLaw h

@[simp] theorem actUnload_gateLaw (h : s.GateLaw) : (actUnload s).GateLaw := by
  obtain ⟨-, e⟩ | ⟨-, e⟩ := actUnload_cases s <;> rw [e]
  · exact gateLaw_of_off (by simp)
  · exact h

@[simp] theorem actRetract_gateLaw (h : s.GateLaw) : (actRetract s).GateLaw := by
  unfold actRetract
  split
  · exact h
  · exact h
  · exact gateLaw_of_off (by simp [Act.leave])

theorem actPark_gateLaw (h : s.act.gate = false) : (actPark s).GateLaw :=
  actTryLoad_gateLaw (gateLaw_of_off (by simpa using h))

@[simp] theorem actRamp_gateLaw (h : s.GateLaw) : (actRamp s).GateLaw := by
  unfold actRamp
  split
  next hh => exact actPark_gateLaw (h.off (by simp [hh]))
  next hh => exact actPark_gateLaw (h.off (by simp [hh]))
  next => exact h

@[simp] theorem actUnloadExpiry_gateLaw (h : s.GateLaw) : (actUnloadExpiry s).GateLaw := by
  unfold actUnloadExpiry
  split
  next hh => exact actPark_gateLaw (h.off (by simp [hh.1]))
  next => exact h

@[simp] theorem actRetractExpiry_gateLaw (h : s.GateLaw) : (actRetractExpiry s).GateLaw := by
  unfold actRetractExpiry
  split
  next hh => exact actPark_gateLaw (h.off (by simp [hh.1]))
  next => exact h

@[simp] theorem actAcquisitionExpiry_gateLaw (h : s.GateLaw) : (actAcquisitionExpiry s).GateLaw := by
  unfold actAcquisitionExpiry
  split
  · split
    · exact h
    · exact gateLaw_of_off (by simp)
  · exact h

@[simp] theorem actTakeSeek_gateLaw (k : Seek) (h : s.GateLaw) : (actTakeSeek k s).GateLaw := by
  unfold actTakeSeek
  dsimp only
  split
  · exact gateLaw_of_off (by simp)
  · exact h

@[simp] theorem actSeek_gateLaw (p : Party) (t : Target) (h : s.GateLaw) : (actSeek p t s).1.GateLaw := by
  obtain ⟨e, -⟩ | ⟨e, -⟩ | ⟨e, -⟩ | ⟨e, -⟩ := actSeek_cases p t s <;> rw [e]
  · exact actTakeSeek_gateLaw _ h
  · exact h
  · exact h
  · exact h

/-! The ends of a seek attempt are met with the gate off: out of FOLLOWING, or at a closed gate. -/

theorem actArrive_gateLaw (h : s.act.gate = false) : (actArrive s).GateLaw :=
  gateLaw_of_off (by simpa [actArrive] using h)

theorem actFail_gateLaw (h : s.act.gate = false) : (actFail s).GateLaw := by
  unfold actFail
  dsimp only
  split
  · exact gateLaw_of_off h
  · split
    · exact gateLaw_of_off (by simp)
    · exact gateLaw_of_off (by simpa using h)

theorem actMisplaced_gateLaw (p : Party) (t : Target) (h : s.act.gate = false) : (actMisplaced p t s).GateLaw := by
  obtain ⟨-, e⟩ | ⟨-, -, -, e⟩ | ⟨-, -, e⟩ := actMisplaced_cases p t s <;> rw [e]
  · exact gateLaw_of_off h
  · exact actFail_gateLaw (by simpa using h)
  · exact actFail_gateLaw (by simpa using h)

theorem actAcquire_gateLaw (cyl : Nat) (e : Int) (h : s.act.gate = false) : (actAcquire cyl e s).GateLaw := by
  unfold actAcquire
  extract_lets t u v
  have ht : t.GateLaw := gateLaw_of_off (by simpa [t] using h)
  have hv : v.GateLaw := foldl_gateLaw (f :=
  fun t (r : LoadRequest) => t.send (.loaded r.party)) (fun _ _ hs => hs) _ ht
  split
  · exact actTakeSeek_gateLaw _ hv
  · exact hv

theorem actSettleWedge_gateLaw (cyl : Nat) (e : Int) (h : s.act.gate = false) : (actSettleWedge cyl e s).GateLaw := by
  obtain ⟨-, eq⟩ | ⟨k, -, ⟨-, -, eq⟩ | ⟨-, -, -, eq⟩ | ⟨-, -, -, eq⟩ | ⟨-, -, -, -, eq⟩ | ⟨-, -, -, -, eq⟩ | ⟨-, eq⟩⟩ :=
    actSettleWedge_cases cyl e s <;> rw [eq]
  case inr.inl => exact actFail_gateLaw h
  case inr.inr.inl => exact actArrive_gateLaw h
  all_goals exact gateLaw_of_off h

theorem actReacquire_gateLaw (cyl : Nat) (h : s.act.gate = false) : (actReacquire cyl s).GateLaw := by
  unfold actReacquire
  dsimp only
  split
  · exact gateLaw_of_off (by simpa using h)
  · split
    · exact actFail_gateLaw h
    · exact actTakeSeek_gateLaw _ (gateLaw_of_off h)

@[simp] theorem actRecalibrate_gateLaw (cyl : Nat) (h : s.GateLaw) : (actRecalibrate cyl s).GateLaw := by
  unfold actRecalibrate
  split
  · split
    · exact gateLaw_of_off (by simp)
    · exact h
  · exact h

/-- R45: a wedge in FOLLOWING leaves the gate on only within ±12%. -/
theorem actGateWedge_gateLaw (cyl : Nat) (e : Int) (h : s.GateLaw) :
    (actGateWedge e (s.updAct fun a => { a.hear cyl e with stage1 := some 1875 })).GateLaw := by
  unfold actGateWedge
  split
  next hw =>
    intro hg
    obtain ⟨hf, -, hp⟩ := h hg
    exact ⟨hf, hw, hp⟩
  next => exact gateLaw_of_off rfl

/-- R25, R45: a wedge report keeps the law in every head state. -/
@[simp] theorem actWedge_gateLaw (w cyl : Nat) (e : Int) (out : ReadOutcome) (data : List Byte) (h : s.GateLaw) :
    (actWedge w cyl e out data s).GateLaw := by
  unfold actWedge
  extract_lets heard
  have hoff : s.act.head ≠ .following → heard.act.gate = false := h.off
  split
  · exact h
  · exact h
  · exact h
  next hh => exact actAcquire_gateLaw _ _ (h.off (by simp [hh]))
  · exact actRecalibrate_gateLaw _ (actGateWedge_gateLaw cyl e h)
  next hh => exact gateLaw_of_off (hoff (by simp [hh]))
  next hh => exact actSettleWedge_gateLaw _ _ (hoff (by simp [hh]))
  next hh => exact actReacquire_gateLaw _ (hoff (by simp [hh]))

@[simp] theorem actPlanEnd_gateLaw (h : s.GateLaw) : (actPlanEnd s).GateLaw := by
  unfold actPlanEnd
  split
  next hh => exact gateLaw_of_off (by simpa using h.off (by simp [hh.1]))
  next => exact h

@[simp] theorem actSettleEnd_gateLaw (h : s.GateLaw) : (actSettleEnd s).GateLaw := by
  unfold actSettleEnd
  split
  next hh => exact actArrive_gateLaw (h.off (by simp [hh.1]))
  next => exact h

@[simp] theorem actSeekTimeout_gateLaw (h : s.GateLaw) : (actSeekTimeout s).GateLaw := by
  unfold actSeekTimeout
  split
  next hh => exact actFail_gateLaw (h.off (by obtain ⟨hh | hh, -⟩ := hh <;> simp [hh]))
  next => exact h

@[simp] theorem actStage1_gateLaw (h : s.GateLaw) : (actStage1 s).GateLaw := by
  unfold actStage1
  split
  · exact gateLaw_of_off (by simp)
  · exact h

@[simp] theorem actStage2_gateLaw (h : s.GateLaw) : (actStage2 s).GateLaw := by
  unfold actStage2
  split
  · exact gateLaw_of_off (by simp)
  · exact h
/-! ## Notice Unit -/

@[simp] theorem offerCompletion_gateLaw (i : Nat) (h : s.GateLaw) : (offerCompletion i s).GateLaw := by
  obtain ⟨_, -, -, e⟩ | ⟨-, e⟩ := offerCompletion_cases i s <;> rw [e]
  · exact h
  · exact h

@[simp] theorem offerProgress_gateLaw (i : Nat) (h : s.GateLaw) : (offerProgress i s).GateLaw := by
  unfold offerProgress
  repeat' split
  all_goals simp [h]

@[simp] theorem placeArbiter_gateLaw (h : s.GateLaw) : (placeArbiter s).GateLaw := by
  unfold placeArbiter
  repeat' split
  all_goals simp [h]

@[simp] theorem noticeAcknowledged_gateLaw (h : s.GateLaw) : (noticeAcknowledged s).GateLaw := by
  unfold noticeAcknowledged
  repeat' split
  all_goals simp [h]

/-! ## Spindle Controller -/

@[simp] theorem spcTell_gateLaw (st : SpindleState) : (spcTell st s).GateLaw ↔ s.GateLaw := Iff.rfl

@[simp] theorem spcDropHeld_gateLaw (h : s.GateLaw) : (spcDropHeld s).GateLaw := by
  unfold spcDropHeld
  split <;> simp [h]

@[simp] theorem spcJoin_gateLaw (x : Requester) (h : s.GateLaw) : (spcJoin x s).GateLaw := by simp [spcJoin, h]

@[simp] theorem spcLeaveWait_gateLaw (x : Requester) (h : s.GateLaw) : (spcLeaveWait x s).GateLaw := by
  unfold spcLeaveWait
  split <;> simp [h]

@[simp] theorem spcTakeStart_gateLaw : (spcTakeStart s).GateLaw ↔ s.GateLaw := Iff.rfl

@[simp] theorem spcStart_gateLaw (x : Requester) (h : s.GateLaw) : (spcStart x s).1.GateLaw := by
  obtain ⟨e, -⟩ | ⟨e, -⟩ | ⟨e, -⟩ | ⟨e, -⟩ | ⟨e, -⟩ | ⟨e, -⟩ := spcStart_cases x s <;> rw [e] <;> simp [h]

@[simp] theorem spcEnterBraking_gateLaw (cause : StopCause) : (spcEnterBraking cause s).GateLaw ↔ s.GateLaw := Iff.rfl

@[simp] theorem spcStop_gateLaw (x : Requester) (cause : StopCause) (h : s.GateLaw) :
    (spcStop x cause s).1.GateLaw := by
  obtain ⟨e, -⟩ | ⟨e, -⟩ | ⟨e, -⟩ | ⟨e, -⟩ | ⟨e, -⟩ := spcStop_cases x cause s <;> rw [e] <;> simp [h]

@[simp] theorem spcAnswerStopped_gateLaw (h : s.GateLaw) : (spcAnswerStopped s).GateLaw := by
  unfold spcAnswerStopped
  repeat' split
  all_goals simp [h]

@[simp] theorem spcStopped_gateLaw (h : s.GateLaw) : (spcStopped s).GateLaw := by
  unfold spcStopped
  dsimp only
  split <;> simp [h]

@[simp] theorem spcConfirmed_gateLaw (h : s.GateLaw) : (spcConfirmed s).GateLaw := by
  unfold spcConfirmed
  split <;> simp [h]

@[simp] theorem spcStopTest_gateLaw (saturated : Bool) {passed : State → State} (h : s.GateLaw)
    (hp : ∀ t : State, t.GateLaw → (passed t).GateLaw) : (spcStopTest saturated passed s).GateLaw := by
  obtain ⟨-, e⟩ | ⟨-, -, e⟩ | ⟨-, -, e⟩ := spcStopTest_cases saturated passed s <;> rw [e]
  · exact h
  · exact h
  · exact hp _ h

@[simp] theorem spcStopInput_gateLaw (saturated : Bool) (h : s.GateLaw) : (spcStopInput saturated s).GateLaw := by
  unfold spcStopInput
  split
  · exact spcStopTest_gateLaw _ h fun _ => spcStopped_gateLaw
  · split
    · exact h
    · exact spcStopTest_gateLaw _ h fun _ => spcConfirmed_gateLaw
  all_goals exact h

@[simp] theorem spcLockingInterval_gateLaw (t : Nat) (h : s.GateLaw) : (spcLockingInterval t s).GateLaw := by
  unfold spcLockingInterval
  dsimp only
  repeat' split
  all_goals simp [h]

@[simp] theorem spcLockLossActs_gateLaw (h : s.GateLaw) : (spcLockLossActs s).GateLaw := by
  unfold spcLockLossActs
  split <;> simp [h]

@[simp] theorem spcLockedInterval_gateLaw (t : Nat) (h : s.GateLaw) : (spcLockedInterval t s).GateLaw := by
  unfold spcLockedInterval
  dsimp only
  split
  · simp [h]
  · split <;> simp [h]

@[simp] theorem spcInterval_gateLaw (t : Nat) (saturated : Bool) (h : s.GateLaw) :
    (spcInterval t saturated s).GateLaw := by
  unfold spcInterval
  repeat' split
  all_goals simp [h]

@[simp] theorem spcPurgePulse_gateLaw (h : s.GateLaw) : (spcPurgePulse s).GateLaw := by
  unfold spcPurgePulse
  repeat' split
  all_goals simp [h]

@[simp] theorem spcPermit_gateLaw (was : Bool) (h : s.GateLaw) : (spcPermit was s).GateLaw := by
  unfold spcPermit
  split <;> simp [h]

@[simp] theorem spcTachPulse_gateLaw (ticks : Nat) (h : s.GateLaw) : (spcTachPulse ticks s).GateLaw := by
  have hu : (spcPurgePulse (s.updSpc fun p => { p with interval := 0 })).GateLaw := by simp [h]
  unfold spcTachPulse
  dsimp only
  apply spcPermit_gateLaw
  split <;> simp [hu]

@[simp] theorem spcSaturated_gateLaw (h : s.GateLaw) : (spcSaturated s).GateLaw := by simp [spcSaturated, h]

@[simp] theorem spcSpinFault_gateLaw : (spcSpinFault s).GateLaw ↔ s.GateLaw := Iff.rfl

@[simp] theorem spcStartExpiry_gateLaw (h : s.GateLaw) : (spcStartExpiry s).GateLaw := by
  unfold spcStartExpiry
  split <;> simp [h]

@[simp] theorem spcRelockExpiry_gateLaw (h : s.GateLaw) : (spcRelockExpiry s).GateLaw := by
  unfold spcRelockExpiry
  split <;> simp [h]

@[simp] theorem spcBrakeExpiry_gateLaw (h : s.GateLaw) : (spcBrakeExpiry s).GateLaw := by
  unfold spcBrakeExpiry
  split <;> simp [h]

@[simp] theorem leave_writeProtect (c : VolCtx) : c.leave.writeProtect = c.writeProtect := by
  unfold VolCtx.leave
  dsimp only
  split <;> rfl

@[simp] theorem request_writeProtect (c : VolCtx) : c.request.writeProtect = c.writeProtect := by
  unfold VolCtx.request
  split <;> rfl

/-! ## Volume Manager -/

@[simp] theorem volLeave_gateLaw (h : s.GateLaw) : (volLeave s).GateLaw := updVol1_gateLaw h (by simp)

@[simp] theorem volRemoved_gateLaw (h : s.GateLaw) : (volRemoved s).GateLaw := updVol1_gateLaw h fun _ => rfl

@[simp] theorem volJammed_gateLaw (h : s.GateLaw) : (volJammed s).GateLaw := updVol1_gateLaw h fun _ => rfl

@[simp] theorem volWindowEnded_gateLaw (h : s.GateLaw) : (volWindowEnded s).GateLaw := updVol1_gateLaw h fun _ => rfl

@[simp] theorem volInserted_gateLaw (h : s.GateLaw) : (volInserted s).GateLaw := updVol1_gateLaw h fun _ => rfl

@[simp] theorem volFirstReport_gateLaw (b : Bool) (h : s.GateLaw) : (volFirstReport b s).GateLaw :=
  updVol1_gateLaw h id

@[simp] theorem volLoaded_gateLaw (h : s.GateLaw) : (volLoaded s).GateLaw :=
  updVol1_gateLaw (updVol0_gateLaw h (by simp)) (by simp)

@[simp] theorem passRelease_gateLaw (p : Pass) (h : s.GateLaw) : (passRelease p s).GateLaw := by
  unfold passRelease
  split <;> simp [h]

/-- R61: an abandoned pass leaves the gate off. -/
@[simp] theorem volAbandon_gateLaw (code : EndCode) (h : s.GateLaw) : (volAbandon code s).GateLaw := by
  unfold volAbandon
  split
  · exact h
  · dsimp only
    split <;> simp

@[simp] theorem volDormant_gateLaw (h : s.GateLaw) : (volDormant s).GateLaw := by
  refine updVol1_gateLaw (updVol0_gateLaw (volAbandon_gateLaw _ h) fun _ => rfl) fun _ => ?_
  split <;> rfl

@[simp] theorem passSeek_gateLaw (h : s.GateLaw) : (passSeek s).GateLaw := by
  unfold passSeek
  split
  · exact h
  next p _ =>
    have hm := actSeek_gateLaw .vol { cylinder := 0, comb := 2 * p.volume.toNat } h
    split <;> (rename_i e; rw [e] at hm; simp [hm])

@[simp] theorem passWithdraw_gateLaw (p : Pass) (h : s.GateLaw) : (passWithdraw p s).GateLaw := by
  unfold passWithdraw
  split <;> simp [h]

@[simp] theorem passGrant_gateLaw (v : Vol) (lent : Bool) (h : s.GateLaw) : (passGrant v lent s).GateLaw := by
  unfold passGrant
  repeat' split
  all_goals simp [h]

/-! R44, R51: the end of a pass may protect its volume, and is met at a closed gate. -/

@[simp] theorem passRelease_gate (p : Pass) (s : State) : (passRelease p s).act.gate = s.act.gate := by
  unfold passRelease
  dsimp only
  split <;> rfl

@[simp] theorem passEnd_gate (st : VolState) (hc : Option HeaderContents) (s : State) :
    (passEnd st hc s).act.gate = s.act.gate := by
  unfold passEnd
  split <;> simp

@[simp] theorem passRead_gate (p : Pass) (s : State) : (passRead p s).act.gate = s.act.gate := by
  unfold passRead
  dsimp only
  split
  · split <;> simp
  · simp

@[simp] theorem passClosed_gate (slot : Nat) (seen : IdentitySeen) (off : Bool) (out : ReadOutcome)
    (data : List Byte) (s : State) : (passClosed slot seen off out data s).act.gate = s.act.gate := by
  unfold passClosed
  dsimp only
  split
  · rfl
  · split
    · simp
    · split <;> simp

@[simp] theorem passBoundary_gateLaw (h : s.GateLaw) : (passBoundary s).GateLaw := by
  unfold passBoundary
  split <;> simp [h]

@[simp] theorem passLoaded_gateLaw (h : s.GateLaw) : (passLoaded s).GateLaw := by
  unfold passLoaded
  split
  · split <;> simp [h]
  · simp [h]

@[simp] theorem passSeekAnswer_gateLaw (x : SeekAnswer) (h : s.GateLaw) : (passSeekAnswer x s).GateLaw := by
  unfold passSeekAnswer
  repeat' split
  all_goals simp [h]

@[simp] theorem passHead_gateLaw (now : HeadState) (h : s.GateLaw) : (passHead now s).GateLaw := by
  unfold passHead
  repeat' split
  all_goals simp [h]

@[simp] theorem passSpinFault_gateLaw (h : s.GateLaw) : (passSpinFault s).GateLaw := by
  unfold passSpinFault
  split
  · split <;> simp [h]
  · simp [h]

/-! ## Cartridge Receiver -/

@[simp] theorem rcvLock_gateLaw : (rcvLock s).GateLaw ↔ s.GateLaw := Iff.rfl

@[simp] theorem rcvEnterReleasing_gateLaw (h : s.GateLaw) : (rcvEnterReleasing s).GateLaw := by
  unfold rcvEnterReleasing
  split
  · split <;> simp [h]
  · simp [h]

@[simp] theorem rcvEnterStopping_gateLaw (h : s.GateLaw) : (rcvEnterStopping s).GateLaw := by
  have ht := spcStop_gateLaw .rcv (rcvStopCause s.rcv) (s := s.updRcv fun r => { r with stage := .stopping }) h
  unfold rcvEnterStopping
  split <;> (rename_i e; rw [e] at ht; simp [ht])

@[simp] theorem rcvEnterUnloading_gateLaw (h : s.GateLaw) : (rcvEnterUnloading s).GateLaw := by
  unfold rcvEnterUnloading
  split <;> simp [h]

@[simp] theorem rcvStart_gateLaw (source : EjectSource) (h : s.GateLaw) : (rcvStart source s).GateLaw :=
  by simp [rcvStart, h]

@[simp] theorem rcvEnd_gateLaw (h : s.GateLaw) : (rcvEnd s).GateLaw := by
  unfold rcvEnd
  dsimp only
  split <;> simp [h]

@[simp] theorem rcvRemoval_gateLaw (h : s.GateLaw) : (rcvRemoval s).GateLaw := by simp [rcvRemoval, h]

@[simp] theorem rcvJam_gateLaw (h : s.GateLaw) : (rcvJam s).GateLaw := by simp [rcvJam, h]

@[simp] theorem rcvInsertion_gateLaw (h : s.GateLaw) : (rcvInsertion s).GateLaw := by simp [rcvInsertion, h]

@[simp] theorem rcvWindowEnd_gateLaw (h : s.GateLaw) : (rcvWindowEnd s).GateLaw := by simp [rcvWindowEnd, h]

@[simp] theorem rcvSwitchDue_gateLaw (closed : Bool) (h : s.GateLaw) : (rcvSwitchDue closed s).GateLaw := by
  unfold rcvSwitchDue
  repeat' split
  all_goals simp [h]

@[simp] theorem rcvPresenceSwitch_gateLaw (was closed : Bool) (h : s.GateLaw) :
    (rcvPresenceSwitch was closed s).GateLaw := by
  unfold rcvPresenceSwitch
  split <;> simp [h]

@[simp] theorem rcvPresenceChange_gateLaw (present : Bool) (h : s.GateLaw) :
    (rcvPresenceChange present s).GateLaw := by
  unfold rcvPresenceChange
  split
  · simp [h]
  · split <;> simp [h]

@[simp] theorem rcvPresenceDebounced_gateLaw (h : s.GateLaw) : (rcvPresenceDebounced s).GateLaw := by
  unfold rcvPresenceDebounced
  repeat' split
  all_goals simp [h]

@[simp] theorem rcvRemovalExpiry_gateLaw (h : s.GateLaw) : (rcvRemovalExpiry s).GateLaw := by
  unfold rcvRemovalExpiry
  split
  · split <;> simp [h]
  · simp [h]

@[simp] theorem rcvWindowExpiry_gateLaw (h : s.GateLaw) : (rcvWindowExpiry s).GateLaw := by
  unfold rcvWindowExpiry
  split
  · split <;> simp [h]
  · simp [h]

@[simp] theorem rcvButtonSwitch_gateLaw (was pressed : Bool) (h : s.GateLaw) :
    (rcvButtonSwitch was pressed s).GateLaw := by
  unfold rcvButtonSwitch
  split <;> simp [h]

@[simp] theorem rcvPress_gateLaw (h : s.GateLaw) : (rcvPress s).GateLaw := by
  unfold rcvPress
  repeat' split
  all_goals simp [h]

@[simp] theorem rcvButtonDebounced_gateLaw (h : s.GateLaw) : (rcvButtonDebounced s).GateLaw := by
  unfold rcvButtonDebounced
  repeat' split
  all_goals simp [h]

@[simp] theorem rcvHoldExpiry_gateLaw (h : s.GateLaw) : (rcvHoldExpiry s).GateLaw := by
  unfold rcvHoldExpiry
  repeat' split
  all_goals simp [h]

@[simp] theorem rcvRefusalExpiry_gateLaw : (rcvRefusalExpiry s).GateLaw ↔ s.GateLaw := Iff.rfl

@[simp] theorem rcvEject_gateLaw (tag : Nat) (h : s.GateLaw) : (rcvEject tag s).1.GateLaw := by
  unfold rcvEject
  repeat' split
  all_goals simp [h]

@[simp] theorem rcvHold_gateLaw (h : s.GateLaw) : (rcvHold s).1.GateLaw := by
  unfold rcvHold
  repeat' split
  all_goals simp [h]

@[simp] theorem rcvRelease_gateLaw : (rcvRelease s).GateLaw ↔ s.GateLaw := Iff.rfl

@[simp] theorem rcvSupplyFault_gateLaw (h : s.GateLaw) : (rcvSupplyFault s).GateLaw := by
  unfold rcvSupplyFault
  split <;> simp [h]

@[simp] theorem rcvSupplyRecovery_gateLaw (h : s.GateLaw) : (rcvSupplyRecovery s).GateLaw := by
  unfold rcvSupplyRecovery
  split <;> simp [h]

@[simp] theorem rcvParked_gateLaw (h : s.GateLaw) : (rcvParked s).GateLaw := by
  unfold rcvParked
  split <;> simp [h]

@[simp] theorem rcvStopped_gateLaw (h : s.GateLaw) : (rcvStopped s).GateLaw := by
  unfold rcvStopped
  split <;> simp [h]

@[simp] theorem rcvReenter_gateLaw (h : s.GateLaw) : (rcvReenter s).GateLaw := by
  unfold rcvReenter
  split <;> simp [h]

/-! ## Power Supervisor -/

@[simp] theorem pwrSetState_gateLaw (p : PowerState) (h : s.GateLaw) : (pwrSetState p s).GateLaw := by
  unfold pwrSetState
  split
  · simp [h]
  · split <;> simp [h]

@[simp] theorem pwrAtTarget_gateLaw (h : s.GateLaw) : (pwrAtTarget s).GateLaw := by
  unfold pwrAtTarget
  split <;> simp [h]

@[simp] theorem pwrStopStep_gateLaw (h : s.GateLaw) : (pwrStopStep s).GateLaw := by
  have ht := spcStop_gateLaw .pwr (s.pwr.descent.getD .idle) h
  unfold pwrStopStep
  split <;> (rename_i e; rw [e] at ht; simp [ht])

@[simp] theorem pwrParkedStep_gateLaw (h : s.GateLaw) : (pwrParkedStep s).GateLaw := by
  unfold pwrParkedStep
  split <;> simp [h]

@[simp] theorem pwrMoveDown_gateLaw (level : PowerState) {cause : StopCause} (h : s.GateLaw) :
    (pwrMoveDown level cause s).GateLaw := by
  unfold pwrMoveDown
  split <;> simp [h]

@[simp] theorem pwrWake_gateLaw (h : s.GateLaw) : (pwrWake s).GateLaw := by
  unfold pwrWake
  split <;> simp [h]

@[simp] theorem pwrLoading_gateLaw (h : s.GateLaw) : (pwrLoading s).GateLaw := by
  unfold pwrLoading
  split <;> simp [h]

@[simp] theorem pwrParked_gateLaw (h : s.GateLaw) : (pwrParked s).GateLaw := by
  unfold pwrParked
  split <;> simp [h]

@[simp] theorem pwrLocked_gateLaw (h : s.GateLaw) : (pwrLocked s).GateLaw := by
  unfold pwrLocked
  split
  · simp [h]
  · split <;> simp [h]

@[simp] theorem pwrPositionLost_gateLaw (h : s.GateLaw) : (pwrPositionLost s).GateLaw := by
  unfold pwrPositionLost
  split <;> simp [h]

@[simp] theorem pwrSpinFault_gateLaw (h : s.GateLaw) : (pwrSpinFault s).GateLaw := by
  unfold pwrSpinFault
  split <;> simp [h]

@[simp] theorem pwrSpindle_gateLaw (st : SpindleState) (h : s.GateLaw) : (pwrSpindle st s).GateLaw := by
  unfold pwrSpindle
  split <;> simp [h]

@[simp] theorem pwrStopped_gateLaw (h : s.GateLaw) : (pwrStopped s).GateLaw := by
  unfold pwrStopped
  split
  · split <;> simp [h]
  · simp [h]

@[simp] theorem pwrIdleReset_gateLaw : (pwrIdleReset s).GateLaw ↔ s.GateLaw := Iff.rfl

@[simp] theorem pwrCompare_gateLaw (h : s.GateLaw) : (pwrCompare s).GateLaw := by
  unfold pwrCompare
  split
  · split <;> simp [h]
  · simp [h]

@[simp] theorem pwrTick_gateLaw (h : s.GateLaw) : (pwrTick s).GateLaw := by
  unfold pwrTick
  split <;> simp [h]

@[simp] theorem pwrLimitTick_gateLaw (h : s.GateLaw) : (pwrLimitTick s).GateLaw := by
  unfold pwrLimitTick
  split <;> simp [h]

@[simp] theorem pwrLimits_gateLaw (a b d : Nat) : (pwrLimits a b d s).GateLaw ↔ s.GateLaw := Iff.rfl

@[simp] theorem pwrLinkReset_gateLaw : (pwrLinkReset s).GateLaw ↔ s.GateLaw := Iff.rfl

@[simp] theorem pwrSetPower_gateLaw (p : PowerState) (h : s.GateLaw) : (pwrSetPower p s).1.GateLaw := by
  unfold pwrSetPower
  repeat' split
  all_goals simp [h]

@[simp] theorem pwrSupplyFault_gateLaw (h : s.GateLaw) : (pwrSupplyFault s).GateLaw := by
  unfold pwrSupplyFault
  extract_lets t
  have ht : (spcStop .pwr .supply (actRetract (t.send .supplyFault))).1.GateLaw :=
    spcStop_gateLaw _ _ (actRetract_gateLaw h)
  split <;> (rename_i e; rw [e] at ht; simp [ht])

@[simp] theorem pwrFall_gateLaw (h : s.GateLaw) : (pwrFall s).GateLaw := by
  unfold pwrFall
  split <;> simp [h]

@[simp] theorem pwrRise_gateLaw (h : s.GateLaw) : (pwrRise s).GateLaw := by
  unfold pwrRise
  split <;> simp [h]

@[simp] theorem pwrRecovery_gateLaw (h : s.GateLaw) : (pwrRecovery s).GateLaw := by
  simp [pwrRecovery, h]

@[simp] theorem pwrHoldOffExpiry_gateLaw (h : s.GateLaw) : (pwrHoldOffExpiry s).GateLaw := by
  unfold pwrHoldOffExpiry
  split <;> simp [h]

/-! ## Block Buffer -/

@[simp] theorem fillRead_gateLaw (tag order sequence length : Nat) (check : Bool) (data : List Byte) (h : s.GateLaw) :
    (fillRead tag order sequence length check data s).GateLaw := by
  unfold fillRead
  split <;> simp [h]

@[simp] theorem slotDelivered_gateLaw (h : s.GateLaw) : (slotDelivered s).GateLaw := by
  unfold slotDelivered
  split
  · split <;> simp [h]
  · simp [h]

@[simp] theorem reserveEach_gateLaw (tag : Nat) (qs : List Nat) (h : s.GateLaw) : (reserveEach tag qs s).GateLaw := by
  induction qs generalizing s with
  | nil => exact h
  | cons q qs ih =>
    unfold reserveEach
    split
    · exact ih h
    · exact h

@[simp] theorem reserveWrite_gateLaw (ch : Chain) (h : s.GateLaw) : (reserveWrite ch s).GateLaw := by
  unfold reserveWrite
  dsimp only
  split <;> simp [h]

@[simp] theorem fillWrite_gateLaw (tag sequence : Nat) (data : List Byte) (h : s.GateLaw) :
    (fillWrite tag sequence data s).GateLaw := by
  unfold fillWrite
  split <;> simp [h]

@[simp] theorem freeWritten_gateLaw (tag sequence : Nat) (h : s.GateLaw) : (freeWritten tag sequence s).GateLaw := by
  unfold freeWritten
  split <;> simp [h]

@[simp] theorem wantDelivered_gateLaw (h : s.GateLaw) : (wantDelivered s).GateLaw := by
  unfold wantDelivered
  split
  · split <;> simp [h]
  · simp [h]

@[simp] theorem bbfChainEnd_gateLaw (tag : Nat) : (bbfChainEnd tag s).GateLaw ↔ s.GateLaw := Iff.rfl

/-! ## The order at work -/

@[simp] theorem updJobChain_gateLaw (j : Job) (f : Chain → Chain) (h : s.GateLaw) : (updJobChain j f s).GateLaw := by
  unfold updJobChain
  split <;> simp [h]

@[simp] theorem jobEnd_gateLaw (code : EndCode) (h : s.GateLaw) : (jobEnd code s).GateLaw := by
  unfold jobEnd
  split
  · split <;> simp [h]
  · simp [h]

@[simp] theorem jobLeaves_gateLaw (j : Job) (h : s.GateLaw) : (jobLeaves j s).GateLaw := by
  unfold jobLeaves
  repeat' split
  all_goals simp [h]

@[simp] theorem jobFault_gateLaw (code : EndCode) (h : s.GateLaw) : (jobFault code s).GateLaw := by
  unfold jobFault
  split
  · split <;> simp [h]
  · simp [h]

@[simp] theorem jobStop_gateLaw (h : s.GateLaw) : (jobStop s).GateLaw := by simp [jobStop, h]

@[simp] theorem jobPlaced_gateLaw : (jobPlaced s).GateLaw ↔ s.GateLaw := Iff.rfl

@[simp] theorem askSeek_gateLaw (t : Target) (h : s.GateLaw) : (askSeek t s).GateLaw := by
  have hm := actSeek_gateLaw .che t h
  unfold askSeek
  split <;> (rename_i e; rw [e] at hm; simp [hm])

@[simp] theorem goTo_gateLaw (t : Target) (h : s.GateLaw) : (goTo t s).GateLaw := by
  unfold goTo
  split <;> simp [h]

@[simp] theorem takeUp_gateLaw (f : Job → Job) (h : s.GateLaw) : (takeUp f s).GateLaw := by
  unfold takeUp
  dsimp only
  split <;> simp [h]

@[simp] theorem nextBlock_gateLaw (h : s.GateLaw) : (nextBlock s).GateLaw := by
  unfold nextBlock
  split <;> simp [h]

@[simp] theorem jobSeekAnswer_gateLaw (x : SeekAnswer) (h : s.GateLaw) : (jobSeekAnswer x s).GateLaw := by
  unfold jobSeekAnswer
  repeat' split
  all_goals simp [h]

@[simp] theorem jobHead_gateLaw (was now : HeadState) (h : s.GateLaw) : (jobHead was now s).GateLaw := by
  unfold jobHead
  repeat' split
  all_goals simp [h]

@[simp] theorem jobSpinFault_gateLaw (h : s.GateLaw) : (jobSpinFault s).GateLaw := by
  unfold jobSpinFault
  split
  · split <;> simp [h]
  · simp [h]

@[simp] theorem jobLoadFailed_gateLaw (h : s.GateLaw) : (jobLoadFailed s).GateLaw := by
  unfold jobLoadFailed
  split
  · split <;> simp [h]
  · simp [h]

@[simp] theorem jobPassAbandoned_gateLaw (code : EndCode) (h : s.GateLaw) : (jobPassAbandoned code s).GateLaw := by
  unfold jobPassAbandoned
  split
  · split <;> simp [h]
  · simp [h]

@[simp] theorem jobReached_gateLaw (h : s.GateLaw) : (jobReached s).GateLaw := by
  unfold jobReached
  split
  · split <;> simp [h]
  · simp [h]

@[simp] theorem wantExpired_gateLaw (tag first : Nat) (h : s.GateLaw) : (wantExpired tag first s).GateLaw := by
  unfold wantExpired
  repeat' split
  all_goals simp [h]

/-! ## Defect tables -/

@[simp] theorem beginHeader_gateLaw (use : HeaderUse) (h : s.GateLaw) : (beginHeader use s).GateLaw := by
  unfold beginHeader
  split <;> simp [h]

@[simp] theorem writeThrough_gateLaw (changed : Bool) (ok bad : EndCode) (h : s.GateLaw) :
    (writeThrough changed ok bad s).GateLaw := by
  unfold writeThrough
  split <;> simp [h]

@[simp] theorem beginFormat_gateLaw (h : s.GateLaw) : (beginFormat s).GateLaw := by simp [beginFormat, h]

@[simp] theorem formatDone_gateLaw (j : Job) (h : s.GateLaw) : (formatDone j s).GateLaw := by simp [formatDone, h]

@[simp] theorem beginAltRead_gateLaw (j : Job) (h : s.GateLaw) : (beginAltRead j s).GateLaw :=
  by simp [beginAltRead, h]

@[simp] theorem chooseAlternate_gateLaw (h : s.GateLaw) : (chooseAlternate s).GateLaw := by
  unfold chooseAlternate
  split
  · simp [h]
  · split <;> simp [h]

@[simp] theorem setAlternate_gateLaw (j : Job) (a : Nat) (x : Alt) (h : s.GateLaw) : (setAlternate j a x s).GateLaw :=
  by simp [setAlternate, h]

@[simp] theorem altReadDone_gateLaw (j : Job) (h : s.GateLaw) : (altReadDone j s).GateLaw := by
  unfold altReadDone
  apply chooseAlternate_gateLaw
  split <;> simp [h]

@[simp] theorem altWriteClosed_gateLaw (j : Job) (a : Nat) (kept : Bool) (h : s.GateLaw) :
    (altWriteClosed j a kept s).GateLaw := by
  unfold altWriteClosed
  split
  · simp [h]
  · split <;> simp [h]

@[simp] theorem altVerifyClosed_gateLaw (j : Job) (a : Nat) (seen : IdentitySeen) (out : ReadOutcome)
    (data : List Byte) (h : s.GateLaw) : (altVerifyClosed j a seen out data s).GateLaw := by
  unfold altVerifyClosed
  extract_lets unread final t
  have ht : t.GateLaw := updVol_gateLaw _ h fun _ => id
  split
  · exact writeThrough_gateLaw _ _ _ (setAlternate_gateLaw _ _ _ ht)
  · exact chooseAlternate_gateLaw (setAlternate_gateLaw _ _ _ ht)

@[simp] theorem beginAltTrack_gateLaw (head : Nat) (h : s.GateLaw) : (beginAltTrack head s).GateLaw :=
  by simp [beginAltTrack, h]

/-- R87: the context of a volume that INITIALIZE VOLUME has labelled. -/
def VolCtx.relabelled (v : Vol) (label : Option Label) (failed : List Nat) (c : VolCtx) : VolCtx :=
  { c with
    state := if c.state = .leaving then .leaving else .mounted
    before := if c.state = .leaving then some .mounted else c.before
    label := label, slips := []
    alts := (List.range 64).map fun a => if failed.contains a then .retired else .free
    generation := growGeneration c.generation
    mountedSince := if v = .v1 then true else c.mountedSince }

theorem initDone_eq (j : Job) (s : State) : initDone j s =
    let t := s.updVol j.vol (VolCtx.relabelled j.vol j.newLabel j.failed)
    let u := attend (.mediumMounted j.vol .mounted (t.vol j.vol).generation) t
    if j.failed = [] then jobEnd .clean u else beginHeader .retirements u := rfl

@[simp] theorem initDone_gateLaw (j : Job) (h : s.GateLaw) : (initDone j s).GateLaw := by
  have ht : (s.updVol j.vol (VolCtx.relabelled j.vol j.newLabel j.failed)).GateLaw := updVol_gateLaw _ h fun _ => id
  rw [initDone_eq]
  dsimp only
  split <;> simp [ht]

@[simp] theorem altTrackDone_gateLaw (j : Job) (head : Nat) (h : s.GateLaw) : (altTrackDone j head s).GateLaw := by
  unfold altTrackDone
  split <;> simp [h]

@[simp] theorem headerWritten_gateLaw (j : Job) (use : HeaderUse) (h : s.GateLaw) :
    (headerWritten j use s).GateLaw := by
  unfold headerWritten
  repeat' split
  all_goals simp [h]

@[simp] theorem headerFailed_gateLaw (j : Job) (use : HeaderUse) (h : s.GateLaw) :
    (headerFailed j use s).GateLaw := by
  unfold headerFailed
  split <;> simp [h]

@[simp] theorem slotFinished_gateLaw (j : Job) (h : s.GateLaw) : (slotFinished j s).GateLaw := by
  unfold slotFinished
  split
  · split <;> simp [h]
  · simp [h]

@[simp] theorem slotGivenUp_gateLaw (j : Job) (slot : Nat) (h : s.GateLaw) : (slotGivenUp j slot s).GateLaw := by
  unfold slotGivenUp
  split <;> simp [h]

@[simp] theorem slotClosed_gateLaw (j : Job) (slot : Nat) (kept : Bool) (h : s.GateLaw) :
    (slotClosed j slot kept s).GateLaw := by
  unfold slotClosed
  split
  · simp [h]
  · split <;> simp [h]

/-! ## Transfers -/

@[simp] theorem startXfer_gateLaw (j : Job) (kind : XferKind) (slot : Nat) (data : List Byte) (h : s.GateLaw) :
    (startXfer j kind slot data s).GateLaw := by
  unfold startXfer
  split <;> simp [h]

@[simp] theorem dataWait_gateLaw (j : Job) (h : s.GateLaw) : (dataWait j s).GateLaw := by simp [dataWait, h]

@[simp] theorem dataReady_gateLaw (j : Job) (h : s.GateLaw) : (dataReady j s).GateLaw := by simp [dataReady, h]

theorem reserveRead_gateLaw {tag sequence : Nat} {t : State} (e : reserveRead tag sequence s = some t) (h : s.GateLaw) :
    t.GateLaw := by
  obtain ⟨-, e'⟩ | ⟨i, -, e'⟩ | ⟨-, e'⟩ := reserveRead_cases tag sequence s <;> rw [e'] at e <;> cases e
  · exact h
  · exact h

@[simp] theorem openBlock_gateLaw (j : Job) (slot : Nat) (h : s.GateLaw) : (openBlock j slot s).GateLaw := by
  unfold openBlock
  split
  · exact h
  · split
    · split
      next e => exact startXfer_gateLaw _ _ _ _ (reserveRead_gateLaw e h)
      next => simp [h]
    · split <;> simp [h]
    · simp [h]

@[simp] theorem jobOpen_gateLaw (wedge : Nat) (h : s.GateLaw) : (jobOpen wedge s).GateLaw := by
  unfold jobOpen
  repeat' split
  all_goals simp [h]

@[simp] theorem passOpen_gateLaw (wedge : Nat) (p : Pass) (h : s.GateLaw) : (passOpen wedge p s).GateLaw := by
  unfold passOpen
  split <;> simp [h]

@[simp] theorem openWedge_gateLaw (wedge : Nat) (h : s.GateLaw) : (openWedge wedge s).GateLaw := by
  unfold openWedge
  split
  · split <;> simp [h]
  · simp [h]

@[simp] theorem blockEnded_gateLaw (h : s.GateLaw) : (blockEnded s).GateLaw := by
  unfold blockEnded
  repeat' split
  all_goals simp [h]

@[simp] theorem countBlock_gateLaw (j : Job) (h : s.GateLaw) : (countBlock j s).GateLaw := by simp [countBlock, h]

@[simp] theorem readDone_gateLaw (j : Job) (out : ReadOutcome) (data : List Byte) (h : s.GateLaw) :
    (readDone j out data s).GateLaw := by
  have ht : (s.updVol j.vol (VolCtx.report out j.tries)).GateLaw := updVol_gateLaw _ h fun _ => id
  unfold readDone
  dsimp only
  split
  · simp [h]
  · apply blockEnded_gateLaw
    apply countBlock_gateLaw
    split <;> simp [ht]

@[simp] theorem altReadEnded_gateLaw (j : Job) (out : ReadOutcome) (data : List Byte) (h : s.GateLaw) :
    (altReadEnded j out data s).GateLaw := by
  have ht : (s.updVol j.vol (VolCtx.report out j.tries)).GateLaw := updVol_gateLaw _ h fun _ => id
  unfold altReadEnded
  dsimp only
  split
  · simp [h]
  · split <;> simp [ht]

@[simp] theorem readClosed_gateLaw (j : Job) (seen : IdentitySeen) (off : Bool) (out : ReadOutcome) (data : List Byte) (h : s.GateLaw) :
    (readClosed j seen off out data s).GateLaw := by
  unfold readClosed
  dsimp only
  repeat' split
  all_goals simp [h]

@[simp] theorem writeClosed_gateLaw (j : Job) (seen : IdentitySeen) (kept : Bool) (h : s.GateLaw) :
    (writeClosed j seen kept s).GateLaw := by
  unfold writeClosed
  split
  · exact jobEnd_gateLaw _ h
  split
  · split
    · exact blockEnded_gateLaw (countBlock_gateLaw j (freeWritten_gateLaw _ _ h))
    · exact jobStop_gateLaw h
  split
  · exact jobEnd_gateLaw _ h
  split
  · exact jobFault_gateLaw _ h
  split
  · exact jobStop_gateLaw h
  · exact h

@[simp] theorem jobClose_gateLaw (x : Xfer) (close : Option Int) (out : ReadOutcome) (data : List Byte) (h : s.GateLaw) :
    (jobClose x close out data s).GateLaw := by
  unfold jobClose
  repeat' split
  all_goals simp [h]

/-- R44: a closing wedge is taken at a closed gate. -/
theorem closeXfer_gateLaw (x : Xfer) (close : Option Int) (out : ReadOutcome) (data : List Byte)
    (h : s.act.gate = false) : (closeXfer x close out data s).GateLaw := by
  have hs := gateLaw_of_off h
  unfold closeXfer
  dsimp only
  split
  · split
    · simp [hs]
    · exact gateLaw_of_off (by simpa using h)
  · simp [hs]

@[simp] theorem jobBoundary_gateLaw (h : s.GateLaw) : (jobBoundary s).GateLaw := by
  unfold jobBoundary
  split
  · split <;> simp [h]
  · simp [h]

@[simp] theorem boundaryWedge_gateLaw (wedge : Nat) (e : Int) (out : ReadOutcome) (data : List Byte) (s : State) :
    (boundaryWedge wedge e out data s).GateLaw := by
  unfold boundaryWedge
  refine jobBoundary_gateLaw (passBoundary_gateLaw ?_)
  split
  · exact closeXfer_gateLaw _ _ _ _ rfl
  · exact closeGate_gateLaw s

@[simp] theorem closingUnread_gateLaw (data : List Byte) (h : s.GateLaw) : (closingUnread data s).GateLaw := by
  unfold closingUnread
  split
  · exact closeXfer_gateLaw _ _ _ _ rfl
  · exact h

@[simp] theorem boundaryLost_gateLaw (s : State) : (boundaryLost s).GateLaw := by
  unfold boundaryLost
  dsimp only
  repeat' split
  all_goals simp

@[simp] theorem misplaced_gateLaw (x : Xfer) (s : State) : (misplaced x s).GateLaw := by
  unfold misplaced
  dsimp only
  split <;> exact actMisplaced_gateLaw _ _ rfl

@[simp] theorem identityRead_gateLaw (identity : Option Identity) (h : s.GateLaw) :
    (identityRead identity s).GateLaw := by
  unfold identityRead
  repeat' split
  all_goals simp [h]

/-! ## Chains -/

@[simp] theorem chainEnd_gateLaw (i : Nat) (code : EndCode) (loc : Option FaultLocation) (h : s.GateLaw) :
    (chainEnd i code loc s).GateLaw := by
  unfold chainEnd
  split <;> simp [h]

@[simp] theorem runFree_gateLaw (o : Order) (h : s.GateLaw) : (runFree o s).1.GateLaw := by
  unfold runFree
  split <;> simp [h]

@[simp] theorem chainReach_gateLaw (n i : Nat) (h : s.GateLaw) : (chainReach n i s).GateLaw := by
  induction n generalizing s with
  | zero => exact h
  | succ n ih =>
    unfold chainReach
    split
    · exact h
    · split
      · exact h
      · split
        next o _ _ =>
          have ho := runFree_gateLaw o (offerProgress_gateLaw i h)
          split <;> rename_i e <;> rw [e] at ho
          · split
            · exact ih ho
            · exact chainEnd_gateLaw _ _ _ ho
          · exact chainEnd_gateLaw _ _ _ ho
        · exact h

@[simp] theorem chainPass_gateLaw (i : Nat) (h : s.GateLaw) : (chainPass i s).GateLaw := by simp [chainPass, h]

@[simp] theorem beginWork_gateLaw (h : s.GateLaw) : (beginWork s).GateLaw := by
  unfold beginWork
  dsimp only
  repeat' split
  all_goals simp [h]

@[simp] theorem mountWait_gateLaw (j : Job) (h : s.GateLaw) : (mountWait j s).GateLaw := by
  unfold mountWait
  split <;> simp [h]

@[simp] theorem withHeads_gateLaw (waits : Bool) (j : Job) (h : s.GateLaw) : (withHeads waits j s).GateLaw := by
  unfold withHeads
  split <;> simp [h]

@[simp] theorem needHeads_gateLaw (waits : Bool) (j : Job) (h : s.GateLaw) : (needHeads waits j s).GateLaw := by
  unfold needHeads
  split <;> simp [h]

@[simp] theorem orderChecks_gateLaw (h : s.GateLaw) : (orderChecks s).GateLaw := by
  unfold orderChecks
  split
  · simp [h]
  · split <;> simp [h]

@[simp] theorem jobLoaded_gateLaw (h : s.GateLaw) : (jobLoaded s).GateLaw := by
  unfold jobLoaded
  repeat' split
  all_goals simp [h]

@[simp] theorem jobMounted_gateLaw (v : Vol) (h : s.GateLaw) : (jobMounted v s).GateLaw := by
  unfold jobMounted
  split
  · split <;> simp [h]
  · simp [h]

@[simp] theorem orderEject_gateLaw (i tag : Nat) (h : s.GateLaw) : (orderEject i tag s).GateLaw := by
  unfold orderEject
  dsimp only
  split
  case _ | _ =>
    rename_i e
    have hm := rcvEject_gateLaw tag h
    rw [e] at hm
    simp [hm]
  all_goals exact rcvEject_gateLaw tag h

@[simp] theorem orderSetPower_gateLaw (p : PowerState) (h : s.GateLaw) : (orderSetPower p s).GateLaw := by
  have hm := pwrSetPower_gateLaw (s := setPhase .power s) p h
  unfold orderSetPower
  split <;> rename_i e <;> rw [e] at hm
  · simp [hm]
  · split <;> simp [hm]

@[simp] theorem orderStart_gateLaw (i : Nat) (ready : Bool) (h : s.GateLaw) : (orderStart i ready s).GateLaw := by
  unfold orderStart
  repeat' split
  all_goals simp [h]

@[simp] theorem orderRelease_gateLaw (h : s.GateLaw) : (orderRelease s).GateLaw := by
  unfold orderRelease
  dsimp only
  split <;> simp [h]

@[simp] theorem orderChainEnd_gateLaw (j : Job) (i : Nat) (ch : Chain) (code : EndCode) (h : s.GateLaw) :
    (orderChainEnd j i ch code s).GateLaw := by
  unfold orderChainEnd
  dsimp only
  split <;> simp [h]

@[simp] theorem orderEnded_gateLaw (code : EndCode) (h : s.GateLaw) : (orderEnded code s).GateLaw := by
  unfold orderEnded
  dsimp only
  repeat' split
  all_goals simp [h]

@[simp] theorem acceptChain_gateLaw (tag : Nat) (orders : List Order) (h : s.GateLaw) :
    (acceptChain tag orders s).GateLaw := by
  unfold acceptChain
  split <;> simp [h]

@[simp] theorem cheAccept_gateLaw (tag : Nat) (payload : List Byte) (h : s.GateLaw) :
    (cheAccept tag payload s).1.GateLaw := by
  unfold cheAccept
  dsimp only
  split <;> simp [h]

@[simp] theorem cancelRunning_gateLaw (i : Nat) (ch : Chain) (h : s.GateLaw) : (cancelRunning i ch s).GateLaw := by
  unfold cancelRunning
  dsimp only
  repeat' split
  all_goals simp [h]

@[simp] theorem cheCancel_gateLaw (tag : Nat) (h : s.GateLaw) : (cheCancel tag s).1.GateLaw := by
  unfold cheCancel
  repeat' split
  all_goals simp [h]

@[simp] theorem cheData_gateLaw (tag sequence : Nat) (data : List Byte) (h : s.GateLaw) :
    (cheData tag sequence data s).1.GateLaw := by
  unfold cheData
  dsimp only
  repeat' split
  all_goals simp [h]

@[simp] theorem powerFaultChain_gateLaw (i : Nat) (h : s.GateLaw) : (powerFaultChain i s).GateLaw := by
  unfold powerFaultChain
  repeat' split
  all_goals simp [h]

@[simp] theorem cheSupplyFault_gateLaw (h : s.GateLaw) : (cheSupplyFault s).GateLaw := by
  have ht := foldl_gateLaw (f := fun t i => powerFaultChain i t) (fun _ _ => powerFaultChain_gateLaw _)
    (slotsOldestFirst (·.state.inProgress) s) h
  unfold cheSupplyFault
  dsimp only
  split <;> simp [ht]

@[simp] theorem cheEjectStarted_gateLaw (h : s.GateLaw) : (cheEjectStarted s).GateLaw :=
  foldl_gateLaw (fun _ _ => chainEnd_gateLaw _ _ _) _ h

@[simp] theorem ejectEnded_gateLaw (i : Nat) (h : s.GateLaw) : (ejectEnded i s).GateLaw := by
  unfold ejectEnded
  split
  · split <;> simp [h]
  · simp [h]

@[simp] theorem cheSequenceEnded_gateLaw (h : s.GateLaw) : (cheSequenceEnded s).GateLaw :=
  foldl_gateLaw (fun _ _ => ejectEnded_gateLaw _) _ h

@[simp] theorem jobLinkReset_gateLaw (h : s.GateLaw) : (jobLinkReset s).GateLaw := by
  unfold jobLinkReset
  split
  · simp [h]
  · split <;> simp [h]

@[simp] theorem cheLinkReset_gateLaw (h : s.GateLaw) : (cheLinkReset s).GateLaw := by simp [cheLinkReset, h]

@[simp] theorem grant_gateLaw (g : Grant) (h : s.GateLaw) : (grant g s).GateLaw := by
  unfold grant
  split <;> simp [h]

@[simp] theorem serveRead_gateLaw (j : Job) (h : s.GateLaw) : (serveRead j s).GateLaw := by
  unfold serveRead
  split
  next ch _ =>
    cases e : reserveRead ch.tag ch.sequence (dataReady j s) with
    | none => exact h
    | some t => exact reserveRead_gateLaw e (dataReady_gateLaw j h)
  · exact h

/-! ## The link -/

@[simp] theorem takeSettings_gateLaw (payload : List Byte) : (takeSettings payload s).GateLaw ↔ s.GateLaw := Iff.rfl

@[simp] theorem linkResetActs_gateLaw (h : s.GateLaw) : (linkResetActs s).GateLaw := by
  simp [linkResetActs, bbfReset, h]

@[simp] theorem handFrame_gateLaw (kind : Nat) (tag : Byte) (payload : List Byte) (h : s.GateLaw) :
    (handFrame kind tag payload s).1.GateLaw := by
  unfold handFrame
  split <;> simp [h]

@[simp] theorem addReply_gateLaw (r : Reply) : (addReply r s).GateLaw ↔ s.GateLaw := Iff.rfl

@[simp] theorem takeFrame_gateLaw (sum kind tag : Byte) (length : Nat) (payload : List Byte) (h : s.GateLaw) :
    (takeFrame sum kind tag length payload s).GateLaw := by
  obtain ⟨r, -, e⟩ | ⟨-, e⟩ := takeFrame_cases sum kind tag length payload s <;> rw [e] <;> simp [h]

@[simp] theorem lnkByte_gateLaw (b : Byte) (h : s.GateLaw) : (lnkByte b s).GateLaw := by
  unfold lnkByte
  dsimp only
  repeat' split
  all_goals simp [h]

@[simp] theorem lnkBytes_gateLaw (bytes : List Byte) (h : s.GateLaw) : (lnkBytes bytes s).GateLaw := by
  induction bytes generalizing s with
  | nil => exact h
  | cons b bs ih => exact ih (lnkByte_gateLaw b h)

@[simp] theorem lnkReceive_gateLaw (bytes : List Byte) (h : s.GateLaw) : (lnkReceive bytes s).GateLaw := by
  obtain ⟨e, -⟩ | ⟨e, -⟩ := lnkReceive_cases bytes s <;> rw [e] <;> simp [h]

@[simp] theorem takeWaiting_gateLaw (bytes : List Byte) (h : s.GateLaw) : (takeWaiting bytes s).GateLaw :=
  by simp [takeWaiting, h]

@[simp] theorem lnkLineReset_gateLaw (h : s.GateLaw) : (lnkLineReset s).GateLaw := by simp [lnkLineReset, h]

@[simp] theorem beginFrame_gateLaw (h : s.GateLaw) : (beginFrame s).GateLaw := by
  obtain ⟨f, -, -, e⟩ | ⟨-, e⟩ := beginFrame_cases s <;> rw [e]
  · cases hf : f.carries <;> exact h
  · exact h

@[simp] theorem delivered_gateLaw (o : Outbound) {act : State → State} (h : s.GateLaw)
    (ha : ∀ t : State, t.GateLaw → (act t).GateLaw) : (delivered o act s).GateLaw := by
  unfold delivered
  split
  · split
    · exact ha _ h
    · exact h
  · exact h

@[simp] theorem replyLeaves_gateLaw : (replyLeaves s).GateLaw ↔ s.GateLaw := Iff.rfl

/-! ## Reactions -/

@[simp] theorem reactHead_gateLaw (was now : HeadState) (h : s.GateLaw) : (reactHead was now s).GateLaw := by
  have hv : (if was = .loading ∧ now = .following then volLoaded s else s).GateLaw := by split <;> simp [h]
  have ht := jobHead_gateLaw was now (passHead_gateLaw now hv)
  unfold reactHead
  dsimp only
  split
  · exact pwrLoading_gateLaw ht
  · exact rcvParked_gateLaw (pwrParked_gateLaw ht)
  all_goals exact ht

@[simp] theorem reactSupplyFault_gateLaw (h : s.GateLaw) : (reactSupplyFault s).GateLaw := by
  have ht := cheSupplyFault_gateLaw (volAbandon_gateLaw .powerFault h)
  simp [reactSupplyFault, ht]

@[simp] theorem reactAttention_gateLaw (a : Attention) (h : s.GateLaw) : (reactAttention a s).GateLaw := by
  unfold reactAttention
  split <;> simp [h]

theorem react_gateLaw (m : Signal) (h : s.GateLaw) : (react m s).GateLaw := by
  cases m with
  | stopped dest | loaded dest | loadFailed dest => cases dest <;> simp [react, h]
  | seekAnswer dest x => cases dest <;> simp [react, h]
  | positionLost => exact pwrPositionLost_gateLaw (jobFault_gateLaw _ (volAbandon_gateLaw _ h))
  | _ => simp [react, h]

@[simp] theorem chosen_gateLaw (contested : Bool) : (chosen contested s).GateLaw ↔ s.GateLaw := by
  unfold chosen
  split <;> rfl

theorem fire_gateLaw (r : Rule) (h : s.GateLaw) : (fire r s).GateLaw := by
  cases r <;> simp [fire, h]

end operations

/-! ## Steps -/

theorem settleOnce_gateLaw {s t : State} (h : s.GateLaw) (hs : settleOnce s = some t) : t.GateLaw := by
  unfold settleOnce at hs
  split at hs
  · cases hs
    exact react_gateLaw _ h
  · obtain ⟨r, -, rfl⟩ := Option.map_eq_some_iff.1 hs
    exact fire_gateLaw r h

theorem conclude_gateLaw {s t : State} (h : s.GateLaw) (ht : conclude s = .next t) : t.GateLaw := by
  obtain ⟨u, hu, -, e⟩ | e := conclude_cases s <;> rw [e] at ht <;> cases ht
  have := settle_keeps (fun _ _ => settleOnce_gateLaw) reactionBound s h
  exact beginFrame_gateLaw (setLamp_gateLaw.2 (hu ▸ this))

theorem run_gateLaw {f : State → State} {s t : State} (h : (f s).GateLaw) (hs : s.GateLaw) (ht : run f s = .next t) :
    t.GateLaw := by
  unfold run at ht
  split at ht
  · cases ht
    exact hs
  · exact conclude_gateLaw h ht

theorem runPins_gateLaw {p : Pins → Pins} {f : State → State} {s t : State}
    (hf : ∀ u : State, u.GateLaw → (f u).GateLaw) (hs : s.GateLaw) (ht : runPins p f s = .next t) : t.GateLaw :=
  run_gateLaw (s := s.updPins p) (hf _ hs) hs ht

theorem powerOnActs_gateLaw (good : Bool) (s : State) : (powerOnActs good s).GateLaw := by
  unfold powerOnActs
  split <;> exact gateLaw_of_off rfl

/-- Every command keeps the law: each is taken by one block, and the reactions follow. -/
theorem exec_gateLaw {i : Instr} {s t : State} (h : s.GateLaw) (ht : exec i s = .next t) : t.GateLaw := by
  cases i with
  | tachPulse ticks => exact run_gateLaw (spcTachPulse_gateLaw ticks h) h ht
  | saturatedInterval => exact run_gateLaw (spcSaturated_gateLaw h) h ht
  | startTimerExpiry => exact run_gateLaw (spcStartExpiry_gateLaw h) h ht
  | relockTimerExpiry => exact run_gateLaw (spcRelockExpiry_gateLaw h) h ht
  | brakeTimerExpiry => exact run_gateLaw (spcBrakeExpiry_gateLaw h) h ht
  | wedgeReport => exact run_gateLaw (actWedge_gateLaw _ _ _ _ _ h) h ht
  | closingWedgeUnread => exact run_gateLaw (closingUnread_gateLaw _ h) h ht
  | acquisitionTimerExpiry => exact run_gateLaw (actAcquisitionExpiry_gateLaw h) h ht
  | rampReport => exact run_gateLaw (actRamp_gateLaw h) h ht
  | unloadTimerExpiry => exact run_gateLaw (actUnloadExpiry_gateLaw h) h ht
  | retractTimerExpiry => exact run_gateLaw (actRetractExpiry_gateLaw h) h ht
  | planTimeEnd => exact run_gateLaw (actPlanEnd_gateLaw h) h ht
  | settlePeriodEnd => exact run_gateLaw (actSettleEnd_gateLaw h) h ht
  | seekTimeoutExpiry => exact run_gateLaw (actSeekTimeout_gateLaw h) h ht
  | stage1Expiry => exact run_gateLaw (actStage1_gateLaw h) h ht
  | stage2Expiry => exact run_gateLaw (actStage2_gateLaw h) h ht
  | wantTimerExpiry tag first => exact run_gateLaw (wantExpired_gateLaw _ _ h) h ht
  | presenceSwitchChange => exact runPins_gateLaw (fun _ => rcvPresenceSwitch_gateLaw _ _) h ht
  | presenceDebounceEnd => exact run_gateLaw (rcvPresenceDebounced_gateLaw h) h ht
  | buttonSwitchChange => exact runPins_gateLaw (fun _ => rcvButtonSwitch_gateLaw _ _) h ht
  | buttonDebounceEnd => exact run_gateLaw (rcvButtonDebounced_gateLaw h) h ht
  | holdTimerExpiry => exact run_gateLaw (rcvHoldExpiry_gateLaw h) h ht
  | refusalIndicationExpiry => exact run_gateLaw (by simp [h]) h ht
  | removalTimerExpiry => exact run_gateLaw (rcvRemovalExpiry_gateLaw h) h ht
  | doorOpenWindowExpiry => exact run_gateLaw (rcvWindowExpiry_gateLaw h) h ht
  | oneSecondTick => exact run_gateLaw (pwrTick_gateLaw h) h ht
  | idleLimitReached => exact run_gateLaw (pwrLimitTick_gateLaw h) h ht
  | supplyFall => exact run_gateLaw (pwrFall_gateLaw h) h ht
  | supplyRise => exact run_gateLaw (by simp [h]) h ht
  | holdOffTimerExpiry => exact run_gateLaw (pwrHoldOffExpiry_gateLaw h) h ht
  | powerOnReset good => exact conclude_gateLaw (powerOnActs_gateLaw good s) ht
  | chain | cancel | data | driveStatus | volumeStatus | defectList | chainStatus | settings | linkReset
  | unknownFrameKind | awaitLeadByteDiscarded | frameRefusedCheck | unknownQuerySubkind =>
    exact run_gateLaw (lnkReceive_gateLaw _ h) h ht
  | linkResetLineAsserted =>
    refine runPins_gateLaw (fun u hu => ?_) h ht
    split
    · exact hu
    · exact lnkLineReset_gateLaw hu
  | linkResetLineReleased | hostReadyAsserted | hostReadyDeasserted => exact runPins_gateLaw (fun _ => id) h ht
  | replyDelivered => exact run_gateLaw (delivered_gateLaw _ h fun _ => replyLeaves_gateLaw.2) h ht
  | dataFrameDelivered => exact run_gateLaw (delivered_gateLaw _ h fun _ => slotDelivered_gateLaw) h ht
  | dataWantedDelivered => exact run_gateLaw (delivered_gateLaw _ h fun _ => wantDelivered_gateLaw) h ht
  | noticeDelivered => exact run_gateLaw (delivered_gateLaw _ h fun _ => noticeAcknowledged_gateLaw) h ht
  | logicSupplyFall =>
    cases ht
    exact gateLaw_of_off rfl
  | slotIdentityRead identity => exact run_gateLaw (identityRead_gateLaw _ h) h ht

/-- Settles O5: every block's operation keeps the law (the gate is opened only where R45's conditions hold, and is off
before the heads leave FOLLOWING or the position error changes), so every reaction, command and step does. -/
theorem gateLawKept : Obligations.GateLawKept := by
  intro s t hs ht
  unfold step at ht
  split at ht
  next =>
    cases ht
    exact hs
  next rest _ => exact exec_gateLaw (s := { s with pending := rest }) hs ht

end Sys2Proof.Machine
end

section
/-! PROOF. How every command ends (O2). -/
namespace Sys2Proof.Machine

/-! ## The lamp and the lane at the end of a step -/

/-- R156: the table of the lamp, case by case. -/
theorem lampOf_eq (s : State) : lampOf s =
    if s.rcv.stage = .draining ∨ s.rcv.stage = .unloading ∨ s.rcv.stage = .stopping ∨
        s.rcv.stage = .releasing ∨ s.rcv.refusal.isSome = true then .flashing
    else if s.rcv.latch = .locked ∧ s.rcv.presence = true ∧ s.spc.state ≠ .stopped then .on
    else .off := by
  unfold lampOf
  cases s.rcv.stage <;> simp

/-- The marks of what is being sent touch nothing that the lamp or the resting rules read. -/
theorem markSending_frame (o : Outbound) (s : State) :
    (markSending o s).rcv = s.rcv ∧ (markSending o s).spc = s.spc ∧ (markSending o s).lnk = s.lnk ∧
      (markSending o s).pins = s.pins ∧ (markSending o s).inbox = s.inbox ∧
      idleRule (markSending o s) = idleRule s := by
  cases o <;> exact ⟨rfl, rfl, rfl, rfl, rfl, idleRule_congr rfl rfl rfl rfl rfl rfl rfl rfl rfl rfl rfl rfl rfl rfl rfl⟩

/-- R188: beginning a frame wakes no resting rule. -/
theorem settleOnce_beginFrame {s : State} (h : settleOnce s = none) : settleOnce (beginFrame s) = none := by
  obtain ⟨hi, hr⟩ := (settleOnce_none_iff s).1 h
  obtain ⟨f, -, -, e⟩ | ⟨-, e⟩ := beginFrame_cases s <;> rw [e]
  · obtain ⟨-, -, -, -, hin, hidle⟩ := markSending_frame f.carries s
    refine (settleOnce_none_iff _).2 ⟨by simpa [hin] using hi, ?_⟩
    exact (idleRule_congr rfl rfl rfl rfl rfl rfl rfl rfl rfl rfl rfl rfl rfl rfl rfl).trans (hidle.trans hr)
  · exact h

/-- R156: the lamp shows its record, which no frame begun changes. -/
theorem lampOf_beginFrame (s : State) : lampOf (beginFrame s) = lampOf s ∧ (beginFrame s).rcv.lamp = s.rcv.lamp := by
  obtain ⟨f, -, -, e⟩ | ⟨-, e⟩ := beginFrame_cases s <;> rw [e]
  · obtain ⟨hrcv, hspc, -⟩ := markSending_frame f.carries s
    simp [lampOf, hrcv, hspc]
  · exact ⟨rfl, rfl⟩

/-- R188: after LNK's turn a frame is under way, or none can begin. -/
theorem lane_beginFrame (s : State) : (laneOpen (beginFrame s) && (nextFrame (beginFrame s)).isSome) = false := by
  obtain ⟨f, -, -, e⟩ | ⟨h | h, e⟩ := beginFrame_cases s <;> rw [e]
  · simp [laneOpen]
  · simp [h]
  · simp [h]

theorem settled_conclude {s t : State} (h : conclude s = .next t) : t.settled = true := by
  obtain ⟨u, -, hu, e⟩ | e := conclude_cases s <;> rw [e] at h <;> cases h
  have hrest : settleOnce (setLamp u) = none := by
    obtain ⟨hi, hr⟩ := (settleOnce_none_iff u).1 hu
    exact (settleOnce_none_iff _).2
      ⟨hi, (idleRule_congr rfl rfl rfl rfl rfl rfl rfl rfl rfl rfl rfl rfl rfl rfl rfl).trans hr⟩
  obtain ⟨hlamp, hlit⟩ := lampOf_beginFrame (setLamp u)
  have hset : (setLamp u).rcv.lamp = lampOf (setLamp u) := rfl
  simp [State.settled, settleOnce_beginFrame hrest, hlit, hlamp, hset, lane_beginFrame]

/-! ## Every command -/

theorem run_ends {f : State → State} {s t : State} (h : run f s = .next t) :
    t.pins.logicLow = true ∨ t.settled = true := by
  by_cases hl : s.pins.logicLow = true
  · rw [run, if_pos hl] at h
    cases h
    exact .inl hl
  · rw [run, if_neg hl] at h
    exact .inr (settled_conclude h)

/-- R172, log 6: a command under a low 5 V supply changes nothing but the pins; any other leaves the part at rest. -/
theorem exec_ends {c : Instr} {s t : State} (h : exec c s = .next t) : t.pins.logicLow = true ∨ t.settled = true := by
  cases c with
  | logicSupplyFall =>
    cases h
    exact .inl rfl
  | powerOnReset good => exact .inr (settled_conclude h)
  | presenceSwitchChange | buttonSwitchChange | linkResetLineAsserted | linkResetLineReleased | hostReadyAsserted
    | hostReadyDeasserted => exact run_ends (s := s.updPins _) h
  | _ => exact run_ends h

/-- R188: what waits on an open lane where no frame can begin. -/
theorem nextFrame_none_iff (s : State) : nextFrame s = none ↔
    s.lnk.replies = [] ∧ s.bbf.wants = [] ∧ s.bbf.delivery = [] ∧ ∀ m ∈ s.ntu.queue.head?, m.sending = true := by
  unfold nextFrame
  cases s.lnk.replies <;> cases s.bbf.wants <;> cases s.bbf.delivery <;> cases s.ntu.queue <;> simp

/-- Settles O2: `conclude` answers a state at rest, with its lamp set and its lane served (`settled_conclude`), and
every command under an upright 5 V supply ends in it. -/
theorem everyStepEndsAtRest : Obligations.EveryStepEndsAtRest := by
  refine ⟨fun s t hp h => ?_, fun c s t h hl => ?_⟩
  · unfold step at h
    split at h
    · exact absurd ‹_› hp
    · exact exec_ends h
  · have hset : t.settled = true := (exec_ends h).resolve_left (by simp [hl])
    refine ⟨(settled_lamp hset).trans (lampOf_eq t), fun hout hready hline => ?_⟩
    have hlane := settled_lane hset
    simp only [laneOpen, hout, hready, hline] at hlane
    exact (nextFrame_none_iff t).1 (by simpa using hlane)

end Sys2Proof.Machine
end

section
/-! PROOF. Chapter 2: wedges, timers and seeks over a part at rest (O27, O29 to O33). -/

namespace Sys2Proof.Machine

/-! ## Staying at rest -/

/-- A part at rest stays at rest where, but for its transfer and what only the lane reads, nothing changes except ACT's
record, with the heads on or off the ramp as before, the place its pass has come to, and the order at work, which waits
for none of the things the resting rules act on. -/
theorem settled_of_work {s : State} (h : s.settled = true) {a : Act} {x : Option Xfer} {p : Option Pass}
    {j k : Job} (ha : a.head.loaded = s.act.head.loaded) (hp : p.isNone = s.pass.isNone) (hj : s.che.job = some j)
    (hk : k.chain = j.chain ∧ k.order = j.order ∧ k.runReady = j.runReady)
    (hphase : k.phase ≠ .mount ∧ k.phase ≠ .dataWait ∧ k.phase ≠ .ejectHeld ∧ k.phase ≠ .power) :
    ({ s with act := a, xfer := x, pass := p, che := { s.che with job := some k } } : State).settled = true := by
  obtain ⟨hi, hidle⟩ := (settleOnce_none_iff s).1 (settled_rest h)
  obtain ⟨hdrained, hfree, heject, hlends, hread, hwrite, hgrant, hwait⟩ := (idleRule_none_iff s).1 hidle
  obtain ⟨hunload, hchoice⟩ := (unloadOrGrant_none_iff s).1 hgrant
  obtain ⟨hchain, horder, hready⟩ := hk
  obtain ⟨hmount, hdata, hheld, hpower⟩ := hphase
  refine settled_of_rests h ((settleOnce_none_iff _).2 ⟨hi, (idleRule_none_iff _).2
    ⟨?_, hfree, ?_, ?_, ?_, ?_, (unloadOrGrant_none_iff _).2 ⟨?_, hchoice⟩, hwait⟩⟩) rfl rfl rfl rfl
  · simp only [drained, hp]
    exact hdrained
  · simp [heldEjectDue, hheld]
  · simp [lendsTo, hmount]
  · simp [readWaits, hdata]
  · rw [← hwrite]
    simp only [writeNeeds, hj, horder, hready, jobChain, hchain]
    rfl
  · rintro ⟨hdue, hallowed⟩
    refine hunload ⟨by simpa [unloadDue, ha] using hdue, ?_⟩
    revert hallowed
    simp only [unloadAllowed]
    cases s.che.mech <;> simp [hpower]

/-- The same where the order at work, if any, is as it was. -/
theorem settled_of_heads {s : State} (h : s.settled = true) {a : Act} {x : Option Xfer} {p : Option Pass}
    (ha : a.head.loaded = s.act.head.loaded) (hp : p.isNone = s.pass.isNone) :
    ({ s with act := a, xfer := x, pass := p } : State).settled = true := by
  refine settled_of_agree h (settled_inbox (s := s) h) ?_ rfl rfl rfl rfl
  have hpass : drained { s with act := a, xfer := x, pass := p } = drained s := by simp only [drained, hp]; rfl
  have hunload : unloadDue { s with act := a, xfer := x, pass := p } = unloadDue s := by simp [unloadDue, ha]
  simp only [idleRule, hpass, unloadOrGrant, hunload]
  rfl

/-! ## What nobody heeds -/

theorem passHead_of_no_pass {s : State} (hp : s.pass = none) (now : HeadState) : passHead now s = s := by
  simp [passHead, hp]

theorem jobHead_of_no_job {s : State} (hj : s.che.job = none) (was now : HeadState) : jobHead was now s = s := by
  simp [jobHead, hj]

/-- R57, R106: at a change of head state to one in which nobody is asked again, nothing is done. -/
theorem unheeded_head {s : State} {was now : HeadState} (h : now = .seeking ∨ now = .settling ∨ now = .reacquiring) :
    s.Unheeded (.head was now) := by
  intro i
  have hpass (t : State) : passHead now t = t := by obtain rfl | rfl | rfl := h <;> unfold passHead <;> split <;> rfl
  have hjob (t : State) : jobHead was now t = t := by obtain rfl | rfl | rfl := h <;> unfold jobHead <;> split <;> rfl
  obtain rfl | rfl | rfl := h <;> simp [react, reactHead, hpass, hjob]

/-- R57, R106: heads that come to FOLLOWING, but not from LOADING, are of no concern where nobody was refused BUSY. -/
theorem unheeded_following {s : State} {was : HeadState} (hwas : was ≠ .loading)
    (hj : ∀ j ∈ s.che.job, j.phase ≠ .busy) (hp : ∀ p ∈ s.pass, p.phase ≠ .busy) :
    s.Unheeded (.head was .following) := by
  intro i
  have hpass : passHead .following { s with inbox := i } = { s with inbox := i } := by
    unfold passHead
    split
    · rfl
    next p h => simp [hp p h]
  have hjob : jobHead was .following { s with inbox := i } = { s with inbox := i } := by
    unfold jobHead
    split
    · rfl
    next j h => simp [hj j h, hwas]
  simp [react, reactHead, hwas, hpass, hjob]

/-- A command whose block leaves reports nobody heeds, and otherwise a state at rest, answers that state. -/
theorem run_unheeded {s t : State} (hs : s.pins.logicLow = false) (ht : t.settled = true) {f : State → State}
    (ms : List Signal) (hf : f s = { t with inbox := ms }) (hm : ∀ m ∈ ms, t.Unheeded m)
    (hlen : ms.length ≤ reactionBound) : run f s = .next t := by
  have hw := within_unheeded (s := { t with inbox := ms }) (ms := ms) (rest := []) (fun m hx i => hm m hx i) (by simp)
  have hi : ({ t with inbox := [] } : State) = t := by rw [← settled_inbox ht]
  simp only [hi] at hw
  rw [run_of_powered hs, hf]
  exact hw.conclude_settled ht hlen

/-- A command whose block leaves a part at rest answers what the block left. -/
theorem run_settled {s t : State} (hs : s.pins.logicLow = false) (ht : t.settled = true) {f : State → State}
    (hf : f s = t) : run f s = .next t := by
  rw [run_of_powered hs, hf, conclude_of_settled ht]

/-- R23: a change of head state. -/
theorem actHead_of_ne {s : State} {now : HeadState} (h : s.act.head ≠ now) : actHead now s =
    { s with act := { s.act with head := now }, inbox := s.inbox ++ [.head s.act.head now] } := by
  obtain ⟨e, -⟩ | ⟨-, e⟩ := actHead_cases now s
  · exact absurd e h
  · exact e

/-! ## Wedges -/

/-- R25, R44, R45: in FOLLOWING a wedge leaves what R24 and R44 say, and is passed on as a boundary. -/
theorem actWedge_following {s : State} (hh : s.act.head = .following) (hk : s.act.seek = none) (w cyl : Nat) (err : Int)
    (out : ReadOutcome) (data : List Byte) : actWedge w cyl err out data s =
      { s with act := { s.act.hear cyl err with stage1 := some 1875, gate := s.act.gate && withinError 12 err },
               inbox := s.inbox ++ [.boundary w err out data] } := by
  cases he : withinError 12 err <;>
    simp [actWedge, hh, actGateWedge, actRecalibrate, Act.hear, he, hk, State.updAct, State.send]

/-- R44: a boundary in FOLLOWING with nothing under way and nobody at work puts the gate off. -/
theorem within_boundary_idle {s : State} (hx : s.xfer = none) (hj : s.che.job = none) (hp : s.pass = none) {w : Nat}
    {err : Int} {out : ReadOutcome} {data : List Byte} (hi : s.inbox = [.boundary w err out data]) :
    Within 2 s { s with act := { s.act with gate := false }, inbox := [] } := by
  have h1 := Within.report hi
  have e1 : react (.boundary w err out data) { s with inbox := [] } =
      { s with act := { s.act with gate := false }, inbox := [.opening w] } := by
    simp [react, boundaryWedge, hx, closeGate, passBoundary, passLeaving, hp, jobBoundary, hj, State.updAct, State.send]
  rw [e1] at h1
  have h2 := Within.report (s := { s with act := { s.act with gate := false }, inbox := [.opening w] }) rfl
  have e2 : react (.opening w) { s with act := { s.act with gate := false }, inbox := [] } =
      { s with act := { s.act with gate := false }, inbox := [] } := by
    simp [react, openWedge, hp, jobOpen, hj]
  rw [e2] at h2
  exact h1.trans h2

/-- R42: the wedge of REACQUIRING with no seek held. -/
theorem actReacquire_idle {s : State} (hh : s.act.head = .reacquiring) (hk : s.act.seek = none) (cyl : Nat) :
    actReacquire cyl s = { s with
      act := { s.act with head := .following, stage2 := none, watchdog := .stage1, stage1 := some 1875 },
      inbox := s.inbox ++ [.head .reacquiring .following] } := by
  simp [actReacquire, hk, actHead_of_ne, hh, State.updAct]

/-- Reports sent one after another. -/
theorem foldl_send {α : Type} (l : List α) (f : α → Signal) (s : State) :
    l.foldl (fun t r => t.send (f r)) s = { s with inbox := s.inbox ++ l.map f } := by
  induction l generalizing s with
  | nil => simp
  | cons a l ih => rw [List.foldl_cons, ih, List.map_cons, State.send, List.append_assoc]; rfl

/-- R27, R28: the acquisition: the heads follow the servo, and the requesters of the load are answered. -/
theorem actAcquire_eq {s : State} (hh : s.act.head = .loading) (hk : s.act.seek = none) (cyl : Nat) (err : Int) :
    actAcquire cyl err s = { s with
      act := { s.act with
        head := .following, error := err, cylinder := cyl, valid := true, acquisition := none, attempt := 0,
        watchdog := .stage1, stage1 := some 1875, loads := [] },
      inbox := s.inbox ++ .head .loading .following :: s.act.loads.map fun r => .loaded r.party } := by
  simp [actAcquire, actHead_of_ne, hh, foldl_send, hk, State.updAct]

/-- R56: a context that needs no mount pass, or has asked for one, asks for none. -/
theorem request_of_no_need {c : VolCtx} (h : c.state.mountNeed = false ∨ c.pass ≠ .none) : c.request = c := by
  obtain h | h := h <;> simp [VolCtx.request, h]

theorem volLoaded_of_no_need {s : State} (h0 : s.vol0.state.mountNeed = false ∨ s.vol0.pass ≠ .none)
    (h1 : s.vol1.state.mountNeed = false ∨ s.vol1.pass ≠ .none) : volLoaded s = s := by
  simp [volLoaded, State.updVol0, State.updVol1, request_of_no_need h0, request_of_no_need h1]

/-- R27: with nobody at work nobody waits for the heads. -/
theorem unheeded_loaded {s : State} (hj : s.che.job = none) (hp : s.pass = none) (p : Party) :
    s.Unheeded (.loaded p) := by
  intro i
  cases p <;> simp [react, passLoaded, jobLoaded, hj, hp]

theorem unheeded_acquired {s : State} (hj : s.che.job = none) (hp : s.pass = none)
    (h0 : s.vol0.state.mountNeed = false ∨ s.vol0.pass ≠ .none)
    (h1 : s.vol1.state.mountNeed = false ∨ s.vol1.pass ≠ .none) : s.Unheeded (.head .loading .following) := by
  intro i
  have hv : volLoaded { s with inbox := i } = { s with inbox := i } := volLoaded_of_no_need h0 h1
  have hpass : passHead .following { s with inbox := i } = { s with inbox := i } := passHead_of_no_pass (by exact hp) _
  have hjob : jobHead .loading .following { s with inbox := i } = { s with inbox := i } :=
    jobHead_of_no_job (by exact hj) _ _
  simp [react, reactHead, hv, hpass, hjob]

/-- Settles O27: the reports of each wedge are few, and nobody heeds them. -/
theorem wedgeHeard : Obligations.WedgeHeard := by
  intro s w cyl err out data hr
  have hi := settled_inbox (s := s) hr.settled
  refine ⟨fun hh => ?_, fun hh => ?_, fun hh hx hj hp hk => ?_, fun hh hk hj hp => ?_,
    fun hh hj hp hk hl h0 h1 => ?_⟩
  · refine run_settled hr.powered hr.settled ?_
    obtain hh | hh | hh := hh <;> simp [actWedge, hh]
  · refine run_settled hr.powered (settled_of_heads hr.settled (by rfl) (by rfl)) ?_
    simp [actWedge, hh, Act.hear, State.updAct]
  · refine (run_of_powered hr.powered _).trans ?_
    rw [actWedge_following hh hk]
    refine ((within_boundary_idle (by exact hx) (by exact hj) (by exact hp) (by rw [hi]; rfl)).conclude_settled
      (t := { s with act := { s.act.hear cyl err with stage1 := some 1875, gate := false }, inbox := [] }) ?_).trans ?_
    · rw [← hi]
      exact settled_of_heads hr.settled rfl rfl
    · simp [Act.hear, hi]
  · refine run_unheeded hr.powered (settled_of_heads hr.settled (by simp [hh, HeadState.loaded]) (by rfl))
      [.head .reacquiring .following] ?_ ?_ (by decide)
    · simp [actWedge, hh, actReacquire_idle, hk, hi, Act.hear, State.updAct]
    · simpa using unheeded_following (was := .reacquiring) (by decide) (by exact hj) (by exact hp)
  · refine run_unheeded hr.powered (settled_of_heads hr.settled (by simp [hh, HeadState.loaded]) (by rfl))
      (.head .loading .following :: s.act.loads.map fun r => .loaded r.party) ?_ ?_ (by simp [reactionBound]; omega)
    · simp [actWedge, hh, actAcquire_eq, hk, hi]
    · simp only [List.mem_cons, List.mem_map, forall_eq_or_imp, forall_exists_index, and_imp,
        forall_apply_eq_imp_iff₂]
      exact ⟨unheeded_acquired (by exact hj) (by exact hp) (by exact h0) (by exact h1),
        fun r _ => unheeded_loaded (by exact hj) (by exact hp) r.party⟩

/-! ## Loading, unloading and retract -/

/-- R31, R33: the end of an unload or a retract, with no load to start from it. -/
theorem actPark_eq {s : State} (hh : s.act.head ≠ .parked) (hl : s.act.loads = []) : actPark s =
    { s with act := { s.act with head := .parked, unload := none, retract := none },
             inbox := s.inbox ++ [.head s.act.head .parked] } := by
  simp [actPark, actTryLoad, actHead_of_ne, hh, hl, State.updAct]

/-- R57, R106, R149, R160: heads that have come to PARKED are of no concern where nobody waits for them. -/
theorem unheeded_parked {s : State} {was : HeadState} (hstage : s.rcv.stage ≠ .unloading)
    (hprogress : s.pwr.progress ≠ .waitParked) : s.Unheeded (.head was .parked) := by
  intro i
  have hpass (t : State) : passHead .parked t = t := by unfold passHead; split <;> rfl
  have hjob (t : State) : jobHead was .parked t = t := by unfold jobHead; split <;> rfl
  simp [react, reactHead, hpass, hjob, pwrParked, rcvParked, hstage, hprogress]

/-- R31, R33: whatever parks the heads leaves them parked, and no more. -/
theorem run_parked {s : State} (hr : s.Ready) {f : State → State} (hf : f s = actPark s) (hh : s.act.head ≠ .parked)
    (hh' : s.act.head.loaded = false) (hl : s.act.loads = []) (hstage : s.rcv.stage ≠ .unloading)
    (hprogress : s.pwr.progress ≠ .waitParked) : run f s =
      .next { s with act := { s.act with head := .parked, unload := none, retract := none } } := by
  refine run_unheeded hr.powered (settled_of_heads hr.settled (by rw [hh']; rfl) (by rfl))
    [.head s.act.head .parked] ?_ ?_ (by simp [reactionBound])
  · simp [hf, actPark_eq hh hl, settled_inbox hr.settled]
  · simpa using unheeded_parked (s := { s with
      act := { s.act with head := .parked, unload := none, retract := none } }) hstage hprogress

/-- The answer of a seek that ends early. -/
def Act.answered (a : Act) (x : SeekAnswer) : List Signal := (a.seek.map fun k => Signal.seekAnswer k.party x).toList

theorem answered_silent (a : Act) (x : SeekAnswer) : ∀ m ∈ a.answered x, m.silent = true := by
  cases h : a.seek <;> simp [Act.answered, h, Signal.silent]

theorem answered_length (a : Act) (x : SeekAnswer) : (a.answered x).length ≤ 1 := by
  cases h : a.seek <;> simp [Act.answered, h]

/-- R31, R39: an entry to UNLOADING, with the answer a seek under way gets. -/
theorem actEnterUnloading_eq {s : State} {x : SeekAnswer} (hx : x.early = true) (hh : s.act.head ≠ .unloading) :
    actEnterUnloading x s = { s with
      act := s.act.toRamp,
      inbox := s.inbox ++ s.act.answered x ++ [.boundaryLost, .head s.act.head .unloading] } := by
  cases hk : s.act.seek <;>
    simp [actEnterUnloading, actAnswer, hk, hx, actHead, hh, State.send, State.updAct, Act.leave, Act.toRamp,
      Act.answered]

/-- R29: the second attempt has failed: the requesters are told, and the heads leave. -/
theorem actAcquisitionExpiry_failed {s : State} (hh : s.act.head = .loading) (ht : s.act.acquisition ≠ none)
    (h2 : s.act.attempt = 2) : actAcquisitionExpiry s =
      { s with act := { s.act.toRamp with loads := [] },
               inbox := s.inbox ++ (s.act.loads.map fun r => .loadFailed r.party) ++ s.act.answered .aborted ++
                 [.boundaryLost, .head .loading .unloading, .attention (.positionLostLoadFault true)] } := by
  have hc : s.act.head = .loading ∧ s.act.acquisition.isSome = true := ⟨hh, Option.isSome_iff_ne_none.2 ht⟩
  simp only [actAcquisitionExpiry, if_pos hc, h2, foldl_send]
  rw [if_neg (by decide), actEnterUnloading_eq rfl (by simp [hh])]
  simp [hh, State.updAct, State.send, Act.toRamp, Act.leave, Act.answered]

/-- R29: with nobody at work nobody waits for the load that has failed. -/
theorem unheeded_loadFailed {s : State} (hj : s.che.job = none) (hp : s.pass = none) (p : Party) :
    s.Unheeded (.loadFailed p) := by
  intro i
  cases p <;> simp [react, volAbandon, jobLoadFailed, hj, hp]

/-- R29, R43: the attention event of a departure goes to NTU last. -/
theorem within_attention {s : State} {a : Attention} (hi : s.inbox = [.attention a]) :
    Within 1 s { s with inbox := [], ntu := s.ntu.attend a } := by
  have h := Within.report hi
  have e : react (.attention a) { s with inbox := [] } = { s with inbox := [], ntu := s.ntu.attend a } := by
    simp [react, reactAttention, attend_eq]
  rwa [e] at h

/-- R29, R31, R43: heads that leave the medium with nothing on hand end the transfer, and the cause goes to NTU. -/
theorem within_positionLost {s : State} {before : List Signal} {was : HeadState} {a : Attention}
    (hj : s.che.job = none) (hp : s.pass = none) (hg : s.act.gate = false) (hb : ∀ m ∈ before, s.Unheeded m)
    (hi : s.inbox = before ++ [.boundaryLost, .head was .unloading, .attention a]) :
    Within (before.length + 3) s { s with inbox := [], xfer := none, ntu := s.ntu.attend a } := by
  have h1 := within_unheeded hb hi
  have h2 := Within.report (s := { s with inbox := [.boundaryLost, .head was .unloading, .attention a] }) rfl
  rw [react_boundaryLost (by exact hj) (by exact hp) (by exact hg)] at h2
  have h3 := within_silent (s := { s with xfer := none, inbox := [.head was .unloading, .attention a] })
    (ms := [.head was .unloading]) (rest := [.attention a]) (by simp [Signal.silent]) hj hp rfl
  have h4 := within_attention (s := { s with xfer := none, inbox := [.attention a] }) rfl
  exact ((h1.trans h2).trans h3).trans h4

/-- Heads on their way to the ramp leave a part with nothing on hand at rest. -/
theorem State.Quiet.rests_ramp {s : State} (h : s.Quiet) {a : Act} {w : Pwr} {n : Ntu} {x : Option Xfer}
    (ha : a.head.loaded = false) :
    settleOnce { s with act := a, xfer := x, pwr := w, ntu := n, inbox := [] } = none :=
  h.toClear.rests rfl rfl h.pass0 h.pass1 rfl rfl (unloadDue_of_not_loaded ha)

/-- Settles O29: a timer's expiry or the ramp report ends the load, the unload or the retract, and nobody else is
concerned. -/
theorem loadAndUnloadTimers : Obligations.LoadAndUnloadTimers := by
  refine ⟨fun s hh ht => ⟨fun hr h1 => ?_, fun hq h2 hl => ?_⟩,
    fun s c hr => ⟨fun hc hl hstage hp => ?_, fun h1 h2 => ?_⟩⟩
  · have ht' : s.act.acquisition.isSome = true := Option.isSome_iff_ne_none.2 ht
    refine run_settled hr.powered (settled_of_heads hr.settled (by rfl) (by rfl)) ?_
    simp [actAcquisitionExpiry, hh, ht', h1, State.updAct]
  · have hi := settled_inbox (s := s) hq.settled
    refine (run_of_powered hq.powered _).trans ?_
    rw [actAcquisitionExpiry_failed hh ht h2]
    have hw := within_positionLost (s := { s with
        act := { s.act.toRamp with loads := [] },
        inbox := (s.act.loads.map fun r => .loadFailed r.party) ++ s.act.answered .aborted ++
          [.boundaryLost, .head .loading .unloading, .attention (.positionLostLoadFault true)] })
      hq.no_job hq.no_pass rfl (before := (s.act.loads.map fun r => .loadFailed r.party) ++ s.act.answered .aborted)
      ?_ rfl
    · have hlen := answered_length s.act .aborted
      rw [hi, List.nil_append]
      exact hw.conclude (hq.rests_ramp rfl) (by simp [reactionBound]; omega)
    · intro m hm
      obtain ⟨r, -, rfl⟩ | hm := (List.mem_append.1 hm).imp_left List.mem_map.1
      · exact unheeded_loadFailed (by exact hq.no_job) (by exact hq.no_pass) r.party
      · exact unheeded_of_silent (by exact hq.no_job) (by exact hq.no_pass) (answered_silent s.act _ m hm)
  · obtain ⟨rfl, hh⟩ | ⟨rfl, hh, ht⟩ | ⟨rfl, hh, ht⟩ := hc
    · refine run_parked hr ?_ ?_ ?_ hl hstage hp <;> obtain hh | hh := hh <;> simp [actRamp, hh, HeadState.loaded]
    · refine run_parked hr ?_ (by simp [hh]) (by simp [hh, HeadState.loaded]) hl hstage hp
      simp [actUnloadExpiry, hh, Option.isSome_iff_ne_none.2 ht]
    · refine run_parked hr ?_ (by simp [hh]) (by simp [hh, HeadState.loaded]) hl hstage hp
      simp [actRetractExpiry, hh, Option.isSome_iff_ne_none.2 ht]
  · refine run_settled hr.powered hr.settled ?_
    unfold actRamp
    split
    · contradiction
    · contradiction
    · rfl

/-! ## Seeks -/

/-- A command whose block leaves one report that is heeded, and then reports nobody heeds. -/
theorem run_heeded {s t u : State} (hs : s.pins.logicLow = false) (hu : u.settled = true) {f : State → State}
    (m : Signal) (ms : List Signal) (hf : f s = { t with inbox := m :: ms })
    (hm : react m { t with inbox := ms } = { u with inbox := ms }) (hms : ∀ m ∈ ms, u.Unheeded m)
    (hlen : ms.length < reactionBound) : run f s = .next u := by
  have h1 := Within.report (s := { t with inbox := m :: ms }) rfl
  have h2 := within_unheeded (s := { u with inbox := ms }) (ms := ms) (rest := []) (fun m hx i => hms m hx i) (by simp)
  have hi : ({ u with inbox := [] } : State) = u := by rw [← settled_inbox hu]
  simp only [hm] at h1
  simp only [hi] at h2
  rw [run_of_powered hs, hf]
  exact (h1.trans h2).conclude_settled hu (by omega)

/-- R37: the record of heads that have arrived. -/
def Act.arrival (a : Act) : Act :=
  { a with head := .following, seekTimeout := none, plan := none, settle := none, seek := none }

/-- R37: the arrival answers the seek. -/
theorem actArrive_eq {s : State} {k : Seek} (hh : s.act.head = .settling) (hk : s.act.seek = some k) :
    actArrive s = { s with
      act := s.act.arrival, inbox := s.inbox ++ [.seekAnswer k.party .arrived, .head .settling .following] } := by
  simp [actArrive, actAnswer, hk, actHead, hh, State.send, State.updAct, SeekAnswer.early, Act.arrival]

/-- R108: an order whose seek has arrived is ready for its transfer, unless a cancel stops it. -/
theorem jobSeekAnswer_arrived {s : State} {j : Job} (hj : s.che.job = some j) (hphase : j.phase = .seek)
    (htask : j.task ≠ .seekOnly) (hcancel : jobCancelled j s = false ∨ j.pastFirstWrite = true) :
    jobSeekAnswer .arrived s = { s with che := { s.che with job := some { j with phase := .ready } } } := by
  have hstop : ¬ (jobCancelled j s = true ∧ j.pastFirstWrite = false) := by
    rintro ⟨h1, h2⟩
    simp [h1, h2] at hcancel
  simp [jobSeekAnswer, hj, hphase, htask, hstop, setPhase, State.updJob, State.updChe]

/-- R36, R37: the wedges of SETTLING that neither end nor fail the attempt. -/
theorem actSettleWedge_heard {s : State} {k : Seek} {cyl : Nat} {err : Int} (hk : s.act.seek = some k) :
    (cyl = k.target.cylinder → s.act.arrived = false → s.act.settleTime ≠ 0 → actSettleWedge cyl err s =
      { s with act := { s.act with arrived := true, settle := some 2000 } }) ∧
    (cyl = k.target.cylinder → s.act.arrived = true → actSettleWedge cyl err s = { s with act := { s.act with
      settle := if 12 < err.natAbs then none else if s.act.settle = none then some 2000 else s.act.settle } }) ∧
    (cyl ≠ k.target.cylinder → s.act.arrived = true → s.act.settle = none → actSettleWedge cyl err s = s) := by
  refine ⟨fun hc ha hn => ?_, fun hc ha => ?_, fun hc ha hn => ?_⟩
  · simp [actSettleWedge, hk, hc, ha, hn, State.updAct]
  · by_cases he : err.natAbs ≤ 12
    · have hw : withinError 12 err = true := by simpa [withinError] using he
      by_cases hn : s.act.settle = none
      · simp [actSettleWedge, hk, hc, ha, hn, hw, Nat.not_lt.2 he, State.updAct]
      · rw [show actSettleWedge cyl err s = s by simp [actSettleWedge, hk, hc, ha, hn, hw], if_neg (by omega),
          if_neg hn]
    · have hw : withinError 12 err = false := by simpa [withinError] using he
      by_cases hn : s.act.settle = none
      · rw [show actSettleWedge cyl err s = s by simp [actSettleWedge, hk, hc, ha, hn, hw], if_pos (by omega), ← hn]
      · simp [actSettleWedge, hk, hc, ha, hn, hw, Nat.not_le.1 he, State.updAct]
  · simp [actSettleWedge, hk, hc, ha, hn]

/-- R37: a seek has arrived by a command that leaves ACT's record `a` first. -/
theorem run_arrived {s : State} {a : Act} {k : Seek} {f : State → State} (hr : s.Ready) (hh : a.head = .settling)
    (hs : s.act.head = .settling) (hk : a.seek = some k) (hf : f s = actArrive { s with act := a }) :
    (∀ j ∈ s.che.job, k.party = .che → j.phase = .seek → j.task ≠ .seekOnly → s.pass = none →
      (jobCancelled j s = false ∨ j.pastFirstWrite = true) →
      run f s = .next { s with
        act := a.arrival, che := { s.che with job := some { j with phase := .ready } } }) ∧
    (∀ p ∈ s.pass, k.party = .vol → p.phase = .seek → (∀ j ∈ s.che.job, j.phase ≠ .busy) →
      run f s = .next { s with act := a.arrival, pass := some { p with phase := .read } }) := by
  have hi := settled_inbox (s := s) hr.settled
  have hloaded : a.arrival.head.loaded = s.act.head.loaded := by rw [hs]; rfl
  have hf' : f s = { s with
      act := a.arrival, inbox := [.seekAnswer k.party .arrived, .head .settling .following] } := by
    rw [hf, actArrive_eq (by exact hh) (by exact hk)]
    simp [hi]
  refine ⟨fun j hj hparty hphase htask hp hcancel => ?_, fun p hp hparty hphase hj => ?_⟩
  · refine run_heeded hr.powered (settled_of_work hr.settled hloaded (x := s.xfer) (p := s.pass) rfl hj
      (k := { j with phase := .ready }) ⟨rfl, rfl, rfl⟩ (by simp)) (t := { s with act := a.arrival }) _
      [.head .settling .following] hf' ?_ ?_ (by decide)
    · rw [hparty]
      exact jobSeekAnswer_arrived (by exact hj) hphase htask (by exact hcancel)
    · simpa using unheeded_following (was := .settling) (by decide) (by simp) (by simp [hp])
  · refine run_heeded hr.powered (settled_of_heads hr.settled (x := s.xfer) hloaded (by simp [Option.mem_def.1 hp]))
      (t := { s with act := a.arrival }) _ [.head .settling .following] hf' ?_ ?_ (by decide)
    · rw [hparty]
      simp [react, passSeekAnswer, Option.mem_def.1 hp, hphase, State.setPassPhase, State.setPass]
    · simpa using unheeded_following (was := .settling) (by decide) (by exact hj) (by simp)

/-- R25, R36: a wedge of SETTLING. -/
theorem actWedge_settling {s : State} (hh : s.act.head = .settling) (w cyl : Nat) (err : Int) (out : ReadOutcome)
    (data : List Byte) : actWedge w cyl err out data s =
      actSettleWedge cyl err { s with act := { s.act with
        error := err, cylinder := if s.act.valid then cyl else s.act.cylinder, stage1 := some 1875 } } := by
  simp [actWedge, hh, State.updAct, Act.hear]

/-- R37: the settle period's end, and the arrival wedge of a seek with no settle time. -/
theorem actSettleEnd_eq {s : State} (hh : s.act.head = .settling) (hn : s.act.settle ≠ none) :
    actSettleEnd s = actArrive s := by
  simp [actSettleEnd, hh, Option.isSome_iff_ne_none.2 hn]

theorem actSettleWedge_arrival {s : State} {k : Seek} {cyl : Nat} (hk : s.act.seek = some k)
    (hc : cyl = k.target.cylinder) (ha : s.act.arrived = false) (ht : s.act.settleTime = 0) (err : Int) :
    actSettleWedge cyl err s = actArrive s := by
  simp [actSettleWedge, hk, hc, ha, ht]

/-- Settles O30: the wedges before the arrival concern ACT alone, and the arrival answers who asked. -/
theorem seekEnds : Obligations.SeekEnds := by
  intro s w cyl err out data hr heard
  have hi := settled_inbox (s := s) hr.settled
  refine ⟨fun hh hplan => ?_, fun hh k hk => ?_⟩
  · have hplan' : s.act.plan.isSome = true := Option.isSome_iff_ne_none.2 hplan
    refine run_unheeded hr.powered (settled_of_heads hr.settled (by rw [hh]; rfl) (by rfl))
      [.head .seeking .settling] ?_ ?_ (by decide)
    · simp [actPlanEnd, hh, hplan', actHead_of_ne, hi, State.updAct]
    · simpa using unheeded_head (by simp)
  have hwedge := actWedge_settling hh w cyl err out data
  obtain ⟨hfirst, hnext, hbetween⟩ := actSettleWedge_heard (s := { s with act := heard }) (cyl := cyl) (err := err) hk
  refine ⟨fun hc ha hn => ?_, fun hc ha => ?_, fun hc ha hn => ?_, fun c a hc => ?_⟩
  · exact run_settled hr.powered (settled_of_heads hr.settled (by rfl) (by rfl)) (hwedge.trans (hfirst hc ha hn))
  · exact run_settled hr.powered (settled_of_heads hr.settled (by rfl) (by rfl)) (hwedge.trans (hnext hc ha))
  · exact run_settled hr.powered (settled_of_heads hr.settled (by rfl) (by rfl)) (hwedge.trans (hbetween hc ha hn))
  · obtain ⟨rfl, hn, rfl⟩ | ⟨rfl, hcyl, ha, ht, rfl⟩ := hc
    · exact run_arrived hr hh hh hk (actSettleEnd_eq hh hn)
    · exact run_arrived hr hh hh hk 
        (hwedge.trans (actSettleWedge_arrival (by exact hk) hcyl (by exact ha) (by exact ht) err))

/-- R23: the report of a change of head state, where there is one. -/
def HeadState.changeTo (was now : HeadState) : List Signal := if was = now then [] else [.head was now]

theorem changeTo_length (was now : HeadState) : (was.changeTo now).length ≤ 1 := by
  unfold HeadState.changeTo
  split <;> simp

theorem mem_changeTo {was now : HeadState} {m : Signal} (h : m ∈ was.changeTo now) : m = .head was now := by
  unfold HeadState.changeTo at h
  split at h <;> simp_all

theorem actHead_eq (now : HeadState) (s : State) : actHead now s =
    { s with act := { s.act with head := now }, inbox := s.inbox ++ s.act.head.changeTo now } := by
  unfold HeadState.changeTo
  obtain ⟨h, e⟩ | ⟨h, e⟩ := actHead_cases now s <;> rw [e]
  · subst h
    simp
  · simp [h]

/-- R35, R38: the record of heads that seek once more. -/
def Act.reseek (a : Act) (k : Seek) : Act :=
  let again := { a with
    gate := false, settle := none, arrived := false, retries := a.retries + 1, comb := k.target.comb,
    seek := some { k with phase := .running }, settleTime := 2000 }
  let d := distance k.target.cylinder a.cylinder
  let plan := 1000 * planTime d (decide (k.target.comb ≠ a.comb))
  if d = 0 then { again with head := .settling, plan := none, seekTimeout := some 4000 }
  else { again with head := .seeking, plan := some plan, seekTimeout := some (2 * (plan + 2000)) }

theorem reseek_head (a : Act) (k : Seek) : (a.reseek k).head =
    if distance k.target.cylinder a.cylinder = 0 then .settling else .seeking := by
  unfold Act.reseek
  dsimp only
  split <;> rfl

/-- R38: below two retries a failed attempt is made again. -/
theorem actFail_again {s : State} {k : Seek} (hk : s.act.seek = some k) (h : s.act.retries < 2) : actFail s =
    { s with act := s.act.reseek k, inbox := s.inbox ++ s.act.head.changeTo (s.act.reseek k).head } := by
  by_cases hd : distance k.target.cylinder s.act.cylinder = 0 <;>
    simp [actFail, hk, h, actAttempt, hd, Act.reseek, actHead_eq, State.updAct]

/-- R38: the record of heads whose third attempt has failed. -/
def Act.unsought (a : Act) : Act :=
  { a with head := .following, valid := false, seek := none, seekTimeout := none, plan := none, settle := none }

theorem actFail_error {s : State} {k : Seek} (hk : s.act.seek = some k) (h : 2 ≤ s.act.retries) : actFail s =
    { s with act := s.act.unsought,
             inbox := s.inbox ++ .seekAnswer k.party .seekError :: s.act.head.changeTo .following } := by
  simp [actFail, hk, Nat.not_lt.2 h, actHead_eq, actAnswer, SeekAnswer.early, Act.unsought, State.updAct, State.send]

/-- R38: a seek attempt has failed by a command that leaves ACT's record `a` first. -/
theorem run_failed {s : State} {a : Act} {k : Seek} {f : State → State} (hr : s.Ready)
    (hl : s.act.head.loaded = true) (ha : a.head ≠ .loading) (hk : a.seek = some k)
    (hf : f s = actFail { s with act := a }) :
    (a.retries < 2 → run f s = .next { s with act := a.reseek k }) ∧
    (2 ≤ a.retries → s.che.job = none → s.pass = none → run f s = .next { s with act := a.unsought }) := by
  have hi := settled_inbox (s := s) hr.settled
  refine ⟨fun h => ?_, fun h hj hp => ?_⟩
  · have hnow := reseek_head a k
    refine run_unheeded hr.powered (settled_of_heads hr.settled ?_ (by rfl)) (a.head.changeTo (a.reseek k).head) ?_
      ?_ ((changeTo_length _ _).trans (by decide))
    · rw [hl, hnow]
      split <;> rfl
    · rw [hf, actFail_again (by exact hk) h]
      simp [hi]
    · intro m hm
      rw [mem_changeTo hm]
      exact unheeded_head (by rw [hnow]; split <;> simp)
  · refine run_unheeded hr.powered (settled_of_heads hr.settled (by rw [hl]; rfl) (by rfl))
      (.seekAnswer k.party .seekError :: a.head.changeTo .following) ?_ ?_ ?_
    · rw [hf, actFail_error (by exact hk) h]
      simp [hi]
    · intro m hm
      obtain rfl | hm := List.mem_cons.1 hm
      · exact unheeded_of_silent (by exact hj) (by exact hp) rfl
      · rw [mem_changeTo hm]
        exact unheeded_following ha (by simp [hj]) (by simp [hp])
    · have := changeTo_length a.head .following
      simp only [List.length_cons, reactionBound]
      omega

/-- R37, R38: a wedge that fails the attempt, at the arrival or in a settle period. -/
theorem actSettleWedge_failed {s : State} {k : Seek} {cyl : Nat} (hk : s.act.seek = some k)
    (hc : cyl ≠ k.target.cylinder) (h : s.act.arrived = false ∨ s.act.settle ≠ none) (err : Int) :
    actSettleWedge cyl err s = actFail s := by
  by_cases ha : s.act.arrived = false
  · simp [actSettleWedge, hk, ha, hc]
  · simp [actSettleWedge, hk, ha, hc, h.resolve_left ha]

/-- R42: the wedge that ends an interruption. -/
theorem actWedge_interrupted {s : State} {k : Seek} (hh : s.act.head = .reacquiring) (hk : s.act.seek = some k)
    (hphase : k.phase = .interrupted) (w cyl : Nat) (err : Int) (out : ReadOutcome) (data : List Byte) :
    actWedge w cyl err out data s = actFail { s with act := { s.act with
      error := err, cylinder := if s.act.valid then cyl else s.act.cylinder, stage1 := some 1875, stage2 := none,
      watchdog := .stage1 } } := by
  simp [actWedge, hh, actReacquire, hk, hphase, State.updAct, Act.hear]

/-- Settles O31: each of the ways an attempt fails is `actFail` of what the command left first. -/
theorem seekFails : Obligations.SeekFails := by
  intro s c a w cyl err out data hr k hk heard hc
  obtain ⟨rfl, hh, ht, rfl⟩ | ⟨rfl, hh, hcyl, ha, rfl⟩ | ⟨rfl, hh, hphase, rfl⟩ := hc
  · refine run_failed hr ?_ ?_ hk ?_
    · obtain hh | hh := hh <;> rw [hh] <;> rfl
    · obtain hh | hh := hh <;> simp [hh]
    · simp [actSeekTimeout, hh, Option.isSome_iff_ne_none.2 ht]
  · exact run_failed hr (by rw [hh]; rfl) (by simp [hh]) (by exact hk)
      ((actWedge_settling hh w cyl err out data).trans
        (actSettleWedge_failed (by exact hk) hcyl (by exact ha) err))
  · exact run_failed hr (by rw [hh]; rfl) (by simp [hh]) (by exact hk)
      (actWedge_interrupted hh hk hphase w cyl err out data)

/-! ## The servo watchdog -/

/-- R41: the record of heads that have lost the servo. -/
def Act.lost (a : Act) : Act :=
  { a with head := .reacquiring, gate := false, watchdog := .stage2, stage1 := none, stage2 := some 50000,
           seekTimeout := none, plan := none, settle := none, seek := a.seek.map Seek.lose }

/-- R41, R44: stage 1 expires. -/
theorem actStage1_eq {s : State} (hh : s.act.head = .following ∨ s.act.head = .seeking ∨ s.act.head = .settling)
    (ht : s.act.stage1 ≠ none) : actStage1 s =
      { s with act := s.act.lost, inbox := s.inbox ++ [.boundaryLost, .head s.act.head .reacquiring] } := by
  have hc : (s.act.head = .following ∨ s.act.head = .seeking ∨ s.act.head = .settling) ∧ s.act.stage1.isSome = true :=
    ⟨hh, Option.isSome_iff_ne_none.2 ht⟩
  have hne : s.act.head ≠ .reacquiring := by obtain hh | hh | hh := hh <;> simp [hh]
  simp only [actStage1, if_pos hc]
  rw [actHead_of_ne (by simpa using hne)]
  simp [Act.lost, State.updAct, State.send]

theorem passBoundary_of_no_pass {s : State} (hp : s.pass = none) : passBoundary s = s := by
  simp [passBoundary, passLeaving, hp]

/-- R44, R127: a transfer abandoned at a boundary without a wedge number is made again, and not counted. -/
theorem react_boundaryLost_under {s : State} {j : Job} (hj : s.che.job = some j) (hp : s.pass = none)
    (hg : s.act.gate = false) (hphase : j.phase = .under) (hstop : jobStops j s = false) (hdue : j.due = none) :
    react .boundaryLost s = { s with xfer := none, che := { s.che with job := some { j with phase := .ready } } } := by
  have hc : closeGate (s.setXfer none) = { s with xfer := none } := by
    have ha : ({ s.act with gate := false } : Act) = s.act := by rw [← hg]
    simp [closeGate, State.updAct, State.setXfer, ha]
  have hb : passBoundary { s with xfer := none } = { s with xfer := none } := passBoundary_of_no_pass hp
  have hstop' : jobStops j { s with xfer := none } = false := hstop
  simp [react, boundaryLost, hc, hb, hj, hphase, hstop', hdue, setPhase, State.updJob, State.updChe]

/-- R43, R164: the position is lost with nobody at work: PWR's target goes down from ACTIVE. -/
theorem react_positionLost {s : State} (hj : s.che.job = none) (hp : s.pass = none) : react .positionLost s =
    { s with pwr := if s.pwr.target = .active ∧ s.pwr.state ≠ .faultHold then
        { s.pwr with target := .standby, descent := some .idle, progress := .waitParked }
      else s.pwr } := by
  have e : react .positionLost s = pwrPositionLost s := by simp [react, volAbandon, jobFault, hp, hj]
  rw [e]
  unfold pwrPositionLost
  split
  · rfl
  · rfl

/-- R31, R43: stage 2 expires. -/
theorem actStage2_eq {s : State} (hh : s.act.head = .reacquiring) (ht : s.act.stage2 ≠ none) : actStage2 s =
    { s with act := s.act.toRamp,
             inbox := s.inbox ++ .positionLost :: (s.act.answered .positionLost ++
               [.boundaryLost, .head .reacquiring .unloading, .attention (.positionLostLoadFault false)]) } := by
  have hc : s.act.head = .reacquiring ∧ s.act.stage2.isSome = true := ⟨hh, Option.isSome_iff_ne_none.2 ht⟩
  simp only [actStage2, if_pos hc]
  rw [actEnterUnloading_eq rfl (by simp [hh])]
  simp [hh, State.send]

/-- Settles O32: stage 1 abandons what is under way, and stage 2 sends the heads to the ramp. -/
theorem watchdogExpires : Obligations.WatchdogExpires := by
  intro s lost
  refine ⟨fun hr hh ht hp => ?_, fun hq hh ht => ?_⟩
  · have hf : actStage1 s = { ({ s with act := s.act.lost } : State) with
        inbox := [.boundaryLost, .head s.act.head .reacquiring] } := by
      rw [actStage1_eq hh ht]
      simp [settled_inbox hr.settled]
    have hloaded : s.act.lost.head.loaded = s.act.head.loaded := by
      obtain hh | hh | hh := hh <;> rw [hh] <;> rfl
    refine ⟨fun hj => ?_, fun j hj hphase hstop hdue => ?_⟩
    · exact run_heeded hr.powered (settled_of_heads (p := s.pass) hr.settled hloaded rfl) .boundaryLost
        [.head s.act.head .reacquiring] hf (react_boundaryLost (by exact hj) (by exact hp) rfl)
        (by simpa using unheeded_head (by simp)) (by simp [reactionBound])
    · exact run_heeded hr.powered (settled_of_work (k := { j with phase := .ready }) (p := s.pass) hr.settled hloaded
        rfl hj ⟨rfl, rfl, rfl⟩ (by simp)) .boundaryLost [.head s.act.head .reacquiring] hf
        (react_boundaryLost_under (by exact hj) (by exact hp) rfl hphase (by exact hstop) hdue)
        (by simpa using unheeded_head (by simp)) (by simp [reactionBound])
  · have hi := settled_inbox (s := s) hq.settled
    refine (run_of_powered hq.powered _).trans ?_
    rw [actStage2_eq hh ht, hi, List.nil_append]
    have h1 := Within.report (s := { s with
      act := s.act.toRamp,
      inbox := .positionLost :: (s.act.answered .positionLost ++
        [.boundaryLost, .head .reacquiring .unloading, .attention (.positionLostLoadFault false)]) }) rfl
    rw [react_positionLost (by exact hq.no_job) (by exact hq.no_pass)] at h1
    have h2 := h1.trans (within_positionLost hq.no_job hq.no_pass rfl
      (fun m hm => unheeded_of_silent (by exact hq.no_job) (by exact hq.no_pass) (answered_silent s.act _ m hm)) rfl)
    have hlen := answered_length s.act .positionLost
    exact h2.conclude (hq.rests_ramp rfl) (by simp only [reactionBound]; omega)

/-! ## The slot identity -/

theorem distance_eq_zero {a b : Nat} : distance a b = 0 ↔ a = b := by
  simp only [distance]
  omega

theorem reseek_fields (a : Act) (k : Seek) : (a.reseek k).target = a.target ∧ (a.reseek k).retries = a.retries + 1 ∧
    (a.reseek k).gate = false ∧ (a.reseek k).comb = k.target.comb := by
  unfold Act.reseek
  dsimp only
  split <;> exact ⟨rfl, rfl, rfl, rfl⟩

/-- R38, R123: a slot of another cylinder, under an order's block in FOLLOWING: the order waits for ACT to seek the
place again. -/
theorem identityRead_misplaced {s : State} {x : Xfer} {i : Identity} {j : Job} (hx : s.xfer = some x)
    (hkind : x.kind ≠ .writeSlot) (hseen : x.seen = .notRead) (hi : x.identity ≠ some i)
    (hc : i.cylinder ≠ x.place.cylinder) (hh : s.act.head = .following) (hp : s.pass = none)
    (hj : s.che.job = some j) : identityRead (some i) s =
      let place : Target := { cylinder := x.place.cylinder, comb := x.place.comb }
      let kept := s.act.target = some place ∧ s.act.targetEnded = false
      actFail { s with
        xfer := none, che := { s.che with job := some { j with phase := .seek } },
        act := { s.act with
          gate := false, target := some place, targetEnded := false,
          retries := if kept then s.act.retries else 0,
          seek := some { party := .che, target := place, phase := .running } } } := by
  by_cases hk : s.act.target = some { cylinder := x.place.cylinder, comb := x.place.comb } ∧ s.act.targetEnded = false
  · simp [identityRead, hx, hkind, hseen, hi, hc, misplaced, hp, actMisplaced, hh, hj, hk, setPhase, closeGate,
      State.setXfer, State.updJob, State.updChe, State.updAct]
  · simp [identityRead, hx, hkind, hseen, hi, hc, misplaced, hp, actMisplaced, hh, hj, hk, setPhase, closeGate,
      State.setXfer, State.updJob, State.updChe, State.updAct]

/-- Settles O33: only an identity of another cylinder concerns ACT, whose seek fails as any other. -/
theorem slotIdentity : Obligations.SlotIdentity := by
  intro s i hr x hx hkind hseen
  have hrest (y : Option Xfer) : ({ s with xfer := y } : State).settled = true :=
    settled_of_heads hr.settled (by rfl) (by rfl)
  refine ⟨?_, fun hi => ?_, fun hi hc => ?_, fun hi hc hh hp j hj hphase => ?_⟩
  · refine run_settled hr.powered (hrest _) ?_
    simp [identityRead, Option.mem_def.1 hx, hkind, hseen, State.setXfer]
  · refine run_settled hr.powered (hrest _) ?_
    simp [identityRead, Option.mem_def.1 hx, hkind, hseen, hi, State.setXfer]
  · refine run_settled hr.powered (hrest _) ?_
    simp [identityRead, Option.mem_def.1 hx, hkind, hseen, hi, hc, State.setXfer]
  · intro place tries htries
    let k : Seek := { party := .che, target := place, phase := .running }
    let a : Act := { s.act with
      gate := false, target := some place, targetEnded := false, retries := tries, seek := some k }
    have hf := identityRead_misplaced hx hkind hseen hi hc hh hp hj
    obtain ⟨htarget, hretries, hgate, hcomb⟩ := reseek_fields a k
    have hhead := reseek_head a k
    refine ⟨_, run_unheeded hr.powered (settled_of_work (k := { j with phase := .seek }) (x := none) (p := s.pass)
      (a := a.reseek k) hr.settled ?_ rfl hj ⟨rfl, rfl, rfl⟩ (by simp)) (a.head.changeTo (a.reseek k).head) ?_ ?_
      ((changeTo_length _ _).trans (by decide)), rfl, htarget, hretries, hgate, hcomb, ?_⟩
    · rw [hh, hhead]
      split <;> rfl
    · rw [hf, actFail_again (k := k) rfl htries]
      simp [settled_inbox hr.settled, a, k, place, tries]
    · intro m hm
      rw [mem_changeTo hm]
      exact unheeded_head (by rw [hhead]; split <;> simp)
    · rw [hhead]
      simp only [distance_eq_zero]
      rfl

end Sys2Proof.Machine
end

section
/-! PROOF. Reports one by one, seeks as they begin, and the mount pass of heads newly loaded (O28). -/
namespace Sys2Proof.Machine

/-! ## Reports, one by one -/

/-- The first report on its way leads where it says. -/
theorem Within.step {s t : State} {m : Signal} {rest : List Signal} (h : s.inbox = m :: rest)
    (e : react m { s with inbox := rest } = t) : Within 1 s t := e ▸ .report h

theorem Within.emptied {b : Nat} {s t : State} (h : Within b s { t with inbox := [] }) (ht : t.inbox = []) :
    Within b s t := by
  rwa [show ({ t with inbox := [] } : State) = t by rw [← ht]] at h

/-- Reports nobody heeds are taken, and nothing comes of them. -/
theorem within_all_unheeded {ms : List Signal} {s : State} (hm : ∀ m ∈ ms, s.Unheeded m) :
    Within ms.length { s with inbox := ms } { s with inbox := [] } :=
  within_unheeded (s := { s with inbox := ms }) (rest := []) (fun m hx i => hm m hx i) (by simp)

/-! ## Seeks begun -/

/-- R35: the record of heads that have begun a seek to a place elsewhere. -/
def Act.sought (a : Act) (k : Seek) : Act :=
  let d := distance k.target.cylinder a.cylinder
  let plan := 1000 * planTime d (decide (k.target.comb ≠ a.comb))
  let settle := if d = 0 then 0 else 2000
  { a with
    head := .seeking, gate := false, seek := some { k with phase := .running }, comb := k.target.comb,
    plan := some plan, settle := none, settleTime := settle, arrived := false,
    seekTimeout := some (2 * (plan + settle)) }

/-- R35: a seek to the place the heads are at has arrived at once. -/
theorem actAttempt_here {s : State} {k : Seek} (hd : k.target.cylinder = s.act.cylinder)
    (hc : k.target.comb = s.act.comb) : actAttempt k false s =
      { s with act := { s.act with head := .following, gate := false, seek := none },
               inbox := s.inbox ++ .seekAnswer k.party .arrived :: s.act.head.changeTo .following } := by
  simp [actAttempt, distance_eq_zero, hd, hc, actAnswer, actHead_eq, State.updAct, State.send, SeekAnswer.early]

/-- R35: a seek to any other place is under way. -/
theorem actAttempt_elsewhere {s : State} {k : Seek}
    (h : ¬ (k.target.cylinder = s.act.cylinder ∧ k.target.comb = s.act.comb)) : actAttempt k false s =
      { s with act := s.act.sought k, inbox := s.inbox ++ s.act.head.changeTo .seeking } := by
  have hd : ¬ (distance k.target.cylinder s.act.cylinder = 0 ∧ decide (k.target.comb ≠ s.act.comb) = false) := by
    simpa [distance_eq_zero] using h
  simp only [actAttempt, if_neg hd, Bool.false_eq_true, false_and, if_false, actHead_eq]
  simp [Act.sought, State.updAct]

/-- R34: a seek asked for in FOLLOWING over a valid position is taken at once. -/
theorem actSeek_following {s : State} (hh : s.act.head = .following) (hv : s.act.valid = true) (p : Party)
    (t : Target) : actSeek p t s = (actAttempt { party := p, target := t, phase := .held } false
      { s with act := { s.act with target := some t, targetEnded := false, retries := 0 } }, .taken) := by
  simp [actSeek, hh, actTakeSeek, hv, State.updAct]

/-! ## The mount pass of volume 0 (O28) -/

/-- R58: a header block not yet read. -/
def Pass.begun (v : Vol) (lent : Bool) : Pass :=
  { volume := v, lent := lent, phase := .load,
    blocks := List.replicate 4 { tried := false, data := none, identityOk := false, setAside := 0 } }

/-- R56, R57: the arbiter grants a pass that waits, with nothing else on hand. -/
theorem idleRule_pass {s : State} (hmech : s.che.mech = .free) (hjob : s.che.job = none) (hchains : s.chains = [])
    (hp : s.vol0.pass = .pending) (hstage : s.rcv.stage = .none) (hpwr : s.pwr.state ≠ .faultHold)
    (hprogress : s.pwr.progress = .none) : idleRule s = some (.grant (.pass .v0) false) := by
  have hunload : unloadDue s = false := unloadDue_of_progress (by simp [hprogress])
  simp [idleRule, drained, hstage, freeStarter, hchains, oldest, heldEjectDue, lendsTo, readWaits, writeNeeds, hjob,
    unloadOrGrant, hunload, arbiterChoice, hmech, hpwr, presentedPass, hp]

/-- R57, R58: a pass granted over heads in FOLLOWING with a valid position asks for cylinder 0. -/
theorem passGrant_following {s : State} {v : Vol} (hh : s.act.head = .following) (hv : s.act.valid = true) :
    passGrant v false s = (actAttempt
      { party := .vol, target := { cylinder := 0, comb := 2 * v.toNat }, phase := .held } false
      { (s.updVol v fun c => { c with pass := .running, state := .mounting }) with
        act := { s.act with target := some { cylinder := 0, comb := 2 * v.toNat }, targetEnded := false, retries := 0 },
        pass := some (Pass.begun v false), che := { s.che with mech := .pass v } }).setPassPhase .seek := by
  cases v <;> simp [passGrant, hh, passSeek, actSeek_following, hv, Pass.begun, State.updVol, State.updVol0,
    State.updVol1, State.setPass, State.setMech, State.updChe]

/-- R56: heads over the medium ask volume 0, not mounted, for its pass. -/
theorem reactHead_loaded {s : State} (hj : s.che.job = none) (hp : s.pass = none) (h0 : s.vol0.state = .unmounted)
    (hp0 : s.vol0.pass = .none) (h1 : s.vol1.state.mountNeed = false) :
    reactHead .loading .following s = { s with vol0 := { s.vol0 with pass := .pending } } := by
  have hv : volLoaded s = { s with vol0 := { s.vol0 with pass := .pending } } := by
    have hr : s.vol1.request = s.vol1 := request_of_no_need (.inl h1)
    have hr0 : s.vol0.request = { s.vol0 with pass := .pending } := by
      simp [VolCtx.request, h0, hp0, VolState.mountNeed]
    simp [volLoaded, State.updVol0, State.updVol1, hr, hr0]
  simp [reactHead, hv, passHead_of_no_pass, jobHead_of_no_job, hj, hp]

/-- R57: a part whose mechanism a pass holds, with no chain and no other pass, is at rest. -/
theorem settled_of_pass {s : State} (hq : s.Quiet) {a : Act} {c : VolCtx} {p : Option Pass} {v : Vol}
    (hc : c.pass = .running) : ({ s with
      act := a, vol0 := c, pass := p, che := { s.che with mech := .pass v } } : State).settled = true := by
  refine settled_of_rests hq.settled ((settleOnce_none_iff _).2 ⟨settled_inbox (s := s) hq.settled, ?_⟩) rfl rfl rfl rfl
  exact idleRule_of_nothing hq.no_chain hq.no_job (by simp [hc]) (by simp [hq.pass1]) (by simp [hq.stage])
    (unloadDue_of_progress (by simp [hq.progress])) hq.none_waiting

/-- R57, R58: volume 0's pass has been granted, and its seek is as it is begun or has arrived. -/
theorem within_seek_mount {s : State} {b : Act} (hb : b.head = .following) (hi : s.inbox = []) :
    let k : Seek := { party := .vol, target := { cylinder := 0, comb := 0 }, phase := .held }
    let m : State := { s with act := b, pass := some (Pass.begun .v0 false) }
    let here := b.cylinder = 0 ∧ b.comb = 0
    Within 2 ((actAttempt k false { m with inbox := [] }).setPassPhase .seek) { m with
      act := if here then { b with gate := false, seek := none } else b.sought k,
      pass := some { Pass.begun .v0 false with phase := if here then .read else .seek } } := by
  intro k m here
  refine Within.emptied ?_ (by exact hi)
  by_cases hat : here
  · obtain ⟨hcyl, hcomb⟩ := hat
    rw [actAttempt_here (by exact hcyl.symm) (by exact hcomb.symm), if_pos ⟨hcyl, hcomb⟩, if_pos ⟨hcyl, hcomb⟩]
    refine (Within.step (m := .seekAnswer .vol .arrived) (rest := []) ?_ ?_).mono (by decide)
    · simp [HeadState.changeTo, hb, m, State.setPassPhase, State.setPass, k]
    · simp [react, passSeekAnswer, State.setPassPhase, State.setPass, m, hb]
  · have hat' : ¬ (0 = b.cylinder ∧ 0 = b.comb) := fun h => hat ⟨h.1.symm, h.2.symm⟩
    rw [actAttempt_elsewhere (by exact hat'), if_neg hat, if_neg hat]
    refine (Within.step (m := .head .following .seeking) (rest := []) ?_ ?_).mono (by decide)
    · simp [HeadState.changeTo, hb, m, State.setPassPhase, State.setPass]
    · exact unheeded_head (by simp) _

/-- Settles O28: the acquisition asks for the pass, the arbiter grants it, and its seek begins or has arrived. -/
theorem loadBeginsMountPass : Obligations.LoadBeginsMountPass := by
  intro s w cyl err out data hq hh hk hl h0 h1 hf
  have hi := settled_inbox (s := s) hq.settled
  let a : Act := { s.act with
    head := .following, error := err, cylinder := cyl, valid := true, acquisition := none, attempt := 0,
    watchdog := .stage1, stage1 := some 1875, loads := [] }
  let loaded : List Signal := s.act.loads.map fun r => .loaded r.party
  have hacquire : actWedge w cyl err out data s =
      { s with act := a, inbox := .head .loading .following :: loaded } := by
    simp [actWedge, hh, actAcquire_eq, hk, hi, a, loaded]
  have hw1 : Within 1 { s with act := a, inbox := .head .loading .following :: loaded }
      { s with act := a, vol0 := { s.vol0 with pass := .pending }, inbox := loaded } :=
    .step rfl (reactHead_loaded hq.no_job hq.no_pass h0 hq.pass0 h1)
  let u : State := { s with act := a, vol0 := { s.vol0 with pass := .pending }, inbox := [] }
  have hw2 : Within loaded.length { u with inbox := loaded } u := within_all_unheeded (s := u) fun m hm => by
    obtain ⟨r, -, rfl⟩ := List.mem_map.1 hm
    exact unheeded_loaded (by exact hq.no_job) (by exact hq.no_pass) r.party
  have hw3 := Within.rule (s := u) rfl
    (idleRule_pass hq.mech hq.no_job hq.no_chain rfl hq.stage hf hq.progress)
  have hgrant : fire (.grant (.pass .v0) false) u = _ := passGrant_following (s := u) (v := .v0) (by rfl) (by rfl)
  rw [hgrant] at hw3
  let b : Act := { a with target := some { cylinder := 0, comb := 0 }, targetEnded := false, retries := 0 }
  have hw4 := within_seek_mount (b := b) (s := { s with
    vol0 := { s.vol0 with pass := .running, state := .mounting }, che := { s.che with mech := .pass .v0 } }) rfl hi
  have hw := ((hw1.trans hw2).trans hw3).trans hw4
  have hlen : loaded.length ≤ 2 := by simpa [loaded] using hl
  refine ⟨_, (run_of_powered hq.powered _).trans (hacquire ▸ hw.conclude_settled (settled_of_pass hq rfl)
    (by simp only [reactionBound]; omega)), rfl, rfl, rfl, ?_⟩
  have hd : distance 0 cyl = cyl := by simp [distance]
  by_cases hat : cyl = 0 ∧ s.act.comb = 0
  · simp [a, b, hat, Pass.begun]
  · simp [a, b, hat, Pass.begun, Act.sought, hd, eq_comm]

end Sys2Proof.Machine
end

section
/-! PROOF. How the last order of the only chain ends its chain (O45). -/

namespace Sys2Proof.Machine

/-! ## The order table -/

theorem mem_chains {s : State} {i : Nat} {c : Chain} : (i, c) ∈ s.chains ↔ s.chainAt i = some c := by
  simp only [State.chains, List.mem_filterMap, List.mem_range, Option.map_eq_some_iff, Prod.mk.injEq]
  constructor
  · rintro ⟨k, -, d, hd, rfl, rfl⟩
    exact hd
  · intro h
    refine ⟨i, ?_, c, h, rfl, rfl⟩
    by_contra hn
    simp [State.chainAt, hn] at h

theorem chainAt_of_only {s : State} {i : Nat} {c : Chain} (h : s.chains = [(i, c)]) : s.chainAt i = some c :=
  mem_chains.1 (by simp [h])

theorem chainAt_lt {s : State} {i : Nat} {c : Chain} (h : s.chainAt i = some c) : i < s.che.table.length := by
  by_contra hn
  simp [State.chainAt, hn] at h

/-- A slot of the table is written. -/
theorem chainAt_set {s t : State} {i : Nat} {x : Option Chain} (ht : t.che.table = s.che.table.set i x)
    (hi : i < s.che.table.length) (k : Nat) : t.chainAt k = if k = i then x else s.chainAt k := by
  by_cases hk : k = i
  · subst hk
    simp [State.chainAt, ht, hi]
  · simp [State.chainAt, ht, hk, List.getD_eq_getElem?_getD, List.getElem?_set_ne (Ne.symm hk)]

/-- R112: without its only chain the table is empty. -/
theorem chains_of_cleared {s t : State} {i : Nat} {c : Chain} (h : s.chains = [(i, c)])
    (ht : t.che.table = s.che.table.set i none) : t.chains = [] := by
  refine List.eq_nil_iff_forall_not_mem.2 fun ⟨k, d⟩ hk => ?_
  have hd := mem_chains.1 hk
  rw [chainAt_set ht (chainAt_lt (chainAt_of_only h))] at hd
  split at hd
  · simp at hd
  next hne =>
    have := mem_chains.2 hd
    simp [h, hne] at this

/-! ## The end of the last order -/

/-- The order at work is the last of the only chain, no cancel is taken for it, nobody else waits for the mechanism,
and a notice has a place. -/
structure State.AtEnd (s : State) (i : Nat) (c : Chain) (j : Job) : Prop where
  job : s.che.job = some j
  chain : j.chain = some i
  only : s.chains = [(i, c)]
  order : c.order = some j.order
  last : j.order.flags.link = false ∧ j.order.flags.chain = false
  cancel : c.cancel = false
  no_pass : s.pass = none
  pass0 : s.vol0.pass ≠ .pending
  pass1 : s.vol1.pass ≠ .pending
  stage : s.rcv.stage = .none
  progress : s.pwr.progress = .none
  none_waiting : s.lnk.waiting = []
  place : s.ntu.queue.length < 8

theorem State.LastOrder.atEnd {s : State} {i : Nat} {c : Chain} {j : Job} (h : s.LastOrder i c j) : s.AtEnd i c j :=
  ⟨h.job, h.chain, h.only, h.order, h.last, h.cancel, h.no_pass, h.pass0, h.pass1, h.stage, h.progress,
    h.none_waiting, h.place⟩

/-- R109 to R112: the chain in slot `i` is over with the completion `b`. -/
def State.over (s : State) (i : Nat) (b : Completion) : State :=
  { s with
    act := { s.act with gate := false, loads := s.act.loads.filter fun r => r.party != .che }, xfer := none,
    che := { s.che with table := s.che.table.set i none, mech := .free, job := none },
    bbf := { s.bbf with
      slots := s.bbf.slots.map fun x => if x.heldFor b.tag then .free else x,
      wants := s.bbf.wants.filter fun w => w.tag != b.tag,
      records := s.bbf.records.filter fun w => w.tag != b.tag },
    ntu := s.ntu.join (.completion b), pwr := { s.pwr with idle := 0, setWait := none },
    rcv := { s.rcv with heldEject := none } }

/-- R109: the end code with which an order's end code ends its chain. -/
def Flags.endCode (f : Flags) (code : EndCode) : EndCode :=
  if code ≠ .clean then code
  else if f.dataCheck then .dataCheck else if f.lengthMismatch then .lengthMismatch else .clean

/-- R110, R111: the completion of the chain, from the order at work. -/
def Job.completes (j : Job) (c : Chain) (code : EndCode) : Completion :=
  let flags := c.flags.join j.flags
  { tag := c.tag, code := flags.endCode code, flags := flags, reached := c.index,
    residual := j.order.residual c.transferred, fault := endLocation j c (flags.endCode code) }

theorem set_modify {α : Type} (l : List α) (i : Nat) (f : α → α) (x : α) : (l.modify i f).set i x = l.set i x := by
  apply List.ext_getElem?
  intro k
  by_cases h : k = i
  · simp [h, List.getElem?_set]
  · simp [Ne.symm h]

theorem chainAt_updChain (s : State) (i : Nat) (f : Chain → Chain) :
    (s.updChain i f).chainAt i = (s.chainAt i).map f := by
  simp only [State.updChain, State.updChe, State.chainAt, List.getD_eq_getElem?_getD, List.getElem?_modify_eq]
  cases s.che.table[i]? <;> rfl

/-- R112: the order no longer holds the mechanism, where no pass has it on loan. -/
theorem orderRelease_eq {s : State} (hp : s.pass = none) : orderRelease s = { s with
    act := { s.act with gate := false, loads := s.act.loads.filter fun r => r.party != .che }, xfer := none,
    che := { s.che with mech := .free, job := none }, pwr := { s.pwr with setWait := none },
    rcv := { s.rcv with heldEject := none } } := by
  simp [orderRelease, actWithdraw, hp, closeGate, State.updAct, State.updRcv, State.updPwr, State.setXfer,
    State.updChe]

/-- R110 to R112: with a place in the notice queue a chain's end frees its slot at once. -/
theorem chainEnd_eq {s : State} {i : Nat} {c : Chain} (hc : s.chainAt i = some c) (hplace : s.ntu.queue.length < 8)
    (code : EndCode) (loc : Option FaultLocation) : chainEnd i code loc s = { s with
      che := { s.che with table := s.che.table.set i none },
      bbf := { s.bbf with
        slots := s.bbf.slots.map fun x => if x.heldFor c.tag then .free else x,
        wants := s.bbf.wants.filter fun w => w.tag != c.tag,
        records := s.bbf.records.filter fun w => w.tag != c.tag },
      ntu := s.ntu.join (.completion (c.complete code loc)), pwr := { s.pwr with idle := 0 } } := by
  simp only [chainEnd, hc]
  obtain ⟨b, hb, -, e⟩ | ⟨hn, -⟩ := offerCompletion_cases i (pwrIdleReset (bbfChainEnd c.tag (s.updChain i fun c =>
    { c with state := .ended, progress := none, completion := some (c.complete code loc) })))
  · have hb' : b = c.complete code loc := by
      have := (chainAt_updChain s i fun c =>
        { c with state := .ended, progress := none, completion := some (c.complete code loc) })
      simp only [pwrIdleReset, bbfChainEnd] at hb
      change (State.chainAt (s.updChain i _) i).bind _ = _ at hb
      rw [this, hc] at hb
      simpa using hb.symm
    rw [e, hb']
    simp [pwrIdleReset, bbfChainEnd, State.updPwr, State.updBbf, State.updChain, State.updChe, set_modify]
  · exfalso
    obtain hn | hn := hn
    · change 8 ≤ s.ntu.queue.length at hn
      omega
    · simp only [pwrIdleReset, bbfChainEnd] at hn
      change (State.chainAt (s.updChain i _) i).bind _ = _ at hn
      rw [chainAt_updChain, hc] at hn
      simp at hn

theorem orderEnded_over {s : State} {i : Nat} {c : Chain} {j : Job} (h : s.AtEnd i c j) (code : EndCode) :
    orderEnded code s = s.over i (j.completes c code) := by
  let c' : Chain := { c with flags := c.flags.join j.flags, state := .active }
  let s' : State := s.updChain i fun c => { c with flags := c.flags.join j.flags, state := .active }
  have hc' : s'.chainAt i = some c' := by
    rw [chainAt_updChain, chainAt_of_only h.only]
    rfl
  have hover (final : EndCode) (hf : final = (c.flags.join j.flags).endCode code)
      (hdata : final = .clean → (c.flags.join j.flags).dataCheck = false) :
      orderChainEnd j i c' final s' = s.over i (j.completes c code) := by
    have hmet : (if final = .clean ∧ c'.flags.dataCheck = true then EndCode.dataCheck else final) = final := by
      rw [if_neg]
      rintro ⟨h1, h2⟩
      have := hdata h1
      simp [c', this] at h2
    have hcancel : c'.cancel = false := h.cancel
    simp only [orderChainEnd, hmet, hcancel, orderRelease_eq (s := s') h.no_pass]
    rw [if_neg (by simp), chainEnd_eq (c := c') (by exact hc') (by exact h.place)]
    have horder : c'.order = some j.order := h.order
    have hres : c'.residual = j.order.residual c.transferred := by
      rw [Chain.residual, horder]
    have hb : c'.complete final (endLocation j c' final) = j.completes c code := by
      rw [Chain.complete, hres, hf]
      rfl
    rw [hb]
    simp [s', c', State.over, Job.completes, State.updChain, State.updChe, set_modify]
    exact fun _ _ => rfl
  have hcancel : c'.cancel = false := h.cancel
  simp only [orderEnded, h.job, h.chain]
  rw [show State.chainAt _ i = some c' from hc']
  simp only [hcancel, h.last]
  by_cases hcode : code = .clean
  · subst hcode
    cases hd : (c.flags.join j.flags).dataCheck with
    | true =>
      exact hover .dataCheck (by simp [Flags.endCode, hd]) (by simp)
    | false =>
      cases hm : (c.flags.join j.flags).lengthMismatch with
      | true =>
        exact hover .lengthMismatch (by simp [Flags.endCode, hd, hm]) (by simp)
      | false =>
        exact hover .clean (by simp [Flags.endCode, hd, hm]) fun _ => hd
  · simp only [if_neg (show ¬ (false = true) by simp), if_pos hcode]
    exact hover _ (by simp [Flags.endCode, hcode]) (fun e => absurd e hcode)

/-! ## The step that ends a chain -/

/-- With its only chain over the part is at rest. -/
theorem State.AtEnd.over_rests {s : State} {i : Nat} {c : Chain} {j : Job} (h : s.AtEnd i c j) (hi : s.inbox = [])
    (b : Completion) : settleOnce (s.over i b) = none :=
  (settleOnce_none_iff _).2 ⟨hi, idleRule_of_nothing (chains_of_cleared h.only rfl) rfl h.pass0 h.pass1
    (by simp [State.over, h.stage]) (unloadDue_of_progress (by simp [State.over, h.progress])) h.none_waiting⟩

theorem map_modifyHead {α β : Type} {f : α → α} {g : α → β} (l : List α) (h : ∀ a, g (f a) = g a) :
    (l.modifyHead f).map g = l.map g := by
  cases l <;> simp [h]

/-- How a step ends at rest: the lamp as it was, and at most marks of what LNK begins to send. -/
theorem rest_frame {s : State} (h : s.rcv.lamp = lampOf s) :
    s.rest = { s with
      bbf := { s.bbf with wants := s.rest.bbf.wants, sendingSlot := s.rest.bbf.sendingSlot },
      lnk := { s.lnk with out := s.rest.lnk.out }, ntu := { s.ntu with queue := s.rest.ntu.queue } } ∧
    s.rest.bbf.wants.map (·.tag) = s.bbf.wants.map (·.tag) ∧
    s.rest.ntu.queue.map (·.body) = s.ntu.queue.map (·.body) := by
  rw [State.rest, setLamp_of_lit h]
  obtain ⟨f, -, -, e⟩ | ⟨-, e⟩ := beginFrame_cases s <;> rw [e]
  · cases f.carries with
    | reply => exact ⟨rfl, rfl, rfl⟩
    | want => exact ⟨rfl, map_modifyHead _ fun _ => rfl, rfl⟩
    | slot => exact ⟨rfl, rfl, rfl⟩
    | notice => exact ⟨rfl, rfl, map_modifyHead _ fun _ => rfl⟩
  · exact ⟨rfl, rfl, rfl⟩

/-- R109 to R112: what a part at rest shows of a chain that is over. -/
theorem State.AtEnd.chainOver {s : State} {i : Nat} {c : Chain} {j : Job} (h : s.AtEnd i c j)
    (hlit : s.rcv.lamp = lampOf s) (b : Completion) : State.ChainOver s b (s.over i b).rest := by
  obtain ⟨e, hwants, hqueue⟩ := rest_frame (s := s.over i b) hlit
  have hche : (s.over i b).rest.che = (s.over i b).che := by rw [e]
  have hchains : (s.over i b).rest.chains = [] := by
    refine chains_of_cleared (i := i) h.only ?_
    rw [hche]
    rfl
  refine ⟨?_, hchains, ?_, ?_, ?_, ?_, ?_, ?_, ?_, ?_, ?_⟩
  · rw [e]; rfl
  · rw [e]; rfl
  · rw [e]; rfl
  · rw [e]; rfl
  · rw [e]; rfl
  · rw [e]; rfl
  · intro w hw
    have : w.tag ∈ (s.over i b).bbf.wants.map (·.tag) := hwants ▸ List.mem_map_of_mem hw
    obtain ⟨x, hx, hxt⟩ := List.mem_map.1 this
    have hne := List.of_mem_filter hx
    rw [← hxt]
    simpa using hne
  · rw [e]; rfl
  · rw [e]; rfl
  · exact hqueue.trans (by simp [State.over, Ntu.join])

/-- R109 to R112: a step whose reactions come to the end of the last order of the only chain. -/
theorem conclude_orderEnded {s u : State} {n i : Nat} {c : Chain} {j : Job} {code : EndCode}
    (hw : Within n s { u with inbox := [.orderEnd code] }) (h : u.AtEnd i c j) (hi : u.inbox = [])
    (hlit : u.rcv.lamp = lampOf u) (hn : n < reactionBound) :
    ∃ t, conclude s = .next t ∧ State.ChainOver u (j.completes c code) t := by
  have hend : Within 1 { u with inbox := [.orderEnd code] } (u.over i (j.completes c code)) := by
    refine .step rfl ?_
    rw [show ({ u with inbox := [] } : State) = u by rw [← hi]]
    exact orderEnded_over h code
  exact ⟨_, (hw.trans hend).conclude (h.over_rests hi _) hn, h.chainOver hlit _⟩

/-- Settles O45: the arrival ends the order, and the order its chain. -/
theorem seekOrderEnds : Obligations.SeekOrderEnds := by
  intro s i c j k hr hh hn hk hparty hmech hj hchain hchains hphase htask hlink hlast hflags hcflags hcancel horder
    hkind hp h0 h1 hstage hprogress hwaiting hloads hplace
  have hi := settled_inbox (s := s) hr.settled
  have hf : actSettleEnd s = { s with
      act := s.act.arrival, inbox := [.seekAnswer .che .arrived, .head .settling .following] } := by
    rw [actSettleEnd_eq hh hn, actArrive_eq hh hk, hparty, hi]
    rfl
  let j' : Job := { j with phase := .ending }
  let u : State := { s with act := s.act.arrival, che := { s.che with job := some j' } }
  have hat : u.AtEnd i c j' := ⟨rfl, hchain, hchains, horder, ⟨hlink, hlast⟩, hcancel, hp, h0, h1, hstage, hprogress,
    hwaiting, hplace⟩
  have hseek : jobSeekAnswer .arrived { s with act := s.act.arrival, inbox := [.head .settling .following] } =
      { u with inbox := [.head .settling .following, .orderEnd .clean] } := by
    have hc : jobCancelled j { s with act := s.act.arrival, inbox := [.head .settling .following] } = false := by
      have : State.chainAt { s with act := s.act.arrival, inbox := [.head .settling .following] } i = some c :=
        chainAt_of_only (s := s) hchains
      simp [jobCancelled, jobChain, hchain, this, hcancel]
    simp [jobSeekAnswer, hj, hphase, hc, htask, jobEnd, State.updJob, State.updChe, State.send, u, j']
  have hw1 := Within.step (s := { s with
    act := s.act.arrival, inbox := [.seekAnswer .che .arrived, .head .settling .following] }) rfl hseek
  have hw2 := Within.step (s := { u with inbox := [.head .settling .following, .orderEnd .clean] }) rfl
    (unheeded_following (s := u) (was := .settling) (by decide) (by simp [u, j']) (by simp [u, hp]) _)
  obtain ⟨t, ht, e, hnone, hfree, hjob, -, -, -, -, -, -, hqueue⟩ :=
    conclude_orderEnded (hw1.trans hw2) hat hi (settled_lamp (s := s) hr.settled) (by decide)
  refine ⟨t, (run_of_powered hr.powered _).trans (hf ▸ ht), ?_, hnone, hfree, hjob, ?_⟩
  · rw [e]
    simp [u, Act.arrival, hloads]
  · rw [hqueue]
    simp [u, Job.completes, hcflags, j', hflags, Flags.endCode, Flags.join, Flags.empty, Order.residual, hkind,
      OrderKind.transfer, endLocation, EndCode.hasLocation]

end Sys2Proof.Machine
end

section
/-! PROOF. The closing wedge of a transfer, and the mount pass that ends with it (O35). -/

namespace Sys2Proof.Machine

/-! ## Closing wedges -/

/-- R24, R25, R44: a wedge in FOLLOWING closes the transfer under way, and then opens its slot. -/
theorem within_closing {s : State} {x : Xfer} (hi : s.inbox = []) (hh : s.act.head = .following)
    (hk : s.act.seek = none) (hx : s.xfer = some x) {w : Nat} (hw : w = (x.place.slot + 1) % 32) (cyl : Nat) (err : Int)
    (out : ReadOutcome) (data : List Byte) : Within 1 (actWedge w cyl err out data s)
      ((jobBoundary (passBoundary (closeXfer x (some err) out data
        { s with act := s.act.boundary cyl err }))).send (.opening w)) := by
  rw [actWedge_following hh hk]
  refine .step (m := .boundary w err out data) (rest := []) (by simp [hi]) ?_
  simp [react, boundaryWedge, hx, ← hw, closeGate, State.updAct, Act.boundary, Act.hear, hi]

/-- R58: the outcome of a header block's read. -/
theorem HeaderBlock.take_cases (seen : IdentitySeen) (x : Xfer) (err : Int) (out : ReadOutcome) (data : List Byte)
    (b : HeaderBlock) :
    let aside := seen = .notRead ∨ seen = .unreadable ∨ out = .uncorrectable ∨ 20 < x.openError.natAbs ∨ 20 < err.natAbs
    (aside → b.take seen (x.offTrack (some err)) out data = { b with tried := true, setAside := b.setAside + 1 }) ∧
    (¬ aside → b.take seen (x.offTrack (some err)) out data =
      { b with tried := true, data := some data, identityOk := decide (seen = .agrees) }) := by
  intro aside
  have hoff : x.offTrack (some err) = true ↔ 20 < x.openError.natAbs ∨ 20 < err.natAbs := by
    simp [Xfer.offTrack, withinError]
  constructor
  · intro h
    rw [HeaderBlock.take, if_pos]
    rw [hoff]
    tauto
  · intro h
    rw [HeaderBlock.take, if_neg]
    rw [hoff]
    tauto

/-! ## The end of a mount pass -/

/-- R50: the next generation. -/
theorem growGeneration_eq (n : Nat) : growGeneration n = if n < 65535 then n + 1 else 1 := by
  unfold growGeneration
  split_ifs <;> omega

/-- R57, R60: a pass under its own grant has ended with the context `c`. -/
def State.passOver (s : State) (v : Vol) (c : VolCtx) : State :=
  { s.updVol v fun _ => c with
    act := { s.act with loads := s.act.loads.filter fun r => r.party != .vol }, pass := none,
    che := { s.che with mech := .free }, ntu := s.ntu.attend (.mediumMounted v c.state c.generation) }

theorem passOver_fields (s : State) (v : Vol) (c : VolCtx) :
    (s.passOver v c).pass = none ∧ (s.passOver v c).che.job = s.che.job := by
  cases v <;> exact ⟨rfl, rfl⟩

/-- R57, R60: the end of a pass under its own grant. -/
theorem passEnd_eq {s : State} {p : Pass} (hp : s.pass = some p) (hlent : p.lent = false) (st : VolState)
    (h : Option HeaderContents) : passEnd st h s =
      { s.passOver p.volume ((s.vol p.volume).mount p.volume s.pins.tabProtect st h) with
        inbox := s.inbox ++ [.mountEnded p.volume] } := by
  cases hv : p.volume <;>
    simp [passEnd, hp, passRelease, hlent, hv, State.passOver, State.updVol, State.updVol0, State.updVol1, attend_eq,
      actWithdraw, State.updAct, State.setPass, State.setMech, State.updChe, State.send, State.vol, VolCtx.mount]

theorem passLeaving_eq_false {s : State} {p : Pass} (hp : s.pass = some p) (h : (s.vol p.volume).state ≠ .leaving) :
    passLeaving s = false := by simp [passLeaving, hp, h]

/-- R44: who takes the closing wedge. -/
theorem closeXfer_pass {s : State} {p : Pass} (hp : s.pass = some p) (h : (s.vol p.volume).state ≠ .leaving) (x : Xfer)
    (close : Option Int) (out : ReadOutcome) (data : List Byte) : closeXfer x close out data s =
      passClosed x.place.slot x.seen (x.offTrack close) out data { s with xfer := none } := by
  simp [closeXfer, hp, passLeaving_eq_false hp h, State.setXfer]

theorem closeXfer_job {s : State} (hp : s.pass = none) (x : Xfer) (close : Option Int) (out : ReadOutcome)
    (data : List Byte) : closeXfer x close out data s = jobClose x close out data { s with xfer := none } := by
  simp [closeXfer, hp, State.setXfer]

/-- R44, R62, R120: a boundary with nobody at work. -/
theorem boundary_of_idle {s : State} (hp : s.pass = none) (hj : s.che.job = none) (w : Nat) :
    (jobBoundary (passBoundary s)).send (.opening w) = { s with inbox := s.inbox ++ [.opening w] } := by
  rw [passBoundary_of_no_pass hp]
  simp [jobBoundary, hj, State.send]

/-- R57: where a pass under its own grant ends, nobody heeds it, and with nothing else on hand the part is at rest. -/
theorem conclude_passOver {s u : State} {v : Vol} {c : VolCtx} {w n : Nat} (hi : s.inbox = [])
    (hw : Within n u { s.passOver v c with inbox := [.mountEnded v, .opening w] }) (hjob : s.che.job = none)
    (hchains : s.chains = []) (h0 : s.vol0.pass ≠ .pending) (h1 : s.vol1.pass ≠ .pending) (hc : c.pass = .none)
    (hstage : s.rcv.stage = .none) (hprogress : s.pwr.progress = .none) (hwaiting : s.lnk.waiting = [])
    (hn : n + 2 ≤ reactionBound) : conclude u = .next (s.passOver v c).rest := by
  obtain ⟨hpass, hj⟩ := passOver_fields s v c
  rw [hjob] at hj
  have hmount : (s.passOver v c).Unheeded (.mountEnded v) := by
    intro i
    simp [react, jobMounted, hj]
  have hopen : (s.passOver v c).Unheeded (.opening w) := by
    intro i
    simp [react, openWedge, jobOpen, hj, hpass]
  have h2 := within_all_unheeded (s := s.passOver v c) (ms := [.mountEnded v, .opening w])
    (by simpa using ⟨hmount, hopen⟩)
  have hin : (s.passOver v c).inbox = [] := by cases v <;> exact hi
  refine ((hw.trans h2).emptied hin).conclude ((settleOnce_none_iff _).2 ⟨hin, ?_⟩) hn
  have hc' : c.pass ≠ .pending := by simp [hc]
  have hstage' : s.rcv.stage ≠ .draining := by simp [hstage]
  have hprogress' : s.pwr.progress ≠ .waitParked := by simp [hprogress]
  cases v with
  | v0 => exact idleRule_of_nothing hchains hjob hc' h1 hstage' (unloadDue_of_progress hprogress') hwaiting
  | v1 => exact idleRule_of_nothing hchains hjob h0 hc' hstage' (unloadDue_of_progress hprogress') hwaiting

/-- R58: the header block read at the closing wedge. -/
def HeaderBlock.accepted (seen : IdentitySeen) (data : List Byte) (b : HeaderBlock) : HeaderBlock :=
  { b with tried := true, data := some data, identityOk := decide (seen = .agrees) }

/-- R58, R60: the closing wedge of a header block set aside for the fourth time, and of the last that is accepted. -/
theorem passClosed_ends {s : State} {p : Pass} {x : Xfer} {b : HeaderBlock} {err : Int} {out : ReadOutcome}
    {data : List Byte} (hp : s.pass = some p) (hb : p.blocks[x.place.slot]? = some b)
    (hset : ∀ q ∈ p.blocks, q.setAside ≤ 3) :
    let aside := x.seen = .notRead ∨ x.seen = .unreadable ∨ out = .uncorrectable ∨ 20 < x.openError.natAbs ∨
      20 < err.natAbs
    let blocks := p.blocks.set x.place.slot (b.accepted x.seen data)
    let closed := passClosed x.place.slot x.seen (x.offTrack (some err)) out data s
    (aside → b.setAside = 3 → ∃ q : Pass, q.volume = p.volume ∧ q.lent = p.lent ∧
      closed = passEnd .headerFault none (s.setPass (some q))) ∧
    (¬ aside → (∀ q ∈ blocks, q.data ≠ none) →
      closed = passRead { p with blocks := blocks } (s.setPass (some { p with blocks := blocks }))) := by
  intro aside blocks closed
  obtain ⟨haside, haccept⟩ := HeaderBlock.take_cases x.seen x err out data b
  have hmodify : p.blocks.modify x.place.slot (HeaderBlock.take x.seen (x.offTrack (some err)) out data) =
      p.blocks.set x.place.slot (b.take x.seen (x.offTrack (some err)) out data) := by
    rw [List.modify_eq_set_getElem?, hb]
    rfl
  constructor
  · intro h h3
    refine ⟨{ p with blocks := p.blocks.set x.place.slot { b with tried := true, setAside := b.setAside + 1 } },
      rfl, rfl, ?_⟩
    have hany : (p.blocks.set x.place.slot { b with tried := true, setAside := b.setAside + 1 }).any
        (fun b => decide (b.setAside ≥ 4)) = true := by
      refine List.any_eq_true.2 ⟨_, List.mem_set (List.getElem?_eq_some_iff.1 hb).1 _, ?_⟩
      simp [h3]
    simp only [closed, passClosed, hp, hmodify, haside h, hany, if_true]
  · intro h hall
    have hany : blocks.any (fun b => decide (b.setAside ≥ 4)) = false := by
      refine List.any_eq_false.2 fun q hq => ?_
      obtain hq | rfl := List.mem_or_eq_of_mem_set hq
      · have := hset q hq
        simp
        omega
      · have := hset b (List.mem_of_getElem? hb)
        simp [HeaderBlock.accepted]
        omega
    have hdata : blocks.all (·.data.isSome) = true :=
      List.all_eq_true.2 fun q hq => Option.isSome_iff_ne_none.2 (hall q hq)
    simp only [closed, passClosed, hp, hmodify, haccept h]
    change (if blocks.any (fun b => decide (b.setAside ≥ 4)) then _ else if blocks.all (·.data.isSome) then _
      else _) = _
    rw [hany, hdata]
    rfl

/-- R59, R60: what the four blocks make of the volume. -/
theorem passRead_eq (p : Pass) (s : State) :
    let header := readHeader (p.blocks.flatMap fun b => b.data.getD [])
    (∀ h, header = some h → p.blocks.all (·.identityOk) = true → passRead p s = passEnd .mounted (some h) s) ∧
    (header = none ∨ p.blocks.all (·.identityOk) = false → passRead p s = passEnd .unformatted none s) := by
  intro header
  unfold passRead
  refine ⟨fun h hh hok => ?_, fun h => ?_⟩
  · simp only [show readHeader _ = some h from hh, hok, if_true]
  · dsimp only
    cases hb : readHeader (p.blocks.flatMap fun b => b.data.getD []) with
    | none => rfl
    | some h' =>
      have hbad := h.resolve_left (by simp [header, hb])
      simp [hbad]

/-- Settles O35: the closing wedge is the pass's, and its end leaves nobody at work. -/
theorem mountPassEnds : Obligations.MountPassEnds := by
  intro s p x b cyl err out data hr hh hk hp hlent hleaving hmech hjob hchains h0 h1 hstage hprogress hwaiting hx hb
    hslot hset v c aside fault unformatted ends blocks header
  have hi := settled_inbox (s := s) hr.settled
  have hw := within_closing hi hh hk hx (w := x.place.slot + 1) (by omega) cyl err out data
  let u : State := { s with act := s.act.boundary cyl err, xfer := none }
  have hends : ∀ (q : Pass) (st : VolState) (h : Option HeaderContents), q.volume = p.volume → q.lent = p.lent →
      passClosed x.place.slot x.seen (x.offTrack (some err)) out data u = passEnd st h (u.setPass (some q)) →
      ends (c.mount v s.pins.tabProtect st h) := by
    intro q st h hv hl e
    have he := passEnd_eq (s := u.setPass (some q)) rfl (hl.trans hlent) st h
    rw [hv] at he
    have hover : (u.setPass (some q)).passOver p.volume (((u.setPass (some q)).vol p.volume).mount p.volume
        (u.setPass (some q)).pins.tabProtect st h) = u.passOver v (c.mount v s.pins.tabProtect st h) := by
      cases hv : p.volume <;>
        simp [v, c, hv, State.passOver, State.updVol, State.updVol0, State.updVol1, u, State.setPass, State.vol]
    rw [hover] at he
    have hafter : ((jobBoundary (passBoundary (passEnd st h (u.setPass (some q))))).send
        (.opening (x.place.slot + 1))) = { u.passOver v (c.mount v s.pins.tabProtect st h) with
          inbox := [.mountEnded v, .opening (x.place.slot + 1)] } := by
      obtain ⟨hpass, hj⟩ := passOver_fields u v (c.mount v s.pins.tabProtect st h)
      rw [he]
      refine (boundary_of_idle (by exact hpass) (by exact hj.trans hjob) _).trans ?_
      simp [u, State.setPass, hi, v]
    rw [show closeXfer x (some err) out data { s with act := s.act.boundary cyl err } = _ from
      (closeXfer_pass (by exact hp) (by exact hleaving) x (some err) out data).trans e, hafter] at hw
    refine (run_of_powered hr.powered _).trans ((conclude_passOver (s := u) hi hw hjob hchains h0 h1 rfl hstage
      hprogress hwaiting (by decide)).trans ?_)
    cases hv : p.volume <;> simp [v, hv, State.passOver, State.updVol, State.updVol0, State.updVol1, u] <;> rfl
  obtain ⟨hfault, hread⟩ := passClosed_ends (s := u) (x := x) (out := out) (data := data) (err := err) hp hb hset
  refine ⟨fun ha h3 => ?_, fun ha hall => ⟨fun h hh hok => ?_, fun h => ?_⟩⟩
  · obtain ⟨q, hv, hl, e⟩ := hfault ha h3
    exact hends q _ _ hv hl e
  · have hok' : blocks.all (·.identityOk) = true := List.all_eq_true.2 hok
    have e : c.mount v s.pins.tabProtect .mounted (some h) =
        { unformatted with state := .mounted, label := some h.label, slips := h.slips, alts := h.alts } := by
      simp [VolCtx.mount, growGeneration_eq, unformatted, fault]
    rw [← e]
    refine hends { p with blocks := blocks } .mounted (some h) rfl rfl ((hread ha hall).trans ?_)
    exact (passRead_eq _ _).1 h hh hok'
  · have e : c.mount v s.pins.tabProtect .unformatted none = unformatted := by
      simp [VolCtx.mount, growGeneration_eq, unformatted, fault]
    rw [← e]
    refine hends { p with blocks := blocks } .unformatted none rfl rfl ((hread ha hall).trans ?_)
    refine (passRead_eq _ _).2 (h.imp id ?_)
    rintro ⟨q, hq, hqf⟩
    exact List.all_eq_false.2 ⟨q, hq, by simp [hqf]⟩

end Sys2Proof.Machine
end

section
/-! PROOF. What the closing wedge of an order's transfer leaves to do: a seek begun, or the chain's end. -/

namespace Sys2Proof.Machine

/-! ## Volumes -/

theorem updVol_eq (v : Vol) (f : VolCtx → VolCtx) (s : State) : s.updVol v f =
    { s with vol0 := if v = .v0 then f s.vol0 else s.vol0, vol1 := if v = .v1 then f s.vol1 else s.vol1 } := by
  cases v <;> rfl

theorem vol_updVol (v : Vol) (f : VolCtx → VolCtx) (s : State) : (s.updVol v f).vol v = f (s.vol v) := by
  cases v <;> rfl

/-! ## The order at work -/

/-- The order at work as it is now. -/
def State.withJob (s : State) (k : Job) : State := { s with che := { s.che with job := some k } }

/-! ## Staying at rest -/

/-- `u` differs from `s` in nothing that the resting rules and the lamp read, but for the order at work. -/
structure State.Beside (s u : State) : Prop where
  inbox : u.inbox = []
  table : u.che.table = s.che.table
  mech : u.che.mech = s.che.mech
  pass : u.pass.isNone = s.pass.isNone
  pass0 : u.vol0.pass = s.vol0.pass
  pass1 : u.vol1.pass = s.vol1.pass
  slots : u.bbf.slots = s.bbf.slots
  rcv : u.rcv = s.rcv
  pwr : u.pwr = s.pwr
  spc : u.spc = s.spc
  lnk : u.lnk = s.lnk
  pins : u.pins = s.pins
  choice : u.choice = s.choice
  loaded : u.act.head.loaded = s.act.head.loaded

/-- The order at work goes on with its own, and waits for none of the things the resting rules act on. -/
structure Job.Goes (j k : Job) : Prop where
  chain : k.chain = j.chain
  order : k.order = j.order
  ready : k.runReady = j.runReady
  phase : k.phase = .seek ∨ k.phase = .ready ∨ k.phase = .under

theorem State.Beside.rests {s u : State} (b : s.Beside u) (h : s.settled = true) {j k : Job} (hj : s.che.job = some j)
    (hk : u.che.job = some k) (hg : j.Goes k) : settleOnce u = none := by
  obtain ⟨hi, hidle⟩ := (settleOnce_none_iff s).1 (settled_rest h)
  obtain ⟨hdrained, hfree, heject, hlends, hread, hwrite, hgrant, hwait⟩ := (idleRule_none_iff s).1 hidle
  obtain ⟨hunload, hchoice⟩ := (unloadOrGrant_none_iff s).1 hgrant
  have hphase : k.phase ≠ .mount ∧ k.phase ≠ .dataWait ∧ k.phase ≠ .ejectHeld ∧ k.phase ≠ .power := by
    obtain h | h | h := hg.phase <;> simp [h]
  obtain ⟨hmount, hdata, hheld, hpower⟩ := hphase
  have hat (i : Nat) : u.chainAt i = s.chainAt i := by simp [State.chainAt, b.table]
  have hchains : u.chains = s.chains := by simp [State.chains, b.table, hat]
  have hslot : hasFreeSlot u = hasFreeSlot s := by simp [hasFreeSlot, b.slots]
  have hneed (c : Chain) : neededSequences c u = neededSequences c s := by simp [neededSequences, b.slots]
  refine (settleOnce_none_iff _).2 ⟨b.inbox, (idleRule_none_iff _).2
    ⟨?_, ?_, ?_, ?_, ?_, ?_, (unloadOrGrant_none_iff _).2 ⟨?_, ?_⟩, ?_⟩⟩
  · rw [← hdrained]
    simp only [drained, b.rcv, b.pass, hchains]
  · rw [← hfree]
    simp only [freeStarter, b.rcv, b.pwr, hchains]
  · simp [heldEjectDue, hk, hheld]
  · simp [lendsTo, hk, hmount]
  · simp [readWaits, hk, hdata]
  · rw [← hwrite]
    simp only [writeNeeds, hj, hk, hg.order, hg.ready, jobChain, hg.chain, hslot, hneed, funext hat]
  · rintro ⟨hdue, hallowed⟩
    refine hunload ⟨by simpa [unloadDue, b.pwr, b.loaded] using hdue, ?_⟩
    revert hallowed
    simp only [unloadAllowed, b.mech, hk]
    cases s.che.mech <;> simp [hpower]
  · rw [← hchoice]
    simp only [arbiterChoice, b.mech, b.pwr, b.rcv, presentedPass, b.pass0, b.pass1, hchains, chainReady]
  · have hlead (bytes : Byte) : leadWithheld bytes u = leadWithheld bytes s := by
      simp only [leadWithheld, b.lnk, b.pins]
    rw [← hwait]
    simp only [waitingFrame, hlead, b.lnk]

theorem State.Beside.rest_eq {s u : State} (b : s.Beside u) (h : s.settled = true) : u.rest = beginFrame u := by
  have hlit : u.rcv.lamp = lampOf u := by
    have : lampOf u = lampOf s := by simp [lampOf, b.rcv, b.spc]
    rw [this, b.rcv, settled_lamp h]
  rw [State.rest, setLamp_of_lit hlit]

/-! ## Seeks of the order at work -/

/-- R34, R35: the order at work has begun its seek to a place elsewhere. -/
def State.seekBegun (s : State) (k : Job) (g : Target) : State :=
  { s with
    act := ({ s.act with target := some g, targetEnded := false, retries := 0 } : Act).sought
      { party := .che, target := g, phase := .held }
    che := { s.che with job := some { k with phase := .seek } } }

theorem askSeek_elsewhere {s : State} {k : Job} {g : Target} (hh : s.act.head = .following) (hv : s.act.valid = true)
    (hk : s.che.job = some k) (hne : ¬ (g.cylinder = s.act.cylinder ∧ g.comb = s.act.comb)) :
    askSeek g s = { s.seekBegun k g with inbox := s.inbox ++ [.head .following .seeking] } := by
  simp only [askSeek, actSeek_following hh hv]
  rw [actAttempt_elsewhere (by exact hne)]
  simp [setPhase, State.updJob, State.updChe, hk, State.seekBegun, HeadState.changeTo, hh]

/-- R77: a seek is needed to any place but that of the heads. -/
theorem goTo_elsewhere {s : State} {k : Job} {g : Target} (hh : s.act.head = .following) (hv : s.act.valid = true)
    (hk : s.che.job = some k) (hne : ¬ (g.cylinder = s.act.cylinder ∧ g.comb = s.act.comb)) :
    goTo g s = { s.seekBegun k g with inbox := s.inbox ++ [.head .following .seeking] } := by
  have hneed : seekNeeded s.act g = true := by
    simp only [seekNeeded, hv, Bool.true_and, Bool.not_eq_true', Bool.and_eq_false_iff, beq_eq_false_iff_ne]
    by_contra hc
    push Not at hc
    exact hne ⟨hc.1.symm, hc.2.symm⟩
  rw [goTo, if_pos hneed, askSeek_elsewhere hh hv hk hne]

theorem seekBegun_begun (s : State) (k : Job) (g : Target) {t : State} (ht : t.act = (s.seekBegun k g).act) :
    State.SeekBegun s g t := by
  rw [State.SeekBegun, ht]
  exact ⟨rfl, rfl, rfl, rfl⟩

/-- R35, R44: a seek begun at a closing wedge leaves nothing more to do. -/
theorem conclude_seekBegun {s v u : State} (h : s.settled = true) (b : s.Beside u)
    (hs : s.act.head.loaded = true) {n w : Nat}
    {j k : Job} {g : Target}
    (hw : Within n v { u.seekBegun k g with inbox := [.head .following .seeking, .opening w] })
    (hj : s.che.job = some j) (hk : k.chain = j.chain ∧ k.order = j.order ∧ k.runReady = j.runReady)
    (hn : n + 2 ≤ reactionBound) : conclude v = .next (beginFrame (u.seekBegun k g)) := by
  obtain ⟨hchain, horder, hready⟩ := hk
  have b' : s.Beside (u.seekBegun k g) :=
    ⟨b.inbox, b.table, b.mech, b.pass, b.pass0, b.pass1, b.slots, b.rcv, b.pwr, b.spc, b.lnk, b.pins, b.choice,
      hs.symm⟩
  have hopen : (u.seekBegun k g).Unheeded (.opening w) := fun i => rfl
  have hall := within_all_unheeded (s := u.seekBegun k g) (ms := [.head .following .seeking, .opening w])
    (by simpa using ⟨unheeded_head (by simp), hopen⟩)
  rw [← b'.rest_eq h]
  exact ((hw.trans hall).emptied b'.inbox).conclude
    (b'.rests h hj rfl ⟨hchain, horder, hready, .inl rfl⟩) hn

/-! ## Boundaries of the order at work -/

/-- R44: a closing wedge of the order's transfer. -/
theorem within_closing_job {s : State} {x : Xfer} (hi : s.inbox = []) (hh : s.act.head = .following)
    (hk : s.act.seek = none) (hp : s.pass = none) (hx : s.xfer = some x) (cyl : Nat) (err : Int) (out : ReadOutcome)
    (data : List Byte) {u t : State} (hu : u = { s with act := s.act.boundary cyl err, xfer := none })
    (ht : jobClose x (some err) out data u = t) (htp : t.pass = none)
    (hj : ∀ j ∈ t.che.job, j.chain ≠ none ∨ j.pastFirstWrite = true) :
    Within 1 (actWedge ((x.place.slot + 1) % 32) cyl err out data s)
      { t with inbox := t.inbox ++ [.opening ((x.place.slot + 1) % 32)] } := by
  have hw := within_closing hi hh hk hx rfl cyl err out data
  rw [closeXfer_job (by exact hp), ← hu, ht, passBoundary_of_no_pass htp] at hw
  have hb : jobBoundary t = t := by
    unfold jobBoundary
    split
    next j hjob =>
      rw [if_neg]
      rintro ⟨h1, h2⟩
      have := hj j hjob
      simp [h1, h2] at this
    · rfl
  rwa [hb] at hw

/-- R44, R109 to R112: a step at whose closing wedge the last order of the only chain ends. -/
theorem conclude_ended {s u : State} {n i w : Nat} {c : Chain} {j : Job} {code : EndCode}
    (hw : Within n s { u with inbox := [.orderEnd code, .opening w] }) (h : u.AtEnd i c j) (hi : u.inbox = [])
    (hlit : u.rcv.lamp = lampOf u) (hn : n + 2 ≤ reactionBound) :
    ∃ t, conclude s = .next t ∧ State.ChainOver u (j.completes c code) t := by
  have hat : ({ u with inbox := [.opening w] } : State).AtEnd i c j :=
    ⟨h.job, h.chain, h.only, h.order, h.last, h.cancel, h.no_pass, h.pass0, h.pass1, h.stage, h.progress,
      h.none_waiting, h.place⟩
  have hend := Within.step (s := { u with inbox := [.orderEnd code, .opening w] }) rfl (orderEnded_over hat code)
  have hopen : (u.over i (j.completes c code)).Unheeded (.opening w) := by
    intro k
    simp [react, openWedge, jobOpen, State.over, h.no_pass]
  have hopened := within_all_unheeded (s := u.over i (j.completes c code)) (ms := [.opening w]) (by simpa using hopen)
  exact ⟨_, (((hw.trans hend).trans hopened).emptied hi).conclude (h.over_rests hi _) hn, h.chainOver hlit _⟩

/-- R109: the order at work ends. -/
theorem jobEnd_eq {s : State} {j : Job} (hj : s.che.job = some j) (hphase : j.phase ≠ .ending) (code : EndCode) :
    jobEnd code s = { s with
      che := { s.che with job := some { j with phase := .ending } }, inbox := s.inbox ++ [.orderEnd code] } := by
  simp [jobEnd, hj, hphase, State.updJob, State.updChe, State.send]

end Sys2Proof.Machine
end

section
/-! PROOF. Chapter 5: slip lists, whole-slot writes and the orders that change the tables (O36). -/

namespace Sys2Proof.Machine

/-! ## Slip lists (R67, R91) -/

theorem ascending_ext {l m : List Slip} (hl : ascending l) (hm : ascending m)
    (h : ∀ e, e ∈ l ↔ e ∈ m) : l = m := by
  have : Std.Irrefl fun a b : Slip => a.track < b.track := ⟨fun a => Nat.lt_irrefl a.track⟩
  have : Std.Asymm fun a b : Slip => a.track < b.track := ⟨fun _ _ h => Nat.lt_asymm h⟩
  exact List.Pairwise.eq_of_mem_iff hl hm h

theorem mem_insertSlip {e : Slip} {l : List Slip} (h : ascending l) (f : Slip) :
    f ∈ insertSlip e l ↔ f = e ∨ f.track ≠ e.track ∧ f ∈ l := by
  induction l with
  | nil => simp [insertSlip]
  | cons g l ih =>
    obtain ⟨hg, hl⟩ := List.pairwise_cons.1 h
    unfold insertSlip
    split_ifs with h1 h2
    · have hlater : ∀ f ∈ g :: l, f.track ≠ e.track := by
        intro f hf
        obtain rfl | hf := List.mem_cons.1 hf
        · omega
        · have := hg f hf
          omega
      rw [List.mem_cons]
      exact or_congr_right ⟨fun hf => ⟨hlater f hf, hf⟩, fun hf => hf.2⟩
    · have hlater : ∀ f ∈ l, f.track ≠ e.track := by
        intro f hf
        have := hg f hf
        omega
      rw [List.mem_cons, List.mem_cons]
      refine or_congr_right ⟨fun hf => ⟨hlater f hf, .inr hf⟩, ?_⟩
      rintro ⟨hne, rfl | hf⟩
      · exact absurd h2.symm hne
      · exact hf
    · rw [List.mem_cons, ih hl, List.mem_cons]
      constructor
      · rintro (rfl | rfl | ⟨hne, hf⟩)
        · exact .inr ⟨fun he => h2 he.symm, .inl rfl⟩
        · exact .inl rfl
        · exact .inr ⟨hne, .inr hf⟩
      · rintro (rfl | ⟨hne, rfl | hf⟩)
        · exact .inr (.inl rfl)
        · exact .inl rfl
        · exact .inr (.inr ⟨hne, hf⟩)

theorem ascending_insertSlip {e : Slip} {l : List Slip} (h : ascending l) : ascending (insertSlip e l) := by
  induction l with
  | nil => simp [insertSlip, ascending]
  | cons g l ih =>
    obtain ⟨hg, hl⟩ := List.pairwise_cons.1 h
    unfold insertSlip
    split_ifs with h1 h2
    · refine List.pairwise_cons.2 ⟨fun f hf => ?_, h⟩
      obtain rfl | hf := List.mem_cons.1 hf
      · exact h1
      · exact h1.trans (hg f hf)
    · exact List.pairwise_cons.2 ⟨fun f hf => h2 ▸ hg f hf, hl⟩
    · refine List.pairwise_cons.2 ⟨fun f hf => ?_, ih hl⟩
      obtain rfl | ⟨-, hf⟩ := (mem_insertSlip hl f).1 hf
      · omega
      · exact hg f hf

/-- R91: FORMAT TRACK sets or removes the track's entry, and leaves the others. -/
theorem formattedSlips_eq {track : Nat} {slip : Option Nat} {slips new : List Slip} (h : ascending slips)
    (hnew : ascending new) (hmem : ∀ e : Slip, e ∈ new ↔
      e.track = track ∧ some e.slot = slip ∨ e.track ≠ track ∧ e ∈ slips) :
    formattedSlips track slip slips = new := by
  cases slip with
  | none =>
    refine ascending_ext (List.Pairwise.filter _ h) hnew fun e => ?_
    rw [hmem]
    simp [formattedSlips, and_comm]
  | some p =>
    refine ascending_ext (ascending_insertSlip h) hnew fun e => ?_
    rw [hmem]
    refine (mem_insertSlip h e).trans ?_
    refine or_congr ⟨?_, ?_⟩ Iff.rfl
    · rintro rfl
      exact ⟨rfl, rfl⟩
    · rintro ⟨h1, h2⟩
      cases e
      simp_all

/-! ## Whole-slot writes (R80, R86, R90) -/

/-- R46: a whole-slot write is kept on its gate and its two position errors. -/
theorem kept_writeSlot {x : Xfer} (hx : x.kind = .writeSlot) (err : Int) : x.kept (some err) = true ↔
    x.gated = true ∧ x.openError.natAbs ≤ 12 ∧ err.natAbs ≤ 12 := by
  simp [Xfer.kept, hx, withinError, and_assoc]

section slot
variable {s : State} {j : Job} {slot n : Nat}

/-- The last slot of a task, written: the task is done. -/
theorem slotClosed_last (hj : s.che.job = some j) (htodo : j.todo = [{ slot := slot, rewrites := n }]) {kept : Bool}
    (h : kept = true ∨ j.task = .format ∧ j.order.slip = some slot) : slotClosed j slot kept s =
      slotFinished { j with todo := [] } (s.withJob { j with todo := [] }) := by
  have hfinish : j.finishSlot slot = { j with todo := [] } := by simp [Job.finishSlot, htodo]
  simp [slotClosed, if_pos h, State.updJob, State.updChe, hj, hfinish, State.withJob]

/-- A slot whose third write is abandoned. -/
theorem slotClosed_abandoned (htodo : j.todo = [{ slot := slot, rewrites := n }]) (hn : 2 ≤ n) {kept : Bool}
    (h : ¬ (kept = true ∨ j.task = .format ∧ j.order.slip = some slot)) :
    slotClosed j slot kept s = slotGivenUp j slot s := by
  have hr : j.rewrites slot = n := by simp [Job.rewrites, htodo]
  rw [slotClosed, if_neg h, hr, if_neg (by omega)]

end slot

/-! ## Header writes -/

/-- R80: the order that has begun a header write. -/
def Job.heading (k : Job) (use : HeaderUse) (header : Label × List Byte) : Job :=
  { k with task := .header use, todo := (List.range 4).map fun n => { slot := n, rewrites := 0 }, firstWrite := true,
           header := header.2, newLabel := if use = .fresh then some header.1 else k.newLabel,
           placed := some { cylinder := 0, comb := 2 * k.order.volume, slot := 0 } }

theorem beginHeader_elsewhere {s : State} {k : Job} {use : HeaderUse} (hh : s.act.head = .following)
    (hv : s.act.valid = true) (hk : s.che.job = some k)
    (hne : ¬ (0 = s.act.cylinder ∧ 2 * k.order.volume = s.act.comb)) :
    beginHeader use s = { s.seekBegun (k.heading use (headerOf use k (s.vol k.vol)))
      { cylinder := 0, comb := 2 * k.order.volume } with inbox := s.inbox ++ [.head .following .seeking] } := by
  have hjob : jobPlaced (s.updJob fun j =>
      { j with task := .header use, todo := todoAll 4, firstWrite := true, header := (headerOf use k (s.vol k.vol)).2,
               newLabel := if use = .fresh then some (headerOf use k (s.vol k.vol)).1 else j.newLabel }) =
      { s with che := { s.che with job := some (k.heading use (headerOf use k (s.vol k.vol))) } } := by
    simp [jobPlaced, State.updJob, State.updChe, hk, Job.heading, Job.target, Job.firstSlot, todoAll]
  simp only [beginHeader, hk]
  rw [hjob]
  exact askSeek_elsewhere hh hv rfl hne

/-! ## Closing wedges of table-changing orders -/

/-- R174, R175: an attention event takes at most one place of the notice queue. -/
theorem attend_length (n : Ntu) (a : Attention) : (n.attend a).queue.length ≤ n.queue.length + 1 := by
  obtain ⟨-, e⟩ | ⟨-, e⟩ | ⟨-, -, e⟩ | ⟨-, -, ⟨-, e⟩ | ⟨-, e⟩⟩ := n.attend_cases a <;>
    rw [e] <;> simp [Ntu.join]

/-- R110, R111: an order that is no transfer ends CLEAN with nothing left and no location. -/
theorem completes_clean {k : Job} {c : Chain} (hd : (c.flags.join k.flags).dataCheck = false)
    (hm : (c.flags.join k.flags).lengthMismatch = false) (hk : k.order.kind.transfer = false) : k.completes c .clean =
      { tag := c.tag, code := .clean, flags := c.flags.join k.flags, reached := c.index, residual := 0,
        fault := none } := by
  simp [Job.completes, Flags.endCode, hd, hm, Order.residual, hk, endLocation, EndCode.hasLocation]

theorem beginFrame_keeps (s : State) : (beginFrame s).act = s.act ∧ (beginFrame s).che = s.che := by
  obtain ⟨f, -, -, e⟩ | ⟨-, e⟩ := beginFrame_cases s <;> rw [e]
  · cases f.carries <;> exact ⟨rfl, rfl⟩
  · exact ⟨rfl, rfl⟩

section closing
variable {s c : State} {x : Xfer} {j k : Job} {cyl : Nat} {err : Int} {out : ReadOutcome} {data : List Byte}

/-- A closing wedge at which the order at work begins a header write. -/
theorem closing_header {use : HeaderUse} {l : Label} (hr : s.Ready) (hh : s.act.head = .following)
    (hseek : s.act.seek = none) (hv : s.act.valid = true) (hp : s.pass = none) (hx : s.xfer = some x)
    (hj : s.che.job = some j) (hcyl : cyl ≠ 0) (hc : s.Beside c)
    (hact : c.act = s.act.boundary cyl err) (hxfer : c.xfer = none) (hpass : c.pass = none)
    (hclose : jobClose x (some err) out data { s with act := s.act.boundary cyl err, xfer := none } =
      beginHeader use (c.withJob k))
    (hk : k.chain = j.chain ∧ k.order = j.order ∧ k.runReady = j.runReady)
    (hkind : k.order.kind.tableChanging = true)
    (huse : use ≠ .fresh) (hl : (c.vol k.vol).label = some l) :
    ∃ t, exec (.wedgeReport ((x.place.slot + 1) % 32) cyl err out data) s = .next t ∧ c.HeaderBegun k l use t := by
  have hcyl' : c.act.cylinder = cyl := by rw [hact]; simp [Act.boundary, Act.hear, hv]
  let header : Label × List Byte := (l, headerBytes l (c.vol k.vol).slips (c.vol k.vol).alts)
  have hheader : headerOf use k (c.vol k.vol) = header := by
    cases use <;> simp [headerOf, hl, header] at huse ⊢
  let u : State := c.withJob k
  have hb : s.Beside u := ⟨hc.inbox, hc.table, hc.mech, hc.pass, hc.pass0, hc.pass1, hc.slots, hc.rcv, hc.pwr, hc.spc,
    hc.lnk, hc.pins, hc.choice, hc.loaded⟩
  have hbegin := beginHeader_elsewhere (s := u) (use := use) (k := k) (by rw [show u.act = _ from hact]; exact hh)
    (by rw [show u.act = _ from hact]; exact hv) rfl (fun h => hcyl (hcyl'.symm.trans h.1.symm))
  rw [show headerOf use k (u.vol k.vol) = header from hheader] at hbegin
  have hw := within_closing_job (settled_inbox (s := s) hr.settled) hh hseek hp hx cyl err out data rfl
    (hclose.trans hbegin) hpass (fun i hi => by
      obtain rfl : _ = i := Option.some.inj hi
      exact .inr (by simp [Job.pastFirstWrite, Job.heading, hkind]))
  rw [show u.inbox = [] from hc.inbox] at hw
  have hend := conclude_seekBegun hr.settled hb (by rw [hh]; rfl) hw hj hk (by decide)
  refine ⟨_, (run_of_powered hr.powered _).trans hend, ?_, ?_⟩
  · rw [(beginFrame_keeps _).1, (beginFrame_keeps _).2]
    congr 1
    simp [u, State.withJob, State.seekBegun, Job.heading, huse, header, hxfer]
  · exact seekBegun_begun u _ _ (beginFrame_keeps _).1

/-- A closing wedge at which the last order of the only chain ends. -/
theorem closing_ended {i : Nat} {h : Chain} {code : EndCode} (hr : s.Ready) (hh : s.act.head = .following)
    (hseek : s.act.seek = none) (hp : s.pass = none) (hx : s.xfer = some x) (hc : s.Beside c)
    (hpass : c.pass = none) (hplace : c.ntu.queue.length < 8)
    (hclose : jobClose x (some err) out data { s with act := s.act.boundary cyl err, xfer := none } =
      jobEnd code (c.withJob k))
    (hphase : k.phase ≠ .ending) (hl : s.LastOrder i h j) (hk : k.chain = j.chain ∧ k.order = j.order)
    {b : Completion} (hb : k.completes h code = b) :
    ∃ t, exec (.wedgeReport ((x.place.slot + 1) % 32) cyl err out data) s = .next t ∧
      State.ChainOver c b t := by
  subst hb
  obtain ⟨hchain, horder⟩ := hk
  let u : State := { c with che := { c.che with job := some { k with phase := .ending } } }
  have hend : jobEnd code (c.withJob k) = { u with inbox := [.orderEnd code] } := by
    rw [jobEnd_eq rfl hphase]
    simp [u, State.withJob, hc.inbox]
  have hat : u.AtEnd i h { k with phase := .ending } := by
    have hchains : u.chains = s.chains := by
      simp [State.chains, State.chainAt, u, hc.table]
    exact ⟨rfl, hchain.trans hl.chain, hchains.trans hl.only, horder ▸ hl.order, horder ▸ hl.last, hl.cancel,
      hpass, hc.pass0 ▸ hl.pass0, hc.pass1 ▸ hl.pass1, hc.rcv ▸ hl.stage, hc.pwr ▸ hl.progress,
      hc.lnk ▸ hl.none_waiting, hplace⟩
  have hw := within_closing_job (settled_inbox (s := s) hr.settled) hh hseek hp hx cyl err out data rfl
    (hclose.trans hend) hpass (fun m hm => by
      obtain rfl : _ = m := Option.some.inj hm
      exact .inl (by simp [hchain, hl.chain]))
  have hlit : u.rcv.lamp = lampOf u := by
    have : lampOf u = lampOf s := by simp [lampOf, u, hc.rcv, hc.spc]
    rw [this, show u.rcv = s.rcv from hc.rcv, settled_lamp hr.settled]
  obtain ⟨t, ht, hover⟩ := conclude_ended (u := u) hw hat hc.inbox hlit (by decide)
  exact ⟨t, (run_of_powered hr.powered _).trans ht, hover⟩

end closing

/-- The part after a closing wedge at which one context changes. -/
def State.closed (s : State) (cyl : Nat) (err : Int) (v : Vol) (f : VolCtx → VolCtx) : State :=
  { s.updVol v f with act := s.act.boundary cyl err, xfer := none }

theorem closed_fields (s : State) (cyl : Nat) (err : Int) (v : Vol) (f : VolCtx → VolCtx) :
    (s.closed cyl err v f).pass = s.pass ∧ (s.closed cyl err v f).ntu = s.ntu ∧
    (s.closed cyl err v f).che = s.che ∧
      (s.closed cyl err v f).vol v = f (s.vol v) := by
  cases v <;> exact ⟨rfl, rfl, rfl, rfl⟩

theorem closed_congr {s : State} {cyl : Nat} {err : Int} {v : Vol} {f g : VolCtx → VolCtx}
    (h : f (s.vol v) = g (s.vol v)) : s.closed cyl err v f = s.closed cyl err v g := by
  cases v
  · simp only [State.closed, State.updVol, State.updVol0, show f s.vol0 = g s.vol0 from h]
  · simp only [State.closed, State.updVol, State.updVol1, show f s.vol1 = g s.vol1 from h]

section slots
variable {s : State} {x : Xfer} {j : Job} {n cyl : Nat} {err : Int} {out : ReadOutcome} {data : List Byte}

/-- A transfer closed, with one context, the transfer copy and the notices changed, changes nothing that rest depends
on. -/
theorem closed_beside (hi : s.inbox = []) (v : Vol) {f : VolCtx → VolCtx} (hf : ∀ c, (f c).pass = c.pass)
    (m : Ntu) (d : List Byte) : s.Beside { s.closed cyl err v f with ntu := m, copy := d } := by
  cases v
  · exact ⟨hi, rfl, rfl, rfl, hf _, rfl, rfl, rfl, rfl, rfl, rfl, rfl, rfl, rfl⟩
  · exact ⟨hi, rfl, rfl, rfl, rfl, hf _, rfl, rfl, rfl, rfl, rfl, rfl, rfl, rfl⟩

/-- R46, R90: the closing wedge of the last slot that is written, or need not be. -/
theorem jobClose_last (hj : s.che.job = some j) (hkind : x.kind = .writeSlot)
    (htask : j.task = .format ∨ (∃ use, j.task = .header use) ∨ ∃ h, j.task = .altTrack h)
    (htodo : j.todo = [{ slot := x.place.slot, rewrites := n }])
    (h : (x.gated = true ∧ x.openError.natAbs ≤ 12 ∧ err.natAbs ≤ 12) ∨
      j.task = .format ∧ j.order.slip = some x.place.slot) :
    jobClose x (some err) out data s =
      slotFinished { j with todo := [] } (s.withJob { j with todo := [] }) := by
  rw [← kept_writeSlot hkind] at h
  rw [← slotClosed_last hj htodo h]
  obtain ht | ⟨use, ht⟩ | ⟨k, ht⟩ := htask <;> simp [jobClose, hj, ht]

/-- R80, R86: the closing wedge of the last slot, abandoned for the third time. -/
theorem jobClose_abandoned (hj : s.che.job = some j) (hkind : x.kind = .writeSlot)
    (htask : (∃ use, j.task = .header use) ∨ ∃ h, j.task = .altTrack h)
    (htodo : j.todo = [{ slot := x.place.slot, rewrites := n }]) (hn : 2 ≤ n)
    (h : ¬ (x.gated = true ∧ x.openError.natAbs ≤ 12 ∧ err.natAbs ≤ 12)) :
    jobClose x (some err) out data s = slotGivenUp j x.place.slot s := by
  rw [← kept_writeSlot hkind] at h
  have h' : ¬ (x.kept (some err) = true ∨ j.task = .format ∧ j.order.slip = some x.place.slot) := by
    rintro (h1 | ⟨h1, -⟩)
    · exact h h1
    · obtain ⟨use, ht⟩ | ⟨k, ht⟩ := htask <;> simp [ht] at h1
  rw [← slotClosed_abandoned htodo hn h']
  obtain ⟨use, ht⟩ | ⟨k, ht⟩ := htask <;> simp [jobClose, hj, ht]

end slots

section orders
variable {s : State} {x : Xfer} {j : Job} {n cyl : Nat} {err : Int} {out : ReadOutcome} {data : List Byte}

/-- R91: FORMAT TRACK has written its track. -/
theorem jobClose_formatted (hj : s.che.job = some j) (hkind : x.kind = .writeSlot) (htask : j.task = .format)
    (htodo : j.todo = [{ slot := x.place.slot, rewrites := n }])
    (h : (x.gated = true ∧ x.openError.natAbs ≤ 12 ∧ err.natAbs ≤ 12) ∨ j.order.slip = some x.place.slot)
    {new : List Slip} (hnew : formattedSlips j.order.track j.order.slip (s.vol j.vol).slips = new) :
    jobClose x (some err) out data { s with act := s.act.boundary cyl err, xfer := none } =
      writeThrough (decide (new ≠ (s.vol j.vol).slips)) .clean .headerFault
        ((s.closed cyl err j.vol fun c => { c with slips := new }).withJob { j with todo := [] }) := by
  refine (jobClose_last (by exact hj) hkind (.inl htask) htodo (h.imp_right fun h => ⟨htask, h⟩)).trans ?_
  simp only [slotFinished, htask, if_true, formatDone]
  change writeThrough
    (decide (formattedSlips j.order.track j.order.slip (s.vol j.vol).slips ≠ (s.vol j.vol).slips)) _ _
    (State.updVol j.vol (fun c => { c with
      slips := formattedSlips j.order.track j.order.slip (s.vol j.vol).slips }) _) = _
  rw [hnew]
  congr 1
  cases j.vol <;> rfl

/-- R80, R91: the header write of an order's own has written its last block. -/
theorem jobClose_headerWritten {ok bad : EndCode} (hj : s.che.job = some j) (hkind : x.kind = .writeSlot)
    (htask : j.task = .header (.own ok bad)) (htodo : j.todo = [{ slot := x.place.slot, rewrites := n }])
    (h : x.gated = true ∧ x.openError.natAbs ≤ 12 ∧ err.natAbs ≤ 12) :
    jobClose x (some err) out data { s with act := s.act.boundary cyl err, xfer := none } =
      jobEnd ok ((s.closed cyl err j.vol fun c => { c with stale := false }).withJob { j with todo := [] }) := by
  refine (jobClose_last (by exact hj) hkind (.inr (.inl ⟨_, htask⟩)) htodo (.inl h)).trans ?_
  simp only [slotFinished, htask, if_true, headerWritten]
  congr 1
  change State.updVol j.vol _ _ = _
  cases j.vol <;> rfl

/-- R80: a header write whose last block is abandoned for the third time. -/
theorem jobClose_headerFailed {ok bad : EndCode} (hj : s.che.job = some j) (hkind : x.kind = .writeSlot)
    (htask : j.task = .header (.own ok bad)) (htodo : j.todo = [{ slot := x.place.slot, rewrites := n }]) (hn : 2 ≤ n)
    (h : ¬ (x.gated = true ∧ x.openError.natAbs ≤ 12 ∧ err.natAbs ≤ 12)) :
    jobClose x (some err) out data { s with act := s.act.boundary cyl err, xfer := none } =
      jobEnd bad ((s.closed cyl err j.vol fun c => { c with stale := true }).withJob j) := by
  refine (jobClose_abandoned (by exact hj) hkind (.inl ⟨_, htask⟩) htodo hn h).trans ?_
  simp only [slotGivenUp, htask, headerFailed]
  congr 1
  have hche : ({ s.che with job := some j } : Che) = s.che := by rw [← hj]
  cases j.vol <;> simp [State.updVol, State.updVol0, State.updVol1, State.closed, State.withJob, hche]

/-- R86, R87: INITIALIZE VOLUME has dealt with its last alternate slot. -/
theorem jobClose_initialized (hj : s.che.job = some j) (hkind : x.kind = .writeSlot) (htask : j.task = .altTrack 1)
    (htodo : j.todo = [{ slot := x.place.slot, rewrites := n }])
    (h : (x.gated = true ∧ x.openError.natAbs ≤ 12 ∧ err.natAbs ≤ 12) ∨ 2 ≤ n) {failed : List Nat}
    (hfailed : failed = if x.gated = true ∧ x.openError.natAbs ≤ 12 ∧ err.natAbs ≤ 12 then j.failed
      else j.failed ++ [32 + x.place.slot]) :
    jobClose x (some err) out data { s with act := s.act.boundary cyl err, xfer := none } =
      initDone { j with todo := [], failed := failed }
        (({ s with act := s.act.boundary cyl err, xfer := none } : State).withJob
          { j with todo := [], failed := failed }) := by
  by_cases hk : x.gated = true ∧ x.openError.natAbs ≤ 12 ∧ err.natAbs ≤ 12
  · rw [if_pos hk] at hfailed
    subst hfailed
    refine (jobClose_last (by exact hj) hkind (.inr (.inr ⟨_, htask⟩)) htodo (.inl hk)).trans ?_
    simp [slotFinished, htask, altTrackDone]
  · rw [if_neg hk] at hfailed
    subst hfailed
    refine (jobClose_abandoned (by exact hj) hkind (.inr ⟨_, htask⟩) htodo (h.resolve_left hk) hk).trans ?_
    simp [slotGivenUp, htask, slotFinished, altTrackDone, Job.finishSlot, htodo, State.updJob, State.updChe, hj,
      State.withJob]

/-- R87: the completion of INITIALIZE VOLUME at a closing wedge. -/
theorem initDone_closed (s : State) (cyl : Nat) (err : Int) (k : Job) :
    initDone k (({ s with act := s.act.boundary cyl err, xfer := none } : State).withJob k) =
      let done := { s.closed cyl err k.vol (VolCtx.relabelled k.vol k.newLabel k.failed) with
        ntu := s.ntu.attend (.mediumMounted k.vol .mounted (growGeneration (s.vol k.vol).generation)) }
      if k.failed = [] then jobEnd .clean (done.withJob k) else beginHeader .retirements (done.withJob k) := by
  simp only [initDone_eq, attend_eq]
  cases hv : k.vol <;> rfl

end orders

/-- Settles O36: the last slot's closing wedge begins a header write or ends the order, by the task
(`jobClose_formatted`,
`jobClose_headerWritten`, `jobClose_headerFailed`, `jobClose_initialized`). -/
theorem tableOrdersWrite : Obligations.TableOrdersWrite := by
  intro s x j i c l n cyl err out data hr hh hseek hv hp hx hkind hj hphase htodo v kept report closed completion
  have hi := settled_inbox (s := s) hr.settled
  refine ⟨fun horder htask hwritten hasc new hnew hmem => ?_, fun horder htask hl hd hm hplaced => ?_,
    fun horder htask hdone failed hfailed => ?_⟩
  · have hclose := jobClose_formatted (s := s) (cyl := cyl) (out := out) (data := data) hj hkind htask htodo hwritten
      (formattedSlips_eq hasc hnew hmem)
    have hb : s.Beside (closed fun v => { v with slips := new }) := closed_beside hi j.vol (by intro; rfl) _ _
    obtain ⟨hpass, hntu, hche, hvol⟩ := closed_fields s cyl err j.vol fun v => { v with slips := new }
    refine ⟨fun hne hl hcyl => ?_, fun he hl hd hm => ?_⟩
    · refine closing_header (k := { j with todo := [] }) hr hh hseek hv hp hx hj hcyl hb rfl rfl (hpass.trans hp)
        (hclose.trans ?_) ⟨rfl, rfl, rfl⟩ (by simp [horder, OrderKind.tableChanging]) (by simp) ?_
      · rw [decide_eq_true hne]
        rfl
      · exact (congrArg VolCtx.label hvol).trans hl
    · have hid : closed id = closed fun v => { v with slips := new } := closed_congr (by rw [he]; rfl)
      rw [hid]
      refine closing_ended (code := .clean) (k := { j with todo := [] }) hr hh hseek hp hx hb
        (hpass.trans hp) (hntu ▸ hl.place)
        (hclose.trans ?_) (by simp [hphase])
        hl ⟨rfl, rfl⟩ ?_
      · rw [decide_eq_false (by simpa using he)]
        rfl
      · exact completes_clean hd hm (by simp [horder, OrderKind.transfer])
  · have hcompletes (b : Bool) : s.Beside (closed fun v => { v with stale := b }) ∧
        (closed fun v => { v with stale := b }).pass = none ∧
        (closed fun v => { v with stale := b }).ntu.queue.length < 8 := by
      obtain ⟨hpass, hntu, -, -⟩ := closed_fields s cyl err j.vol fun v => { v with stale := b }
      exact ⟨closed_beside hi j.vol (by intro; rfl) _ _, hpass.trans hp, hntu ▸ hl.place⟩
    refine ⟨fun hkept => ?_, fun hkept hn => ?_⟩
    · obtain ⟨hb, hpass, hplace⟩ := hcompletes false
      exact closing_ended hr hh hseek hp hx hb hpass hplace
        (jobClose_headerWritten (out := out) (data := data) hj hkind htask htodo hkept) (by simp [hphase])
        hl ⟨rfl, rfl⟩
        (completes_clean hd hm (by simp [horder, OrderKind.transfer]))
    · obtain ⟨hb, hpass, hplace⟩ := hcompletes true
      refine closing_ended hr hh hseek hp hx hb hpass hplace
        (jobClose_headerFailed (out := out) (data := data) hj hkind htask htodo hn hkept) (by simp [hphase])
        hl ⟨rfl, rfl⟩
        ?_
      simp [Job.completes, Flags.endCode, endLocation, EndCode.hasLocation, Order.residual, horder,
        OrderKind.transfer,
        Job.location, Job.faultPlace, hplaced, Job.faultBlock, completion]
  · intro generation mounted done
    have hclose := (jobClose_initialized (s := s) (cyl := cyl) (out := out) (data := data) hj hkind htask htodo hdone
      hfailed).trans (initDone_closed s cyl err _)
    have hmounted : s.closed cyl err j.vol (VolCtx.relabelled j.vol j.newLabel failed) = closed mounted :=
      closed_congr (by simp [VolCtx.relabelled, growGeneration_eq, mounted, generation, v])
    have hb : s.Beside done := closed_beside hi j.vol (by intro; rfl) _ _
    have hgen : growGeneration (s.vol j.vol).generation = generation := growGeneration_eq _
    obtain ⟨hpass, -, -, hvol⟩ := closed_fields s cyl err j.vol mounted
    have hdone' : { s.closed cyl err j.vol (VolCtx.relabelled j.vol j.newLabel failed) with
        ntu := s.ntu.attend (.mediumMounted j.vol .mounted (growGeneration (s.vol j.vol).generation)) } = done := by
      rw [hmounted, hgen]
    refine ⟨fun hnone hl hplace hd hm => ?_, fun hsome hl hcyl => ?_⟩
    · refine closing_ended (code := .clean) (k := { j with todo := [], failed := failed }) hr hh hseek hp hx hb
        (hpass.trans hp) ((attend_length _ _).trans_lt (Nat.succ_lt_succ hplace)) (hclose.trans ?_)
        (by simp [hphase]) hl
        ⟨rfl, rfl⟩ (completes_clean hd hm (by simp [horder, OrderKind.transfer]))
      rw [if_pos hnone]
      exact congrArg (fun c => jobEnd .clean (State.withJob c _)) hdone'
    · refine closing_header (k := { j with todo := [], failed := failed }) hr hh hseek hv hp hx hj hcyl hb rfl rfl
        (hpass.trans hp) (hclose.trans ?_) ⟨rfl, rfl, rfl⟩ (by simp [horder, OrderKind.tableChanging]) (by simp)
        ((congrArg VolCtx.label hvol).trans hl)
      rw [if_neg hsome]
      exact congrArg (fun c => beginHeader .retirements (State.withJob c _)) hdone'

end Sys2Proof.Machine
end

section
/-! PROOF. ASSIGN ALTERNATE: its read, the choice of a slot, its write and its verify (O37). -/

namespace Sys2Proof.Machine

/-! ## Alternate maps (R68, R92 to R94) -/

/-- A map assigns a block in one slot at most. -/
theorem assigned_unique {alts : List Alt} (h : (assignedBlocks alts).Nodup) {a b block : Nat}
    (ha : alts[a]? = some (.assigned block)) (hb : alts[b]? = some (.assigned block)) : a = b := by
  obtain ⟨ha', ea⟩ := List.getElem?_eq_some_iff.1 ha
  obtain ⟨hb', eb⟩ := List.getElem?_eq_some_iff.1 hb
  have hpair := List.pairwise_iff_getElem.1 (List.pairwise_filterMap.1 h)
  obtain hlt | rfl | hlt := Nat.lt_trichotomy a b
  · exact absurd rfl (hpair a b ha' hb' hlt block (by simp [ea]) block (by simp [eb]))
  · rfl
  · exact absurd rfl (hpair b a hb' ha' hlt block (by simp [eb]) block (by simp [ea]))

/-- R92: the alternate of a block, if it has one, is its only one. -/
theorem findAlternate_cases {alts : List Alt} (h : (assignedBlocks alts).Nodup) (block : Nat) :
    (∃ a, findAlternate alts block = some a ∧ .assigned block ∈ alts ∧
      alts.set a .retired = alts.map fun y => if y = .assigned block then .retired else y) ∨
    findAlternate alts block = none ∧ .assigned block ∉ alts := by
  cases hf : findAlternate alts block with
  | none =>
    refine .inr ⟨rfl, fun hmem => ?_⟩
    obtain ⟨a, ha, e⟩ := List.getElem_of_mem hmem
    have := List.find?_eq_none.1 hf a (List.mem_range.2 ha)
    simp [List.getD, List.getElem?_eq_getElem ha, e] at this
  | some a =>
    have ha : a < alts.length := List.mem_range.1 (List.mem_of_find?_eq_some hf)
    have he : alts[a] = .assigned block := by
      have := List.find?_some hf
      simpa [List.getD, List.getElem?_eq_getElem ha] using this
    refine .inl ⟨a, rfl, he ▸ List.getElem_mem ha, List.ext_getElem (by simp) fun b hb hb' => ?_⟩
    have hlt : b < alts.length := by simpa using hb
    rw [List.getElem_set, List.getElem_map]
    by_cases hab : a = b
    · subst hab
      rw [if_pos rfl, if_pos he]
    · rw [if_neg hab, if_neg]
      intro e
      exact hab (assigned_unique h ((List.getElem?_eq_getElem ha).trans (congrArg some he))
        ((List.getElem?_eq_getElem hlt).trans (congrArg some e)))

theorem retire_ne {alts : List Alt} {block : Nat} :
    (alts.map fun y => if y = .assigned block then .retired else y) ≠ alts ↔ .assigned block ∈ alts := by
  refine ⟨fun h => ?_, fun h e => ?_⟩
  · by_contra hn
    refine h ((List.map_congr_left fun y hy => ?_).trans (List.map_id alts))
    exact if_neg fun e : y = .assigned block => hn (e ▸ hy)
  · rw [← e, List.mem_map] at h
    obtain ⟨y, -, hy⟩ := h
    split at hy <;> simp_all

/-- R93: the lowest-indexed FREE slot. -/
theorem findIdx_free {alts : List Alt} {a : Nat} :
    alts.findIdx? (· == .free) = some a ↔ alts[a]? = some .free ∧ ∀ b, b < a → alts[b]? ≠ some .free := by
  rw [List.findIdx?_eq_some_iff_getElem]
  constructor
  · rintro ⟨ha, hfree, hlow⟩
    refine ⟨by simpa [List.getElem?_eq_getElem ha] using hfree, fun b hb => ?_⟩
    simpa [List.getElem?_eq_getElem (hb.trans ha)] using hlow b hb
  · rintro ⟨hfree, hlow⟩
    obtain ⟨ha, e⟩ := List.getElem?_eq_some_iff.1 hfree
    refine ⟨ha, by simp [e], fun b hb => ?_⟩
    simpa [List.getElem?_eq_getElem (hb.trans ha)] using hlow b hb

theorem findIdx_free_none {alts : List Alt} (h : .free ∉ alts) : alts.findIdx? (· == .free) = none := by
  rw [List.findIdx?_eq_none_iff]
  intro y hy
  simpa using fun e : y = .free => h (e ▸ hy)

/-! ## Tasks taken up -/

/-- R111: the place the order takes up is its own from here on. -/
def Job.placing (j : Job) : Job :=
  { j with placed := some { cylinder := j.target.cylinder, comb := j.target.comb, slot := j.firstSlot } }

section taking
variable {s : State} {k : Job} {f : Job → Job}

theorem takeUp_eq (hk : s.che.job = some k) : takeUp f s = goTo (f k).target (s.withJob (f k).placing) := by
  have ht : jobPlaced (s.updJob f) = s.withJob (f k).placing := by
    simp [jobPlaced, State.updJob, State.updChe, hk, State.withJob, Job.placing]
  rw [takeUp, ht]
  rfl

/-- R77: a task is taken up with a seek, unless the heads are at its place. -/
theorem takeUp_elsewhere (hh : s.act.head = .following) (hv : s.act.valid = true) (hk : s.che.job = some k)
    (hne : ¬ ((f k).target.cylinder = s.act.cylinder ∧ (f k).target.comb = s.act.comb)) : takeUp f s =
      { s.seekBegun (f k).placing (f k).target with inbox := s.inbox ++ [.head .following .seeking] } := by
  rw [takeUp_eq hk, goTo_elsewhere (s := s.withJob _) hh hv rfl hne]
  rfl

theorem takeUp_here (hv : s.act.valid = true) (hk : s.che.job = some k)
    (he : (f k).target.cylinder = s.act.cylinder ∧ (f k).target.comb = s.act.comb) : takeUp f s =
      s.withJob { (f k).placing with phase := .ready } := by
  rw [takeUp_eq hk, goTo, if_neg (by simp [seekNeeded, State.withJob, hv, he])]
  simp [setPhase, State.updJob, State.updChe, State.withJob]

/-- R93, R94: the lowest-indexed FREE slot is taken up. -/
theorem chooseAlternate_lowest {a : Nat} (hk : s.che.job = some k)
    (h : (s.vol k.vol).alts.findIdx? (· == .free) = some a) :
    chooseAlternate s = takeUp (fun j => { j with task := .altWrite a, tries := 0 }) s := by
  simp only [chooseAlternate, hk, h]

theorem chooseAlternate_none (hk : s.che.job = some k) (h : .free ∉ (s.vol k.vol).alts) :
    chooseAlternate s = writeThrough k.changed .noAlternate .noAlternate s := by
  simp only [chooseAlternate, hk, findIdx_free_none h]

end taking

/-! ## Closing wedges after which the order goes on -/

theorem beginFrame_of_same {s u : State} (h : s.settled = true) (hlnk : u.lnk = s.lnk) (hpins : u.pins = s.pins)
    (hbbf : u.bbf = s.bbf) (hntu : u.ntu = s.ntu) : beginFrame u = u := by
  refine beginFrame_of_closed ?_
  rw [← settled_lane h]
  simp [laneOpen, nextFrame, hlnk, hpins, hbbf, hntu]

section closing
variable {s c u : State} {x : Xfer} {j k : Job} {cyl : Nat} {err : Int} {out : ReadOutcome} {data : List Byte}

/-- A closing wedge at which the order at work begins a seek. -/
theorem closing_sought {g : Target} (hr : s.Ready) (hh : s.act.head = .following) (hseek : s.act.seek = none)
    (hp : s.pass = none) (hx : s.xfer = some x) (hj : s.che.job = some j) (hc : s.Beside c) (hpass : c.pass = none)
    (hclose : jobClose x (some err) out data { s with act := s.act.boundary cyl err, xfer := none } =
      { c.seekBegun k g with inbox := [.head .following .seeking] })
    (hk : k.chain = j.chain ∧ k.order = j.order ∧ k.runReady = j.runReady)
    (hgoes : k.chain ≠ none ∨ k.pastFirstWrite = true) :
    exec (.wedgeReport ((x.place.slot + 1) % 32) cyl err out data) s = .next (beginFrame (c.seekBegun k g)) := by
  have hw := within_closing_job (settled_inbox (s := s) hr.settled) hh hseek hp hx cyl err out data rfl hclose hpass
    (fun i hi => by
      obtain rfl : _ = i := Option.some.inj hi
      exact hgoes)
  exact (run_of_powered hr.powered _).trans (conclude_seekBegun hr.settled hc (by rw [hh]; rfl) hw hj hk (by decide))

/-- A closing wedge after which the order at work is where it goes on, at the next slot or at a later one. -/
theorem closing_goes {v : State} (hr : s.Ready) (hh : s.act.head = .following) (hseek : s.act.seek = none)
    (hp : s.pass = none) (hx : s.xfer = some x) (hj : s.che.job = some j)
    (hclose : jobClose x (some err) out data { s with act := s.act.boundary cyl err, xfer := none } = u)
    (hi : u.inbox = []) (hpass : u.pass = none)
    (hgoes : ∀ m ∈ u.che.job, m.chain ≠ none ∨ m.pastFirstWrite = true)
    (hopen : openWedge ((x.place.slot + 1) % 32) u = v) (hb : s.Beside v) (hk : v.che.job = some k) (hg : j.Goes k) :
    exec (.wedgeReport ((x.place.slot + 1) % 32) cyl err out data) s = .next (beginFrame v) := by
  have hw := within_closing_job (settled_inbox (s := s) hr.settled) hh hseek hp hx cyl err out data rfl hclose hpass
    hgoes
  rw [hi] at hw
  have hu : ({ u with inbox := [] } : State) = u := by rw [← hi]
  have hstep := Within.step (s := { u with inbox := [] ++ [.opening ((x.place.slot + 1) % 32)] }) rfl
    ((congrArg (openWedge _) hu).trans hopen)
  rw [← hb.rest_eq hr.settled]
  exact (run_of_powered hr.powered _).trans
    ((hw.trans hstep).conclude (hb.rests hr.settled hj hk hg) (by decide))

end closing

end Sys2Proof.Machine
end

section
/-! PROOF. The closing wedges of ASSIGN ALTERNATE (O37). -/

namespace Sys2Proof.Machine

/-- R47: a read between two wedges within 20% is not off-track. -/
theorem offTrack_eq_false {x : Xfer} {err : Int} (ho : x.openError.natAbs ≤ 20) (hc : err.natAbs ≤ 20) :
    x.offTrack (some err) = false := by
  simp [Xfer.offTrack, withinError, ho, hc]

theorem pad512_of_length {d : List Byte} (h : d.length = 512) : pad512 d = d := by
  simp [pad512, List.take_of_length_le h.le, h]

/-- R53: the counters stay at their top. -/
theorem saturate_eq_min (top n : Nat) : saturate top n = min top n := by
  unfold saturate
  split <;> omega

section read
variable {s : State} {x : Xfer} {j : Job} {cyl : Nat} {err : Int} {out final : ReadOutcome} {data copied : List Byte}

theorem setAlternate_eq {k : Job} (hk : s.che.job = some k) (a : Nat) (y : Alt) : setAlternate j a y s =
    (s.updVol j.vol fun v => { v with alts := v.alts.set a y }).withJob { k with changed := true } := by
  simp [setAlternate, State.updJob, State.updChe, hk, State.withJob]

/-- A context changed twice, with the transfer copy and the order changed between. -/
theorem updVol_updVol (s : State) (copy : List Byte) (v : Vol) (f g : VolCtx → VolCtx) (k m : Job) :
    ((({ s.updVol v f with copy := copy } : State).withJob k).updVol v g).withJob m =
      ({ s.updVol v (g ∘ f) with copy := copy } : State).withJob m := by
  cases v <;> rfl

theorem updVol_congr {v : Vol} {f g : VolCtx → VolCtx} (h : f (s.vol v) = g (s.vol v)) :
    s.updVol v f = s.updVol v g := by
  cases v
  · simp only [State.updVol, State.updVol0, show f s.vol0 = g s.vol0 from h]
  · simp only [State.updVol, State.updVol1, show f s.vol1 = g s.vol1 from h]

/-- R92, R93: the read has ended. It is counted, an alternate the block had is retired, and a slot is chosen. -/
theorem altReadEnded_eq (hj : s.che.job = some j) (hstops : jobStops j s = false)
    (hn : (assignedBlocks (s.vol j.vol).alts).Nodup) {alts : List Alt}
    (halts : alts = (s.vol j.vol).alts.map fun y => if y = .assigned j.order.block then .retired else y) :
    altReadEnded j final data s = chooseAlternate
      (({ s.updVol j.vol fun v => { VolCtx.report final j.tries v with alts := alts } with
          copy := if final = .uncorrectable then zeros512 else pad512 data } : State).withJob
        { j with firstWrite := true, changed := j.changed || decide (alts ≠ (s.vol j.vol).alts),
                 flags := j.flags.raise final }) := by
  have hgone : ¬ (j.chain = none ∧ j.pastFirstWrite = false) := by
    rintro ⟨h1, h2⟩
    simp [jobStops, h1, h2] at hstops
  let copy := if final = .uncorrectable then zeros512 else pad512 data
  let k : Job := { j with flags := j.flags.raise final }
  let t : State := ({ s.updVol j.vol (VolCtx.report final j.tries) with copy := copy } : State).withJob k
  have ht : ((s.updVol j.vol (VolCtx.report final j.tries)).updJob fun j =>
      { j with flags := j.flags.raise final }).setCopy copy = t := by
    simp [t, k, State.updJob, State.updChe, hj, State.withJob, State.setCopy]
  have hvol : (t.vol j.vol).alts = (s.vol j.vol).alts :=
    by
    change ((s.updVol j.vol (VolCtx.report final j.tries)).vol j.vol).alts = _
    rw [vol_updVol]
    rfl
  have hfirst : t.updJob (fun j => { j with firstWrite := true }) = t.withJob { k with firstWrite := true } := by
    simp [t, State.updJob, State.updChe, State.withJob]
  simp only [altReadEnded, if_neg hgone]
  rw [ht, if_neg (by rw [hstops]; decide)]
  simp only [altReadDone, hfirst, hvol]
  refine congrArg chooseAlternate ?_
  obtain ⟨a, hfind, hmem, hset⟩ | ⟨hfind, hmem⟩ := findAlternate_cases hn j.order.block
  · have hne : alts ≠ (s.vol j.vol).alts := halts ▸ retire_ne.2 hmem
    simp only [hfind, decide_eq_true hne, Bool.or_true]
    rw [setAlternate_eq (k := { k with firstWrite := true }) rfl]
    refine (updVol_updVol ..).trans ?_
    refine congrArg (fun u : State => ({ u with copy := copy } : State).withJob _) (updVol_congr ?_)
    exact congrArg (fun l => { VolCtx.report final j.tries (s.vol j.vol) with alts := l }) (hset.trans halts.symm)
  · have he : alts = (s.vol j.vol).alts := by
      rw [halts]
      exact not_not.1 (mt retire_ne.1 hmem)
    simp only [hfind, he, ne_eq, not_true_eq_false, decide_false, Bool.or_false]
    have hsame : s.updVol j.vol (fun v => { VolCtx.report final j.tries v with alts := (s.vol j.vol).alts }) =
        s.updVol j.vol (VolCtx.report final j.tries) := updVol_congr rfl
    rw [hsame]
    rfl

theorem closed_eq (s : State) (cyl : Nat) (err : Int) (v : Vol) (f : VolCtx → VolCtx) :
    s.closed cyl err v f = ({ s with act := s.act.boundary cyl err, xfer := none } : State).updVol v f := by
  cases v <;> rfl

/-- R92: the closing wedge that ends the read of ASSIGN ALTERNATE. -/
theorem jobClose_altRead (hj : s.che.job = some j) (htask : j.task = .altRead) (hstops : jobStops j s = false)
    (hn : (assignedBlocks (s.vol j.vol).alts).Nodup) (hdata : data.length = 512)
    (hoff : x.offTrack (some err) = false)
    (hfinal : x.seen = .agrees ∧ out ≠ .uncorrectable ∧ final = out ∧ copied = data ∨
      (x.seen = .unreadable ∨ x.seen = .agrees ∧ out = .uncorrectable) ∧ j.tries = 3 ∧ final = .uncorrectable ∧
        copied = zeros512) {alts : List Alt}
    (halts : alts = (s.vol j.vol).alts.map fun y => if y = .assigned j.order.block then .retired else y) :
    jobClose x (some err) out data { s with act := s.act.boundary cyl err, xfer := none } = chooseAlternate
      (({ s.closed cyl err j.vol fun v => { VolCtx.report final j.tries v with alts := alts } with
          copy := copied } : State).withJob
        { j with firstWrite := true, changed := j.changed || decide (alts ≠ (s.vol j.vol).alts),
                 flags := j.flags.raise final }) := by
  have hended (d : List Byte) (hd : copied = if final = .uncorrectable then zeros512 else pad512 d) := by
    have := altReadEnded_eq (s := { s with act := s.act.boundary cyl err, xfer := none }) (final := final)
      (data := d) (alts := alts) hj hstops hn halts
    rwa [← hd, ← closed_eq] at this
  have hjob : jobClose x (some err) out data { s with act := s.act.boundary cyl err, xfer := none } =
      readClosed j x.seen false out data { s with act := s.act.boundary cyl err, xfer := none } := by
    simp only [jobClose, hj, htask, hoff]
  rw [hjob]
  obtain ⟨hseen, hout, rfl, hcopied⟩ | ⟨hunread, htries, rfl, hcopied⟩ := hfinal
  · refine Eq.trans ?_ (hended data (by rw [if_neg hout, pad512_of_length hdata, hcopied]))
    simp [readClosed, hseen, hout, htask]
  · refine Eq.trans ?_ (hended data (by rw [if_pos rfl, hcopied]))
    have hs : jobStops j { s with act := s.act.boundary cyl err, xfer := none } = false := hstops
    obtain hseen | ⟨hseen, hout⟩ := hunread <;> simp [readClosed, *]

/-- R93: the verify of ASSIGN ALTERNATE counts its read and changes the map in one slot. -/
theorem setAlternate_closed (hj : s.che.job = some j) (a : Nat) (y : Alt) :
    setAlternate j a y (({ s with act := s.act.boundary cyl err, xfer := none } : State).updVol j.vol
      (VolCtx.report final 0)) =
    (s.closed cyl err j.vol fun v => { VolCtx.report final 0 v with alts := v.alts.set a y }).withJob
      { j with changed := true } := by
  rw [setAlternate_eq (k := j) (by cases j.vol <;> exact hj), closed_eq]
  cases j.vol <;> rfl

/-- R93, R94: a verify whose identity was read assigns the slot or retires it. -/
theorem jobClose_altVerify {a : Nat} (hj : s.che.job = some j) (htask : j.task = .altVerify a)
    (hoff : x.offTrack (some err) = false) (hseen : x.seen = .agrees ∨ x.seen = .disagrees) :
    jobClose x (some err) out data { s with act := s.act.boundary cyl err, xfer := none } =
      if out = .clean ∧ x.seen = .agrees ∧ data = s.copy then
        writeThrough true .clean .headerFault ((s.closed cyl err j.vol fun v =>
          { VolCtx.report out 0 v with alts := v.alts.set a (.assigned j.order.block) }).withJob
          { j with changed := true })
      else chooseAlternate ((s.closed cyl err j.vol fun v =>
        { VolCtx.report out 0 v with alts := v.alts.set a .retired }).withJob { j with changed := true }) := by
  rw [← setAlternate_closed hj, ← setAlternate_closed hj]
  obtain hseen | hseen := hseen <;> simp [jobClose, hj, htask, hoff, altVerifyClosed, hseen]

/-- R93: a kept alternate write is verified where it stands. -/
theorem jobClose_altWritten {a : Nat} (hj : s.che.job = some j) (htask : j.task = .altWrite a)
    (hkept : x.kept (some err) = true) (hv : s.act.valid = true) (hcyl : cyl = 1)
    (hcomb : s.act.comb = 2 * j.order.volume + a / 32) :
    jobClose x (some err) out data { s with act := s.act.boundary cyl err, xfer := none } =
      (s.closed cyl err j.vol id).withJob
        { { j with task := .altVerify a, tries := 0 }.placing with phase := .ready } := by
  have hjob : jobClose x (some err) out data { s with act := s.act.boundary cyl err, xfer := none } =
      takeUp (fun j => { j with task := .altVerify a, tries := 0 })
        { s with act := s.act.boundary cyl err, xfer := none } := by
    simp [jobClose, hj, htask, hkept, altWriteClosed]
  rw [hjob, takeUp_here (by exact hv) (by exact hj), closed_eq]
  · cases j.vol <;> rfl
  · simp [Job.target, alternatePlace, Act.boundary, Act.hear, hv, hcyl, hcomb]

theorem closed_lane (s : State) (cyl : Nat) (err : Int) (v : Vol) (f : VolCtx → VolCtx) :
    (s.closed cyl err v f).lnk = s.lnk ∧ (s.closed cyl err v f).pins = s.pins ∧ (s.closed cyl err v f).bbf = s.bbf ∧
      (s.closed cyl err v f).ntu = s.ntu := by
  cases v <;> exact ⟨rfl, rfl, rfl, rfl⟩

end read

/-- The order's own record, its transfer and the heads on the servo as before change nothing that rest depends on. -/
theorem State.Beside.working {s c : State} (b : s.Beside c) {act : Act} {x : Option Xfer} {k : Job}
    (ha : act.head.loaded = c.act.head.loaded) :
    s.Beside { c with act := act, xfer := x, che := { c.che with job := some k } } :=
  ⟨b.inbox, b.table, b.mech, b.pass, b.pass0, b.pass1, b.slots, b.rcv, b.pwr, b.spc, b.lnk, b.pins, b.choice,
    ha.trans b.loaded⟩

section choice
variable {s c : State} {x : Xfer} {j k : Job} {cyl : Nat} {err : Int} {out : ReadOutcome} {data : List Byte}

/-- R93: a closing wedge at which the lowest-indexed FREE slot is chosen, with the heads elsewhere. -/
theorem closing_chooses {a : Nat} (hr : s.Ready) (hh : s.act.head = .following) (hseek : s.act.seek = none)
    (hv : s.act.valid = true) (hp : s.pass = none) (hx : s.xfer = some x) (hj : s.che.job = some j) (hc : s.Beside c)
    (hact : c.act = s.act.boundary cyl err) (hpass : c.pass = none)
    (hlane : c.lnk = s.lnk ∧ c.pins = s.pins ∧ c.bbf = s.bbf ∧ c.ntu = s.ntu)
    (hclose : jobClose x (some err) out data { s with act := s.act.boundary cyl err, xfer := none } =
      chooseAlternate (c.withJob k))
    (hk : k.chain = j.chain ∧ k.order = j.order ∧ k.runReady = j.runReady) (hpast : k.pastFirstWrite = true)
    (ha : (c.vol k.vol).alts[a]? = some .free ∧ ∀ b, b < a → (c.vol k.vol).alts[b]? ≠ some .free) :
    let m : Job := { k with task := .altWrite a, tries := 0 }
    (¬ (m.target.cylinder = c.act.cylinder ∧ m.target.comb = c.act.comb) →
      exec (.wedgeReport ((x.place.slot + 1) % 32) cyl err out data) s =
        .next (c.seekBegun m.placing m.target)) := by
  intro m hne
  have hsame : (c.withJob k).act = s.act.boundary cyl err := hact
  have hchoose := chooseAlternate_lowest (s := c.withJob k) rfl (findIdx_free.2 ha)
  have htake := takeUp_elsewhere (s := c.withJob k) (f := fun j => { j with task := .altWrite a, tries := 0 })
    (by rw [hsame]; exact hh) (by rw [hsame]; exact hv) rfl (by exact hne)
  obtain ⟨hlnk, hpins, hbbf, hntu⟩ := hlane
  rw [← beginFrame_of_same (u := c.seekBegun m.placing m.target) hr.settled hlnk hpins hbbf hntu]
  refine closing_sought (k := m.placing) hr hh hseek hp hx hj hc hpass (hclose.trans (hchoose.trans (htake.trans ?_)))
    hk (.inr hpast)
  rw [show (c.withJob k).inbox = [] from hc.inbox]
  rfl

/-- R122: the opening wedge of an alternate slot. -/
theorem openWedge_altWrite {u : State} {w b : Nat} (hh : u.act.head = .following) (hp : u.pass = none)
    (hk : u.che.job = some k) (hphase : k.phase = .ready) (htask : k.task = .altWrite b) :
    openWedge w u = if b % 32 = w then startXfer k .writeSlot w u.copy u else u := by
  simp [openWedge, hh, hp, jobOpen, hk, hphase, htask]

theorem openWedge_altVerify {u : State} {w a : Nat} (hp : u.pass = none) (hk : u.che.job = some k)
    (htask : k.task = .altVerify a) (hne : ¬ a % 32 = w) : openWedge w u = u := by
  simp [openWedge, hp, jobOpen, hk, htask, hne]

theorem startXfer_writeSlot {u : State} {w : Nat} {d : List Byte} (hk : u.che.job = some k) :
    startXfer k .writeSlot w d u =
      let p : Place := { cylinder := k.target.cylinder, comb := k.target.comb, slot := w }
      ({ u with
        act := { u.act with gate := gateOpens u }
        xfer := some { kind := .writeSlot, place := p, openError := u.act.error, gated := gateOpens u,
                       seen := .notRead, identity := k.identity w, data := d } } : State).withJob
        { k with phase := .under, placed := some p, transferred := some p, firstWrite := true } := by
  simp [startXfer, openGate, State.updAct, State.setXfer, State.updJob, State.updChe, hk, State.withJob]

/-- R93, R94: a closing wedge at which the lowest-indexed FREE slot is chosen, wherever the heads are. -/
theorem closing_chosen {a : Nat} (hr : s.Ready) (hh : s.act.head = .following) (hseek : s.act.seek = none)
    (hv : s.act.valid = true) (hp : s.pass = none) (hx : s.xfer = some x) (hj : s.che.job = some j) (hc : s.Beside c)
    (hact : c.act = s.act.boundary cyl err) (hpass : c.pass = none) (hche : c.che = s.che)
    (hlane : c.lnk = s.lnk ∧ c.pins = s.pins ∧ c.bbf = s.bbf ∧ c.ntu = s.ntu)
    (hclose : jobClose x (some err) out data { s with act := s.act.boundary cyl err, xfer := none } =
      chooseAlternate (c.withJob k))
    (hk : k.chain = j.chain ∧ k.order = j.order ∧ k.runReady = j.runReady) (hpast : k.pastFirstWrite = true)
    (ha : (c.vol k.vol).alts[a]? = some .free ∧ ∀ b, b < a → (c.vol k.vol).alts[b]? ≠ some .free) :
    ∃ t, exec (.wedgeReport ((x.place.slot + 1) % 32) cyl err out data) s = .next t ∧
      t = { c with act := t.act, xfer := t.xfer, che := t.che } ∧ t.che = { s.che with job := t.che.job } ∧
      ∃ m, t.che.job = some m ∧
        m = { k with task := .altWrite a, tries := 0, phase := m.phase, placed := m.placed,
                     transferred := m.transferred } := by
  let m : Job := { k with task := .altWrite a, tries := 0 }
  have hlane' (v : State) (hv : v.lnk = c.lnk ∧ v.pins = c.pins ∧ v.bbf = c.bbf ∧ v.ntu = c.ntu) :
      beginFrame v = v :=
    beginFrame_of_same hr.settled (hv.1.trans hlane.1) (hv.2.1.trans hlane.2.1) (hv.2.2.1.trans hlane.2.2.1)
      (hv.2.2.2.trans hlane.2.2.2)
  by_cases he : m.target.cylinder = c.act.cylinder ∧ m.target.comb = c.act.comb
  · have hchoose := chooseAlternate_lowest (s := c.withJob k) rfl (findIdx_free.2 ha)
    have htake := takeUp_here (s := c.withJob k) (k := k) (f := fun j => { j with task := .altWrite a, tries := 0 })
      (by rw [show (c.withJob k).act = _ from hact]; exact hv) rfl he
    let u : State := c.withJob { m.placing with phase := .ready }
    have hopen : openWedge ((x.place.slot + 1) % 32) u = _ :=
      openWedge_altWrite (by rw [show u.act = _ from hact]; exact hh) hpass rfl rfl rfl
    have hgo {v : State} {n : Job} (hov : openWedge ((x.place.slot + 1) % 32) u = v) (hb : s.Beside v)
        (hn : v.che.job = some n) (hg : j.Goes n) :=
      closing_goes hr hh hseek hp hx hj (hclose.trans (hchoose.trans htake)) hc.inbox hpass
        (fun i hi => by obtain rfl : _ = i := Option.some.inj hi; exact .inr hpast) hov hb hn hg
    obtain ⟨hchain, horder, hready⟩ := hk
    split_ifs at hopen with hw
    · rw [startXfer_writeSlot rfl] at hopen
      refine ⟨_, (hgo hopen (hc.working rfl) rfl ⟨hchain, horder, hready, .inr (.inr rfl)⟩).trans
        (congrArg Host.Outcome.next (hlane' _ ⟨rfl, rfl, rfl, rfl⟩)), ?_⟩
      refine ⟨?_, ?_, _, rfl, ?_⟩
      · simp [u, State.withJob]
      · simp [u, State.withJob, hche]
      · have hfirst : k.firstWrite = true := by
          simp only [Job.pastFirstWrite, Bool.and_eq_true] at hpast
          exact hpast.2
        simp [m, Job.placing, hfirst]
    · refine ⟨_, (hgo hopen (hc.working rfl) rfl ⟨hchain, horder, hready, .inr (.inl rfl)⟩).trans
        (congrArg Host.Outcome.next (hlane' u ⟨rfl, rfl, rfl, rfl⟩)), ?_⟩
      refine ⟨?_, ?_, _, rfl, ?_⟩
      · simp [u, State.withJob]
      · simp [u, State.withJob, hche]
      · simp [m, Job.placing]
  · refine ⟨_, closing_chooses hr hh hseek hv hp hx hj hc hact hpass hlane hclose hk hpast ha he, ?_⟩
    refine ⟨?_, ?_, _, rfl, ?_⟩
    · simp [State.seekBegun]
    · simp [State.seekBegun, hche]
    · simp [Job.placing]

end choice

/-- Settles O37: the read, the write and the verify each by their closing wedge (`jobClose_altRead`,
`jobClose_altWritten`, `jobClose_altVerify`), and the choice of a slot by `closing_chooses` and `closing_chosen`. -/
theorem alternatesAssigned : Obligations.AlternatesAssigned := by
  intro s x j l a cyl err out data hr hh hseek hv hp hx hj hphase hkind hdata hlen herr hopen v block report place
    counted lowest closed
  have hi := settled_inbox (s := s) hr.settled
  have hoff : x.offTrack (some err) = false := offTrack_eq_false hopen herr
  have hpast (k : Job) (hk : k.order = j.order) (hf : k.firstWrite = true) : k.pastFirstWrite = true := by
    simp [Job.pastFirstWrite, hk, hf, hkind, OrderKind.tableChanging]
  have htable : j.order.kind.tableChanging = true := by simp [hkind, OrderKind.tableChanging]
  have hb (f : VolCtx → VolCtx) (hf : ∀ c, (f c).pass = c.pass) (d : List Byte) :
      s.Beside { s.closed cyl err j.vol f with copy := d } := closed_beside hi j.vol hf _ d
  have hplain (f : VolCtx → VolCtx) (hf : ∀ c, (f c).pass = c.pass) : s.Beside (closed f) := hb f hf _
  have hcounted (o : ReadOutcome) (n : Nat) : VolCtx.report o n = counted o n := by
    funext c
    simp [VolCtx.report, counted, saturate_eq_min]
  refine ⟨?_, ?_, ?_⟩
  · intro _ htask hstops hn final copied hfinal alts read job
    have hclose := jobClose_altRead (cyl := cyl) hj htask hstops hn hdata hoff hfinal (alts := alts) rfl
    simp only [hcounted] at hclose
    change _ = chooseAlternate (read.withJob job) at hclose
    have hread : s.Beside read := hb _ (by intro; rfl) _
    obtain ⟨hpass, -, hche, hvol⟩ := closed_fields s cyl err j.vol fun v =>
      { counted final j.tries v with alts := alts }
    have hpass' : read.pass = none := hpass.trans hp
    have halts : (read.vol j.vol).alts = alts := congrArg VolCtx.alts hvol
    have hact : read.act.cylinder = cyl := by simp [read, closed, Act.boundary, Act.hear, hv]
    refine ⟨fun ha hcyl => ?_, fun hnone hne hl hcyl => ?_⟩
    · rw [← halts] at ha
      have hnext := closing_chooses hr hh hseek hv hp hx hj hread rfl hpass'
        (closed_lane s cyl err j.vol _) hclose ⟨rfl, rfl, rfl⟩
        (hpast _ rfl rfl) ha fun he => hcyl (hact.symm.trans he.1.symm)
      refine ⟨_, hnext, seekBegun_begun read _ _ rfl, ?_⟩
      simp only [State.seekBegun, Job.placing, Option.bind_some]
      rw [show read.che = s.che from hche]
    · rw [← halts] at hnone
      refine closing_header (k := job) hr hh hseek hv hp hx hj hcyl hread rfl rfl hpass'
        (hclose.trans ((chooseAlternate_none (s := read.withJob job) rfl hnone).trans ?_)) ⟨rfl, rfl, rfl⟩ htable
        (by simp) ((congrArg VolCtx.label hvol).trans hl)
      simp [writeThrough, job, hne, v]
  · intro hwrite htask hfirst hslot hcyl hcomb hgated ho he
    have hclose := jobClose_altWritten (out := out) (data := data) hj htask
      ((kept_writeSlot hwrite err).2 ⟨hgated, ho, he⟩) hv hcyl hcomb
    obtain ⟨hpass, -, hche, -⟩ := closed_fields s cyl err j.vol id
    have hnot : ¬ a % 32 = (x.place.slot + 1) % 32 := by omega
    have hgo := closing_goes (v := (closed id).withJob
      { { j with task := .altVerify a, tries := 0 }.placing with phase := .ready }) hr hh hseek hp hx hj hclose
      (hplain id fun _ => rfl).inbox (hpass.trans hp) (fun i hi => by
        obtain rfl : _ = i := Option.some.inj hi
        exact .inr (hpast _ rfl hfirst)) ?_ ((hplain id fun _ => rfl).working rfl)
      rfl ⟨rfl, rfl, rfl, .inr (.inl rfl)⟩
    · obtain ⟨hlnk, hpins, hbbf, hntu⟩ := closed_lane s cyl err j.vol id
      rw [beginFrame_of_same hr.settled (by exact hlnk) (by exact hpins) (by exact hbbf) (by exact hntu)] at hgo
      refine ⟨_, hgo, ?_⟩
      simp only [State.withJob, Option.bind_some, Job.placing]
      rw [show (closed id).che = s.che from hche]
    · exact openWedge_altVerify (hpass.trans hp) rfl rfl hnot
  · intro _ htask hfree hfirst hcyl
    have hwas : v.alts[a]? = some .free := hfree
    refine ⟨?_, ?_⟩
    · rintro rfl hseen hsame hl
      have hclose := jobClose_altVerify (cyl := cyl) (out := .clean) (data := data) hj htask hoff (.inl hseen)
      rw [if_pos ⟨rfl, hseen, hsame⟩] at hclose
      simp only [hcounted] at hclose
      obtain ⟨hpass, -, -, hvol⟩ := closed_fields s cyl err j.vol fun v =>
        { counted .clean 0 v with alts := v.alts.set a (.assigned block) }
      refine closing_header (k := { j with changed := true }) hr hh hseek hv hp hx hj (by omega)
        (hplain _ (by intro; rfl)) rfl rfl (hpass.trans hp) (hclose.trans ?_) ⟨rfl, rfl, rfl⟩ htable (by simp)
        ((congrArg VolCtx.label hvol).trans hl)
      rfl
    · intro hwrong alts failed
      have hseen : x.seen = .agrees ∨ x.seen = .disagrees := hwrong.imp_left fun h => h.1
      have hnot : ¬ (out = .clean ∧ x.seen = .agrees ∧ data = s.copy) := by
        rintro ⟨h1, h2, h3⟩
        obtain ⟨-, h⟩ | h := hwrong
        · exact h ⟨h1, h3⟩
        · simp [h2] at h
      have hclose := jobClose_altVerify (cyl := cyl) (out := out) (data := data) hj htask hoff hseen
      rw [if_neg hnot] at hclose
      simp only [hcounted] at hclose
      have hsame : (s.closed cyl err j.vol fun v => { counted out 0 v with alts := v.alts.set a .retired }) = failed :=
        closed_congr rfl
      rw [hsame] at hclose
      obtain ⟨hpass, -, hche, hvol⟩ := closed_fields s cyl err j.vol fun v =>
        { counted out 0 v with alts := alts }
      have hfailed : s.Beside failed := hplain _ (by intro; rfl)
      have halts : (failed.vol j.vol).alts = alts := congrArg VolCtx.alts hvol
      refine ⟨fun b hb' => ?_, fun hnone hl => ?_⟩
      · rw [← halts] at hb'
        exact closing_chosen (k := { j with changed := true }) hr hh hseek hv hp hx hj hfailed rfl (hpass.trans hp)
          hche (closed_lane s cyl err j.vol _) hclose ⟨rfl, rfl, rfl⟩ (hpast _ rfl hfirst) hb'
      · rw [← halts] at hnone
        refine closing_header (k := { j with changed := true }) hr hh hseek hv hp hx hj (by omega)
          hfailed rfl rfl (hpass.trans hp)
          (hclose.trans ((chooseAlternate_none (s := failed.withJob { j with changed := true }) rfl hnone).trans ?_))
          ⟨rfl, rfl, rfl⟩ htable (by simp) ((congrArg VolCtx.label hvol).trans hl)
        rfl

end Sys2Proof.Machine
end

section
/-! PROOF. Rest while an order goes on from block to block, with its chain's record and the block slots moving. -/

namespace Sys2Proof.Machine

theorem oldest_eq_none {l : List (Nat × Chain)} : oldest l = none ↔ l = [] := by
  cases l with
  | nil => simp [oldest]
  | cons p ps =>
    unfold oldest
    split
    · simp
    · split_ifs <;> simp

theorem chains_filter_eq_nil {s : State} {p : Nat × Chain → Bool} :
    s.chains.filter p = [] ↔ ∀ n c, s.chainAt n = some c → p (n, c) = false := by
  simp only [List.filter_eq_nil_iff, Prod.forall, mem_chains, Bool.not_eq_true]

/-- `u` differs from `s` in nothing that the resting rules and the lamp read, but for the order at work, its chain and
the block slots. -/
structure State.Along (s u : State) : Prop where
  inbox : u.inbox = []
  mech : u.che.mech = s.che.mech
  pass : u.pass.isNone = s.pass.isNone
  pass0 : u.vol0.pass = s.vol0.pass
  pass1 : u.vol1.pass = s.vol1.pass
  rcv : u.rcv = s.rcv
  pwr : u.pwr = s.pwr
  spc : u.spc = s.spc
  lnk : u.lnk = s.lnk
  pins : u.pins = s.pins
  choice : u.choice = s.choice
  loaded : u.act.head.loaded = s.act.head.loaded

/-- What the resting rules read of a chain is as it was, but that it may have come to DATA-WAIT. -/
def Chain.Follows (c d : Chain) : Prop := d.order = c.order ∧ (d.state = c.state ∨ d.state = .dataWait)

/-- Every chain of the table is as it was, or the order at work has gone on. -/
def State.ChainsFollow (s u : State) : Prop := ∀ n, u.chainAt n = s.chainAt n ∨
  ∃ c d, s.chainAt n = some c ∧ u.chainAt n = some d ∧ c.Follows d

theorem State.ChainsFollow.forward {s u : State} (h : s.ChainsFollow u) {n : Nat} {c : Chain}
    (hc : s.chainAt n = some c) : ∃ d, u.chainAt n = some d ∧ (d.state = c.state ∨ d.state = .dataWait) := by
  obtain e | ⟨c', d, hc', hd, -, hstate⟩ := h n
  · exact ⟨c, e.trans hc, .inl rfl⟩
  · obtain rfl : c' = c := Option.some.inj (hc'.symm.trans hc)
    exact ⟨d, hd, hstate⟩

theorem State.ChainsFollow.back {s u : State} (h : s.ChainsFollow u) {n : Nat} {d : Chain}
    (hd : u.chainAt n = some d) : ∃ c, s.chainAt n = some c ∧ c.Follows d := by
  obtain e | ⟨c, d', hc, hd', hf⟩ := h n
  · exact ⟨d, e.symm.trans hd, rfl, .inl rfl⟩
  · obtain rfl : d' = d := Option.some.inj (hd'.symm.trans hd)
    exact ⟨c, hc, hf⟩

theorem drained_of_follow {s u : State} (h : s.ChainsFollow u) (hrcv : u.rcv = s.rcv)
    (hpass : u.pass.isNone = s.pass.isNone) (hs : drained s = false) : drained u = false := by
  rw [Bool.eq_false_iff] at hs ⊢
  refine fun hu => hs ?_
  simp only [drained, Bool.and_eq_true, List.all_eq_true, Prod.forall, mem_chains, hrcv, hpass] at hu ⊢
  refine ⟨hu.1, fun n c hc => ?_⟩
  obtain ⟨d, hd, hstate⟩ := h.forward hc
  have := hu.2 n d hd
  obtain e | e := hstate
  · rwa [e] at this
  · simp [e, ChainState.inProgress] at this

theorem freeStarter_of_follow {s u : State} (h : s.ChainsFollow u) (hrcv : u.rcv = s.rcv) (hpwr : u.pwr = s.pwr)
    (hs : freeStarter s = none) : freeStarter u = none := by
  unfold freeStarter at hs ⊢
  rw [hrcv, hpwr]
  split_ifs at hs ⊢ with hcond
  · rw [Option.map_eq_none_iff, oldest_eq_none, chains_filter_eq_nil] at hs ⊢
    intro n d hd
    obtain ⟨c, hc, horder, e | e⟩ := h.back hd
    · rw [← hs n c hc, e, horder]
    · simp [e]
  · rfl

theorem arbiterChoice_of_follow {s u : State} (h : s.ChainsFollow u) (hrcv : u.rcv = s.rcv) (hpwr : u.pwr = s.pwr)
    (hmech : u.che.mech = s.che.mech) (h0 : u.vol0.pass = s.vol0.pass) (h1 : u.vol1.pass = s.vol1.pass)
    (hs : arbiterChoice s = none) : arbiterChoice u = none := by
  have hpresented : presentedPass u = presentedPass s := by simp [presentedPass, h0, h1]
  unfold arbiterChoice at hs ⊢
  rw [hrcv, hpwr, hmech, hpresented]
  by_cases hcond : s.che.mech = .free ∧ s.pwr.state ≠ .faultHold
  · rw [if_pos hcond] at hs ⊢
    generalize (if s.rcv.stage = .none then presentedPass s else none) = p at hs ⊢
    cases p with
    | some v => simp at hs
    | none =>
      simp only [Option.map_eq_none_iff, oldest_eq_none, chains_filter_eq_nil] at hs ⊢
      intro n d hd
      obtain ⟨c, hc, horder, e | e⟩ := h.back hd
      · rw [← hs n c hc]
        simp [chainReady, e, horder, hrcv]
      · simp [chainReady, e]
  · rw [if_neg hcond]

/-- The order at work goes on from block to block; the waits of READ and WRITE are asked for apart. -/
theorem State.Along.rests {s u : State} (b : s.Along u) (h : s.settled = true) (hf : s.ChainsFollow u) {k : Job}
    (hk : u.che.job = some k) (hphase : k.phase ≠ .mount ∧ k.phase ≠ .ejectHeld ∧ k.phase ≠ .power)
    (hread : readWaits u = none) (hwrite : writeNeeds u = none) : settleOnce u = none := by
  obtain ⟨hi, hidle⟩ := (settleOnce_none_iff s).1 (settled_rest h)
  obtain ⟨hdrained, hfree, -, -, -, -, hgrant, hwait⟩ := (idleRule_none_iff s).1 hidle
  obtain ⟨hunload, hchoice⟩ := (unloadOrGrant_none_iff s).1 hgrant
  obtain ⟨hmount, hheld, hpower⟩ := hphase
  refine (settleOnce_none_iff _).2 ⟨b.inbox, (idleRule_none_iff _).2
    ⟨drained_of_follow hf b.rcv b.pass hdrained, freeStarter_of_follow hf b.rcv b.pwr hfree, ?_, ?_, hread, hwrite,
      (unloadOrGrant_none_iff _).2 ⟨?_, arbiterChoice_of_follow hf b.rcv b.pwr b.mech b.pass0 b.pass1 hchoice⟩, ?_⟩⟩
  · simp [heldEjectDue, hk, hheld]
  · simp [lendsTo, hk, hmount]
  · rintro ⟨hdue, hallowed⟩
    refine hunload ⟨by simpa [unloadDue, b.pwr, b.loaded] using hdue, ?_⟩
    revert hallowed
    simp only [unloadAllowed, b.mech, hk]
    cases s.che.mech <;> simp [hpower]
  · have hlead (bytes : Byte) : leadWithheld bytes u = leadWithheld bytes s := by
      simp only [leadWithheld, b.lnk, b.pins]
    rw [← hwait]
    simp only [waitingFrame, hlead, b.lnk]

theorem State.Along.rest_eq {s u : State} (b : s.Along u) (h : s.settled = true) : u.rest = beginFrame u := by
  have hlit : u.rcv.lamp = lampOf u := by
    have : lampOf u = lampOf s := by simp [lampOf, b.rcv, b.spc]
    rw [this, b.rcv, settled_lamp h]
  rw [State.rest, setLamp_of_lit hlit]

end Sys2Proof.Machine
end

section
/-! PROOF. The closing wedge of a block of READ, WRITE or VERIFY (O34). -/

namespace Sys2Proof.Machine

/-! ## The chain's record, the block's end -/

theorem updChain_eq {s : State} {i : Nat} {c : Chain} (hc : s.chainAt i = some c) (f : Chain → Chain) :
    s.updChain i f = { s with che := { s.che with table := s.che.table.set i (some (f c)) } } := by
  have htable : s.che.table.modify i (Option.map f) = s.che.table.set i (some (f c)) := by
    refine List.ext_getElem? fun n => ?_
    by_cases hn : n = i
    · subst hn
      have hlt := chainAt_lt hc
      rw [State.chainAt, List.getD_eq_getElem?_getD, List.getElem?_eq_getElem hlt] at hc
      simp [hlt, show s.che.table[n] = some c from hc]
    · simp [Ne.symm hn]
  simp [State.updChain, State.updChe, htable]

/-- The part with the record of the chain in slot `i` and of the order at work as they are now. -/
def State.advanced (s : State) (i : Nat) (d : Chain) (k : Job) : State :=
  { s with che := { s.che with table := s.che.table.set i (some d), job := some k } }

/-- R128: the bytes of a block. -/
theorem blockLength_eq (o : Order) (n : Nat) : o.blockLength n =
    if n + 1 = o.blocks ∧ o.count % 512 ≠ 0 then o.count % 512 else 512 := by
  unfold Order.blockLength Order.blocks
  split_ifs <;> omega

theorem chains_of_advanced {s t : State} {i : Nat} {c d : Chain} (h : s.chains = [(i, c)])
    (ht : t.che.table = s.che.table.set i (some d)) : t.chains = [(i, d)] := by
  have hc := chainAt_of_only h
  have hmap : t.chains = s.chains.map fun q => (q.1, if q.1 = i then d else q.2) := by
    simp only [State.chains, List.map_filterMap, ht, List.length_set]
    refine List.filterMap_congr fun n _ => ?_
    rw [chainAt_set ht (chainAt_lt hc)]
    by_cases hn : n = i
    · subst hn
      simp [hc]
    · cases s.chainAt n <;> simp [hn]
  rw [hmap, h]
  simp

section advanced
variable {s : State} {i : Nat} {c d : Chain} {j k : Job}

theorem chainAt_advanced (hc : s.chainAt i = some c) (d : Chain) (k : Job) (n : Nat) :
    (s.advanced i d k).chainAt n = if n = i then some d else s.chainAt n :=
  chainAt_set rfl (chainAt_lt hc) n

theorem updJob_advanced (f : Job → Job) : (s.advanced i d k).updJob f = s.advanced i d (f k) := rfl

theorem updChain_advanced (hc : s.chainAt i = some c) (f : Chain → Chain) :
    (s.advanced i d k).updChain i f = s.advanced i (f d) k := by
  rw [updChain_eq (c := d) (by rw [chainAt_advanced hc, if_pos rfl])]
  simp [State.advanced]

theorem updJobChain_advanced (hc : s.chainAt i = some c) {m : Job} (hm : m.chain = some i) (f : Chain → Chain) :
    updJobChain m f (s.advanced i d k) = s.advanced i (f d) k := by
  rw [updJobChain, hm]
  exact updChain_advanced hc f

theorem jobStops_of_che {t : State} (h : t.che = s.che) : jobStops j t = jobStops j s := by
  simp [jobStops, jobCancelled, jobChain, State.chainAt, h]

theorem jobStops_advanced (hc : s.chainAt i = some c) (hj : j.chain = some i) (hk : k.chain = some i)
    (hcancel : d.cancel = c.cancel) (hpast : k.pastFirstWrite = j.pastFirstWrite) :
    jobStops k (s.advanced i d k) = jobStops j s := by
  simp [jobStops, jobCancelled, jobChain, hk, hj, chainAt_advanced hc, hc, hcancel, hpast]

/-- R113, R138, R139: at the end of the last block the order ends. -/
theorem blockEnded_last (hk : jobStops k (s.advanced i d k) = false) (hdue : k.due = none)
    (hlast : k.order.blocks ≤ k.blk + 1) : blockEnded (s.advanced i d k) = jobEnd .clean (s.advanced i d
      { k with blk := k.blk + 1,
               flags := { k.flags with lengthMismatch := k.flags.lengthMismatch || k.mismatch } }) := by
  have hjob : (s.advanced i d k).che.job = some k := rfl
  simp only [blockEnded, hjob]
  rw [if_neg (by simp [hk])]
  split
  next code h => simp [hdue] at h
  · rw [if_pos hlast]
    rfl

/-- R122: with a block to come the order takes it up. -/
theorem blockEnded_next (hk : jobStops k (s.advanced i d k) = false) (hdue : k.due = none)
    (hnext : k.blk + 1 < k.order.blocks) : ∃ p, blockEnded (s.advanced i d k) =
      takeUp (fun m => { m with task := .block, placement := p, tries := 0, phase := .ready })
        (s.advanced i d { k with blk := k.blk + 1 }) := by
  have hjob : (s.advanced i d k).che.job = some k := rfl
  simp only [blockEnded, hjob]
  rw [if_neg (by simp [hk])]
  split
  next code h => simp [hdue] at h
  · rw [if_neg (Nat.not_le.2 hnext)]
    exact ⟨_, rfl⟩

end advanced

/-! ## The next block -/

/-- The part goes on from `s` with the order `k`, whose chain in slot `i` stands at `d`: the order is between blocks,
or at its next one, or waits for a slot or for data. -/
structure State.Onward (s : State) (i : Nat) (d : Chain) (k : Job) (v : State) : Prop where
  frame : v = { s with act := v.act, xfer := v.xfer, che := v.che, bbf := v.bbf }
  loaded : v.act.head.loaded = s.act.head.loaded
  mech : v.che.mech = s.che.mech
  chain : ∃ st, (st = d.state ∨ st = .dataWait) ∧ v.che.table = s.che.table.set i (some { d with state := st })
  job : ∃ m, v.che.job = some m ∧ m.chain = k.chain ∧ m.order = k.order ∧ m.blk = k.blk ∧ m.tries = 0 ∧
    m.flags = k.flags ∧ (m.phase = .seek ∨ m.phase = .ready ∨ m.phase = .under ∨ m.phase = .dataWait) ∧
    (m.phase = .dataWait → k.order.kind = .read → hasFreeSlot v = false)
  queues : v.bbf.delivery = s.bbf.delivery ∧ v.bbf.records = s.bbf.records ∧ v.bbf.wants = s.bbf.wants
  slots : ∀ n, s.bbf.slots.getD n .free ≠ .free → v.bbf.slots.getD n .free = s.bbf.slots.getD n .free
  kept : k.order.kind ≠ .read → v.bbf = s.bbf

section next
variable {s : State} {i : Nat} {c d : Chain} {k : Job}

theorem State.Onward.of_parts {a : Act} {x : Option Xfer} {e : Bbf} {st : ChainState} {m : Job}
    (ha : a.head.loaded = s.act.head.loaded) (hst : st = d.state ∨ st = .dataWait)
    (hm : m.chain = k.chain ∧ m.order = k.order ∧ m.blk = k.blk ∧ m.tries = 0 ∧ m.flags = k.flags)
    (hphase : m.phase = .seek ∨ m.phase = .ready ∨ m.phase = .under ∨ m.phase = .dataWait)
    (hwait : m.phase = .dataWait → k.order.kind = .read → (e.slots.any (·.isFree)) = false)
    (hqueues : e.delivery = s.bbf.delivery ∧ e.records = s.bbf.records ∧ e.wants = s.bbf.wants)
    (hslots : ∀ n, s.bbf.slots.getD n .free ≠ .free → e.slots.getD n .free = s.bbf.slots.getD n .free)
    (hkept : k.order.kind ≠ .read → e = s.bbf) :
    s.Onward i d k (({ s with act := a, xfer := x, bbf := e } : State).advanced i { d with state := st } m) := by
  obtain ⟨hchain, horder, hblk, htries, hflags⟩ := hm
  exact ⟨rfl, ha, rfl, ⟨st, hst, rfl⟩, ⟨m, rfl, hchain, horder, hblk, htries, hflags, hphase, hwait⟩, hqueues, hslots,
    hkept⟩

/-- Where the block slots stay, an order in a phase of its own goes on. -/
theorem State.Onward.of_job {a : Act} {x : Option Xfer} {m : Job} (ha : a.head.loaded = s.act.head.loaded)
    (hm : m.chain = k.chain ∧ m.order = k.order ∧ m.blk = k.blk ∧ m.tries = 0 ∧ m.flags = k.flags)
    (hphase : m.phase = .seek ∨ m.phase = .ready ∨ m.phase = .under) :
    s.Onward i d k (({ s with act := a, xfer := x } : State).advanced i d m) :=
  .of_parts (st := d.state) (e := s.bbf) ha (.inl rfl) hm (by obtain h | h | h := hphase <;> simp [h])
    (by obtain h | h | h := hphase <;> simp [h]) ⟨rfl, rfl, rfl⟩ (fun _ _ => rfl) fun _ => rfl

/-- A transfer of the order's starts: the gate may open, and the place is the order's. -/
theorem startXfer_shape {t : State} (hk : t.che.job = some k) (kind : XferKind) (w : Nat) (b : List Byte) :
    ∃ a x m, startXfer k kind w b t =
      { t with act := a, xfer := x, che := { t.che with job := some m } } ∧ a.head = t.act.head ∧
      m = { k with phase := .under, placed := m.placed, transferred := m.transferred,
                   firstWrite := m.firstWrite } := by
  refine ⟨(startXfer k kind w b t).act, (startXfer k kind w b t).xfer, { k with
    phase := .under, placed := some { cylinder := k.target.cylinder, comb := k.target.comb, slot := w },
    transferred := some { cylinder := k.target.cylinder, comb := k.target.comb, slot := w },
    firstWrite := k.firstWrite || decide (kind = .writeSlot) }, ?_, ?_, rfl⟩ <;>
  cases kind <;> simp [startXfer, openGate, State.updAct, State.setXfer, State.updJob, State.updChe, hk]

/-- R122: a transfer starts with the slots as `e` has them. -/
theorem startXfer_onward {e : Bbf} (htries : k.tries = 0) (kind : XferKind) (w : Nat) (b : List Byte)
    (hqueues : e.delivery = s.bbf.delivery ∧ e.records = s.bbf.records ∧ e.wants = s.bbf.wants)
    (hslots : ∀ n, s.bbf.slots.getD n .free ≠ .free → e.slots.getD n .free = s.bbf.slots.getD n .free)
    (hkept : k.order.kind ≠ .read → e = s.bbf) :
    s.Onward i d k (startXfer k kind w b (({ s with bbf := e } : State).advanced i d k)) := by
  obtain ⟨a, x, m, e', ha, hm⟩ := startXfer_shape (t := ({ s with bbf := e } : State).advanced i d k) rfl kind w b
  rw [e', hm]
  exact .of_parts (st := d.state) (congrArg HeadState.loaded ha) (.inl rfl) ⟨rfl, rfl, rfl, htries, rfl⟩
    (.inr (.inr (.inl rfl))) (by simp) hqueues hslots hkept

/-- R130, R134: the chain waits for a slot or for data. -/
theorem dataWait_onward (hc : s.chainAt i = some c) (hk : k.chain = some i) (htries : k.tries = 0)
    (hfree : k.order.kind = .read → hasFreeSlot s = false) : s.Onward i d k (dataWait k (s.advanced i d k)) := by
  have hwait : dataWait k (s.advanced i d k) =
      s.advanced i { d with state := .dataWait } { k with phase := .dataWait } := by
    rw [dataWait, updJobChain_advanced hc hk]
    rfl
  rw [hwait]
  exact .of_parts (st := .dataWait) (e := s.bbf) (x := s.xfer) rfl (.inr rfl) ⟨rfl, rfl, rfl, htries, rfl⟩
    (.inr (.inr (.inr rfl))) (fun _ => hfree) ⟨rfl, rfl, rfl⟩ (fun _ _ => rfl) fun _ => rfl

theorem hasFreeSlot_of_none (h : freeSlot s = none) : hasFreeSlot s = false := by
  simpa [freeSlot, hasFreeSlot, List.findIdx?_eq_none_iff, List.any_eq_false] using h

/-- R130: a free slot taken leaves the others. -/
theorem getD_set_of_free {l : List BlockSlot} {p : Nat} (hp : l.findIdx? (·.isFree) = some p) (b : BlockSlot) (n : Nat)
    (hn : l.getD n .free ≠ .free) : (l.set p b).getD n .free = l.getD n .free := by
  obtain ⟨hlt, hfree, -⟩ := List.findIdx?_eq_some_iff_getElem.1 hp
  have hne : p ≠ n := by
    rintro rfl
    refine hn ?_
    rw [List.getD_eq_getElem?_getD, List.getElem?_eq_getElem hlt, Option.getD_some]
    revert hfree
    cases l[p] <;> simp [BlockSlot.isFree]
  simp [List.getD_eq_getElem?_getD, List.getElem?_set_ne hne]

/-- R122, R130, R134: the opening wedge of the next block starts its transfer, or the chain waits. -/
theorem openBlock_onward (hc : s.chainAt i = some c) (hk : k.chain = some i) (htries : k.tries = 0) (w : Nat) :
    s.Onward i d k (openBlock k w (s.advanced i d k)) := by
  have hchain : jobChain k (s.advanced i d k) = some d := by
    simp [jobChain, hk, chainAt_advanced hc]
  have hsame (kind : XferKind) (b : List Byte) : s.Onward i d k (startXfer k kind w b (s.advanced i d k)) :=
    startXfer_onward (e := s.bbf) htries kind w b ⟨rfl, rfl, rfl⟩ (fun _ _ => rfl) fun _ => rfl
  unfold openBlock
  rw [hchain]
  cases hkind : k.order.kind with
  | read =>
    obtain ⟨-, e⟩ | ⟨p, hfree, e⟩ | ⟨hfree, e⟩ := reserveRead_cases d.tag d.sequence (s.advanced i d k)
    · simp only [e]
      exact hsame _ _
    · simp only [e]
      exact startXfer_onward (e := { s.bbf with slots := s.bbf.slots.set p (.reserved d.tag d.sequence .read) })
        htries _ w _ ⟨rfl, rfl, rfl⟩ (getD_set_of_free hfree _) (by simp [hkind])
    · simp only [e]
      exact dataWait_onward hc hk htries fun _ => hasFreeSlot_of_none hfree
  | write =>
    simp only
    split
    · exact hsame _ _
    · exact dataWait_onward hc hk htries (by simp [hkind])
  | _ => exact hsame _ _

theorem State.Onward.of_same {m : Job} {v : State} (h : s.Onward i d m v)
    (hm : m.chain = k.chain ∧ m.order = k.order ∧ m.blk = k.blk ∧ m.flags = k.flags) : s.Onward i d k v := by
  obtain ⟨hchain, horder, hblk, hflags⟩ := hm
  obtain ⟨n, hn, h1, h2, h3, h4, h5, h6, h7⟩ := h.job
  exact ⟨h.frame, h.loaded, h.mech, h.chain, ⟨n, hn, h1.trans hchain, h2.trans horder, h3.trans hblk, h4,
    h5.trans hflags, h6, fun hp ho => h7 hp (horder ▸ ho)⟩, h.queues, h.slots, fun ho => h.kept (horder ▸ ho)⟩

theorem openWedge_block {u : State} {m : Job} {w : Nat} (hh : u.act.head = .following) (hp : u.pass = none)
    (hm : u.che.job = some m) (hphase : m.phase = .ready) (htask : m.task = .block) :
    openWedge w u = if m.placement.map (·.slot) = some w then openBlock m w u else u := by
  simp only [openWedge, hh, hp, jobOpen, hm, hphase, htask, if_true]

theorem openWedge_between {u : State} {m : Job} {w : Nat} (hp : u.pass = none) (hm : u.che.job = some m)
    (hphase : m.phase ≠ .ready) : openWedge w u = u := by
  simp [openWedge, hp, jobOpen, hm, hphase]

/-- R34, R35: without a valid position the seek waits for the recalibrating wedge. -/
theorem goTo_recalibrating {g : Target} (hh : s.act.head = .following) (hv : s.act.valid = false)
    (hk : s.che.job = some k) : goTo g s = ({ s with act := { s.act with
      target := some g, targetEnded := false, retries := 0,
      seek := some { party := .che, target := g, phase := .recalibrating } } } : State).withJob
      { k with phase := .seek } := by
  simp [goTo, seekNeeded, hv, askSeek, actSeek, hh, actTakeSeek, State.updAct, setPhase, State.updJob,
    State.updChe, hk, State.withJob]

theorem within_opening {u v : State} {w : Nat} (hi : u.inbox = []) (h : openWedge w u = v) :
    Within 1 { u with inbox := u.inbox ++ [.opening w] } v := by
  have hu : ({ u with inbox := [] } : State) = u := by rw [← hi]
  refine Within.step (m := .opening w) (rest := []) (by simp [hi]) ?_
  exact (congrArg (openWedge w) hu).trans h

/-- R77, R122: the next block is taken up, with a seek to it or at its opening wedge. -/
theorem within_nextBlock (hi : s.inbox = []) (hh : s.act.head = .following) (hp : s.pass = none)
    (hc : s.chainAt i = some c) (hk : k.chain = some i) (p : Option Placement) (w : Nat) {u : State}
    (hu : u = takeUp (fun m => { m with task := .block, placement := p, tries := 0, phase := .ready })
      (s.advanced i d k)) :
    ∃ v, Within 2 { u with inbox := u.inbox ++ [.opening w] } v ∧ s.Onward i d k v ∧ v.inbox = [] ∧ u.pass = none ∧
      ∀ m ∈ u.che.job, m.chain = some i := by
  let m : Job := { k with task := .block, placement := p, tries := 0, phase := .ready }
  have hgone (n : Job) (hn : n.chain = k.chain) : ∀ x ∈ some n, x.chain = some i := by
    rintro x hx
    obtain rfl : n = x := Option.some.inj hx
    exact hn.trans hk
  cases hv : s.act.valid with
  | false =>
    let a : Act := { s.act with target := some m.target, targetEnded := false, retries := 0,
                                seek := some { party := .che, target := m.target, phase := .recalibrating } }
    have htake : u = ({ s with act := a } : State).advanced i d { m.placing with phase := .seek } :=
      hu.trans ((takeUp_eq (s := s.advanced i d k) rfl).trans
        (goTo_recalibrating (s := (s.advanced i d k).withJob _) hh hv rfl))
    have hopen : openWedge w u = u := openWedge_between (by rw [htake]; exact hp) (by rw [htake]; rfl) (by simp)
    refine ⟨u, (within_opening (by rw [htake]; exact hi) hopen).mono (by decide), ?_, ?_, ?_, ?_⟩
    · rw [htake]
      exact .of_job rfl ⟨rfl, rfl, rfl, rfl, rfl⟩ (.inl rfl)
    · rw [htake]
      exact hi
    · rw [htake]
      exact hp
    · rw [htake]
      exact hgone _ rfl
  | true =>
    by_cases he : m.target.cylinder = s.act.cylinder ∧ m.target.comb = s.act.comb
    · let n : Job := { m.placing with phase := .ready }
      have htake : u = s.advanced i d n := hu.trans (takeUp_here (s := s.advanced i d k) hv rfl he)
      have hopen : s.Onward i d k (openWedge w u) := by
        rw [htake, openWedge_block (m := n) (by exact hh) (by exact hp) rfl rfl rfl]
        split_ifs
        · exact (openBlock_onward (k := n) hc hk rfl w).of_same ⟨rfl, rfl, rfl, rfl⟩
        · exact .of_job rfl ⟨rfl, rfl, rfl, rfl, rfl⟩ (.inr (.inl rfl))
      refine ⟨_, (within_opening (by rw [htake]; exact hi) rfl).mono (by decide), hopen, ?_, ?_, ?_⟩
      · rw [hopen.frame]
        exact hi
      · rw [htake]
        exact hp
      · rw [htake]
        exact hgone _ rfl
    · have htake : u = { (s.advanced i d k).seekBegun m.placing m.target with
          inbox := s.inbox ++ [.head .following .seeking] } :=
        hu.trans (takeUp_elsewhere (s := s.advanced i d k) hh hv rfl he)
      let v : State := (s.advanced i d k).seekBegun m.placing m.target
      have hall := within_all_unheeded (s := v) (ms := [.head .following .seeking, .opening w])
        (by simpa using ⟨unheeded_head (by simp), fun i => by rfl⟩)
      refine ⟨v, ?_, ?_, hi, ?_, ?_⟩
      · rw [htake, hi]
        exact hall.emptied hi
      · exact .of_job (by rw [hh]; rfl) ⟨rfl, rfl, rfl, rfl, rfl⟩ (.inl rfl)
      · rw [htake]
        exact hp
      · rw [htake]
        exact hgone _ rfl

/-- An order that has gone on leaves nothing more to do. -/
theorem State.Onward.rests {r v : State} (h : s.Onward i d k v) (hr : r.settled = true) (ha : r.Along s)
    (hi : v.inbox = []) (hche : s.che = r.che) (hc : r.chainAt i = some c) (hd : c.Follows d) (hk : k.chain = some i)
    (hneeds : k.order.kind = .write → neededSequences d s = []) : settleOnce v = none ∧ v.rest = beginFrame v := by
  obtain ⟨st, hst, htable⟩ := h.chain
  obtain ⟨m, hm, hchain, horder, -, -, -, hphase, hwait⟩ := h.job
  have hf := h.frame
  have hat (n : Nat) : v.chainAt n = if n = i then some { d with state := st } else r.chainAt n :=
    chainAt_set (htable.trans (by rw [hche])) (chainAt_lt hc) n
  have halong : r.Along v := by
    refine ⟨hi, h.mech.trans ha.mech, ?_, ?_, ?_, ?_, ?_, ?_, ?_, ?_, ?_, h.loaded.trans ha.loaded⟩ <;> rw [hf]
    · exact ha.pass
    · exact ha.pass0
    · exact ha.pass1
    · exact ha.rcv
    · exact ha.pwr
    · exact ha.spc
    · exact ha.lnk
    · exact ha.pins
    · exact ha.choice
  have hfollow : r.ChainsFollow v := by
    intro n
    by_cases hn : n = i
    · subst hn
      refine .inr ⟨c, { d with state := st }, hc, by rw [hat, if_pos rfl], hd.1, ?_⟩
      obtain rfl | rfl := hst
      · exact hd.2
      · exact .inr rfl
    · exact .inl (by rw [hat, if_neg hn])
  refine ⟨halong.rests hr hfollow hm (by obtain h | h | h | h := hphase <;> simp [h]) ?_ ?_, halong.rest_eq hr⟩
  · simp only [readWaits, hm]
    rw [if_neg]
    rintro ⟨h1, h2, h3⟩
    rw [hwait h1 (horder ▸ h2)] at h3
    exact absurd h3 (by decide)
  · simp only [writeNeeds, hm]
    split_ifs with hcond
    · have hkind : k.order.kind = .write := horder ▸ hcond.1
      have hneed : neededSequences { d with state := st } v = [] := by
        rw [← hneeds hkind]
        simp only [neededSequences, Chain.run, h.kept (by simp [hkind])]
      simp [jobChain, hchain, hk, hat, hneed]
    · rfl

end next

/-! ## The closing wedge and what follows -/

/-- With no reply, want or slot more than a part at rest had, nothing is begun on the lane. -/
theorem beginFrame_of_alike {s u : State} (h : s.settled = true) (hlnk : u.lnk = s.lnk) (hpins : u.pins = s.pins)
    (hntu : u.ntu = s.ntu) (hdelivery : u.bbf.delivery = s.bbf.delivery) (hwants : u.bbf.wants = s.bbf.wants) :
    beginFrame u = u := by
  refine beginFrame_of_closed ?_
  have hnext : (nextFrame u).isSome = (nextFrame s).isSome := by
    simp only [nextFrame, hlnk, hntu, hdelivery, hwants]
    cases s.lnk.replies <;> cases s.bbf.wants <;> cases s.bbf.delivery <;> rfl
  rw [← settled_lane h, hnext]
  simp [laneOpen, hlnk, hpins]

/-- The frame begun at the end of a step changes only what the lane marks. -/
theorem framed_onward {C v B : State} {e : Bbf} {o : Option OutFrame}
    (hv : v = { C with act := v.act, xfer := v.xfer, che := v.che, bbf := v.bbf })
    (hB : B = { v with bbf := e, lnk := { v.lnk with out := o } }) :
    B = { C with act := B.act, xfer := B.xfer, che := B.che, bbf := B.bbf,
                 lnk := { C.lnk with out := B.lnk.out } } := by
  subst hB
  generalize v.act = a, v.xfer = y, v.che = w, v.bbf = g at hv
  subst hv
  rfl

/-- Where a slot waits to be sent, a frame begun marks no notice. -/
theorem beginFrame_delivering {s : State} (h : s.bbf.delivery ≠ []) : beginFrame s = { s with
    bbf := { s.bbf with wants := (beginFrame s).bbf.wants, sendingSlot := (beginFrame s).bbf.sendingSlot },
    lnk := { s.lnk with out := (beginFrame s).lnk.out } } := by
  obtain ⟨f, -, hf, e⟩ | ⟨-, e⟩ := beginFrame_cases s <;> rw [e]
  obtain ⟨i, l, hl⟩ := List.exists_cons_of_ne_nil h
  have hcarries : f.carries ≠ .notice := by
    unfold nextFrame at hf
    rw [hl] at hf
    split at hf
    · cases hf; simp
    · split at hf <;> cases hf <;> simp
  cases hk : f.carries with
  | notice => exact absurd hk hcarries
  | reply => rfl
  | want => rfl
  | slot => rfl

section closing
variable {s C : State} {x : Xfer} {j k : Job} {i cyl : Nat} {err : Int} {out : ReadOutcome} {data : List Byte}
  {c d : Chain}

/-- A closing wedge after which the order goes on to its next block. -/
theorem closing_onward (hr : s.Ready) (hh : s.act.head = .following) (hseek : s.act.seek = none)
    (hp : s.pass = none) (hx : s.xfer = some x) (ha : s.Along C) (hact : C.act = s.act.boundary cyl err)
    (hpass : C.pass = none) (hche : C.che = s.che) (hc : s.chainAt i = some c) (hd : c.Follows d)
    (hclose : jobClose x (some err) out data { s with act := s.act.boundary cyl err, xfer := none } =
      blockEnded (C.advanced i d k))
    (hstops : jobStops k (C.advanced i d k) = false) (hdue : k.due = none) (hnext : k.blk + 1 < k.order.blocks)
    (hk : k.chain = some i) (hneeds : k.order.kind = .write → neededSequences d C = []) :
    ∃ v, exec (.wedgeReport ((x.place.slot + 1) % 32) cyl err out data) s = .next (beginFrame v) ∧
      C.Onward i d { k with blk := k.blk + 1 } v := by
  have hcC : C.chainAt i = some c := by rw [State.chainAt, hche]; exact hc
  obtain ⟨p, hnextBlock⟩ := blockEnded_next hstops hdue hnext
  obtain ⟨v, hv, hon, hvi, hup, huj⟩ := within_nextBlock (k := { k with blk := k.blk + 1 }) ha.inbox
    (by rw [hact]; exact hh) hpass hcC hk p ((x.place.slot + 1) % 32) rfl
  have hw := within_closing_job (settled_inbox (s := s) hr.settled) hh hseek hp hx cyl err out data rfl
    (hclose.trans hnextBlock) hup (fun m hm => .inl (by simp [huj m hm]))
  obtain ⟨hrests, hrest⟩ := hon.rests hr.settled ha hvi hche hc hd hk hneeds
  exact ⟨v, (run_of_powered hr.powered _).trans (hrest ▸ (hw.trans hv).conclude hrests (by decide)), hon⟩

/-- A closing wedge at which the last block of the last order of the only chain ends. -/
theorem closing_last {h : Chain} (hr : s.Ready) (hh : s.act.head = .following) (hseek : s.act.seek = none)
    (hp : s.pass = none) (hx : s.xfer = some x) (ha : s.Along C) (hche : C.che = s.che) (hntu : C.ntu = s.ntu)
    (hpass : C.pass = none)
    (hclose : jobClose x (some err) out data { s with act := s.act.boundary cyl err, xfer := none } =
      blockEnded (C.advanced i d k))
    (hstops : jobStops k (C.advanced i d k) = false) (hdue : k.due = none) (hlast : k.order.blocks = k.blk + 1)
    (hphase : k.phase ≠ .ending) (hl : s.LastOrder i h j) (hk : k.chain = j.chain ∧ k.order = j.order)
    (hd : d.order = h.order ∧ d.cancel = h.cancel) {b : Completion}
    (hb : Job.completes { k with
      blk := k.blk + 1,
      flags := { k.flags with lengthMismatch := k.flags.lengthMismatch || k.mismatch } } d .clean = b) :
    ∃ t, exec (.wedgeReport ((x.place.slot + 1) % 32) cyl err out data) s = .next t ∧ State.ChainOver C b t := by
  subst hb
  obtain ⟨hchain, horder⟩ := hk
  let m : Job := { k with blk := k.blk + 1,
                          flags := { k.flags with lengthMismatch := k.flags.lengthMismatch || k.mismatch } }
  let u : State := C.advanced i d { m with phase := .ending }
  have hend : blockEnded (C.advanced i d k) = { u with inbox := [.orderEnd .clean] } := by
    rw [blockEnded_last hstops hdue hlast.le, jobEnd_eq (j := m) rfl (by exact hphase),
      show (C.advanced i d m).inbox = [] from ha.inbox]
    rfl
  have hat : u.AtEnd i d { m with phase := .ending } :=
    ⟨rfl, hchain.trans hl.chain, chains_of_advanced hl.only (by rw [← hche]; rfl), hd.1.trans (horder ▸ hl.order),
      horder ▸ hl.last, hd.2.trans hl.cancel, hpass, ha.pass0 ▸ hl.pass0, ha.pass1 ▸ hl.pass1, ha.rcv ▸ hl.stage,
      ha.pwr ▸ hl.progress, ha.lnk ▸ hl.none_waiting, hntu ▸ hl.place⟩
  have hw := within_closing_job (settled_inbox (s := s) hr.settled) hh hseek hp hx cyl err out data rfl
    (hclose.trans hend) hpass (fun n hn => by
      obtain rfl : _ = n := Option.some.inj hn
      exact .inl (by simp [m, hchain, hl.chain]))
  have hlit : u.rcv.lamp = lampOf u := by
    have : lampOf u = lampOf s := by simp [lampOf, u, State.advanced, ha.rcv, ha.spc]
    rw [this, show u.rcv = s.rcv from ha.rcv, settled_lamp hr.settled]
  obtain ⟨t, ht, hover⟩ := conclude_ended (u := u) hw hat ha.inbox hlit (by decide)
  exact ⟨t, (run_of_powered hr.powered _).trans ht, hover⟩

end closing

/-! ## A block read, a block written -/

section block
variable {s : State} {x : Xfer} {j : Job} {i b : Nat} {c : Chain} {p : Placement} {out final : ReadOutcome}
  {data : List Byte} {err : Int}

/-- R125: the fault location of a run, once a block has its final outcome. -/
def Chain.faultAfter (c : Chain) (j : Job) (final : ReadOutcome) : Option FaultLocation :=
  if final = .uncorrectable ∧ c.fault = none then placementLocation j else c.fault

/-- R128: the chain once a block of the order is dealt with. -/
def Chain.after (c : Chain) (j : Job) (final : ReadOutcome) : Chain :=
  { c with transferred := c.transferred + j.order.blockLength j.blk, sequence := c.sequence + 1,
           fault := c.faultAfter j final }

/-- R130: the slots once a read block has its final outcome. -/
def Bbf.filled (e : Bbf) (b : Nat) (c : Chain) (j : Job) (final : ReadOutcome) (data : List Byte) : Bbf :=
  { e with
    slots := e.slots.set b (.filledRead c.tag c.index c.sequence (j.order.blockLength j.blk)
      (decide (final = .uncorrectable)) (data.take (j.order.blockLength j.blk)))
    delivery := e.delivery ++ [b] }

theorem readDone_eq (hj : s.che.job = some j) (hchain : j.chain = some i) (hc : s.chainAt i = some c)
    (hdata : data.length = 512) {e : Bbf}
    (he : j.order.kind = .read ∧ s.bbf.slots.findIdx? (BlockSlot.readFor c.tag c.sequence) = some b ∧
        e = s.bbf.filled b c j final data ∨
      j.order.kind = .verify ∧ e = s.bbf) :
    readDone j final data s = blockEnded
      (({ s.updVol j.vol (VolCtx.report final j.tries) with bbf := e } : State).advanced i (c.after j final)
        { j with flags := j.flags.raise final }) := by
  let k : Job := { j with flags := j.flags.raise final }
  let t : State := s.updVol j.vol (VolCtx.report final j.tries)
  have hche : t.che = s.che := by simp [t]
  have hbbf : t.bbf = s.bbf := by simp [t]
  have hct : t.chainAt i = some c := by rw [State.chainAt, hche]; exact hc
  have hraise : t.updJob (fun m => { m with flags := m.flags.raise final }) = t.withJob k := by
    simp [State.updJob, State.updChe, hche, hj, State.withJob, k]
  let d : Chain := { c with fault := c.faultAfter j final }
  have hfault : updJobChain j (fun c =>
      { c with fault :=
          if decide (final = .uncorrectable) = true ∧ c.fault = none then placementLocation j else c.fault })
      (t.withJob k) = t.advanced i d k := by
    rw [updJobChain, hchain]
    simp only
    rw [updChain_eq (s := t.withJob k) (c := c) hct]
    simp [State.advanced, State.withJob, d, Chain.faultAfter]
  have hcount (e : Bbf) : countBlock j (({ t with bbf := e } : State).advanced i d k) =
      ({ t with bbf := e } : State).advanced i (c.after j final) k :=
    updJobChain_advanced (s := { t with bbf := e }) hct hchain _
  have hjc : jobChain j s = some c := by simp [jobChain, hchain, hc]
  simp only [readDone, hjc]
  rw [hraise, hfault]
  obtain ⟨hkind, hfind, rfl⟩ | ⟨hkind, rfl⟩ := he
  · rw [if_pos hkind, ← hcount]
    congr 2
    have hfind' : (t.advanced i d k).bbf.slots.findIdx? (BlockSlot.readFor c.tag c.sequence) = some b := by
      rw [← hfind, ← hbbf]
      rfl
    rw [fillRead, hfind']
    simp [State.setBlockSlot, State.updBbf, pad512_of_length hdata, Bbf.filled, ← hbbf, State.advanced]
  · rw [if_neg (by simp [hkind]), ← hcount, ← hbbf]

/-- R124, R125, R130: the closing wedge that gives a read block its final outcome. -/
theorem jobClose_readBlock {cyl : Nat} (hj : s.che.job = some j) (htask : j.task = .block) (hkind : x.kind = .read)
    (hseen : x.seen ≠ .disagrees) (hstops : jobStops j s = false)
    (hfinal : x.seen = .agrees ∧ out ≠ .uncorrectable ∧ x.openError.natAbs ≤ 20 ∧ err.natAbs ≤ 20 ∧ final = out ∨
      j.tries = 3 ∧ (x.seen ≠ .agrees ∨ out = .uncorrectable ∨ 20 < x.openError.natAbs ∨ 20 < err.natAbs) ∧
        final = .uncorrectable) :
    jobClose x (some err) out data { s with act := s.act.boundary cyl err, xfer := none } =
      readDone j final data { s with act := s.act.boundary cyl err, xfer := none } := by
  have hclose : jobClose x (some err) out data { s with act := s.act.boundary cyl err, xfer := none } =
      readClosed j x.seen (x.offTrack (some err)) out data
        { s with act := s.act.boundary cyl err, xfer := none } := by
    simp [jobClose, hj, htask, hkind]
  rw [hclose]
  have hs : jobStops j { s with act := s.act.boundary cyl err, xfer := none } = false := hstops
  obtain ⟨hagrees, hout, ho, he, rfl⟩ | ⟨htries, hbad, rfl⟩ := hfinal
  · simp [readClosed, offTrack_eq_false ho he, hagrees, hout, htask]
  · have hnot : ¬ (x.offTrack (some err) = false ∧
        (if x.seen = .notRead ∨ x.seen = .unreadable then .uncorrectable else out) ≠ .uncorrectable) := by
      rintro ⟨hoff, hout⟩
      simp only [Xfer.offTrack, withinError, Option.map_some, Option.getD_some, Bool.not_eq_false',
        Bool.and_eq_true, decide_eq_true_eq] at hoff
      split_ifs at hout with hunread
      · exact hout rfl
      · have hagrees : x.seen = .agrees := by
          cases hx : x.seen <;> simp_all
        obtain h | h | h | h := hbad
        · exact h hagrees
        · exact hout h
        · omega
        · omega
    simp only [readClosed, htask]
    rw [if_neg hseen, if_neg hnot, if_neg (by simp [hs]), if_neg (by omega)]
    simp

/-- R126, R128: the closing wedge that keeps a written block. -/
theorem jobClose_writtenBlock {cyl : Nat} (hj : s.che.job = some j) (htask : j.task = .block)
    (hkind : x.kind = .writeData) (hkept : x.kept (some err) = true) (hseen : x.seen ≠ .disagrees)
    (hchain : j.chain = some i) (hc : s.chainAt i = some c)
    (hfind : s.bbf.slots.findIdx? (BlockSlot.carries c.tag c.sequence) = some b) :
    jobClose x (some err) out data { s with act := s.act.boundary cyl err, xfer := none } =
      blockEnded (({ s with
        act := s.act.boundary cyl err
        xfer := none
        bbf := { s.bbf with slots := s.bbf.slots.set b .free } } : State).advanced i (c.after j .clean) j) := by
  have hjc : jobChain j { s with act := s.act.boundary cyl err, xfer := none } = some c := by
    rw [jobChain, hchain]
    exact hc
  have hclose : jobClose x (some err) out data { s with act := s.act.boundary cyl err, xfer := none } =
      blockEnded (countBlock j (freeWritten c.tag c.sequence
        { s with act := s.act.boundary cyl err, xfer := none })) := by
    simp [jobClose, hj, htask, hkind, writeClosed, hseen, hkept, hjc]
  rw [hclose, freeWritten]
  simp only [hfind, countBlock, updJobChain, hchain]
  rw [updChain_eq (c := c) (by exact hc)]
  simp [State.advanced, State.setBlockSlot, State.updBbf, Chain.after, Chain.faultAfter, hj]

end block

/-! ## The obligation -/

/-- R110, R111, R138, R139: the completion of a run whose last block is dealt with. -/
theorem completes_transfer {k : Job} (hk : k.order.kind.transfer = true) (d : Chain) : k.completes d .clean =
    let flags := d.flags.join k.flags
    { tag := d.tag, flags := flags, reached := d.index,
      code := if flags.dataCheck then .dataCheck else if flags.lengthMismatch then .lengthMismatch else .clean,
      residual := k.order.count - d.transferred, fault := if flags.dataCheck then d.fault else none } := by
  cases hd : (d.flags.join k.flags).dataCheck <;> cases hm : (d.flags.join k.flags).lengthMismatch <;>
    simp [Job.completes, Flags.endCode, endLocation, EndCode.hasLocation, Order.residual, hk, hd, hm]

/-- R132: with data held or awaited for every block to come, a run needs no more. -/
theorem neededSequences_freed {s : State} {c : Chain} {b : Nat} (h : ∀ q, c.sequence ≤ q → q < runBlocks c.run →
    ∃ n, n ≠ b ∧ BlockSlot.carries c.tag q (s.bbf.slots.getD n .free) = true) {u : State}
    (hu : u.bbf.slots = s.bbf.slots.set b .free) : neededSequences c u = [] := by
  simp only [neededSequences, List.filter_eq_nil_iff, Bool.not_eq_true', Bool.not_eq_false]
  intro q hq
  obtain ⟨m, hm, rfl⟩ := List.getElem_of_mem hq
  rw [List.getElem_drop, List.getElem_range]
  rw [List.length_drop, List.length_range] at hm
  obtain ⟨n, hn, hcarries⟩ := h (c.sequence + m) (by omega) (by omega)
  have hlt : n < s.bbf.slots.length := by
    by_contra hge
    simp [List.getD_eq_getElem?_getD, List.getElem?_eq_none (Nat.le_of_not_lt hge), BlockSlot.carries] at hcarries
  refine List.any_eq_true.2 ⟨s.bbf.slots[n], ?_, ?_⟩
  · rw [hu]
    exact List.mem_iff_getElem.2 ⟨n, by simpa using hlt, by simp [Ne.symm hn]⟩
  · rwa [List.getD_eq_getElem?_getD, List.getElem?_eq_getElem hlt, Option.getD_some] at hcarries

theorem closed_along {s : State} {cyl : Nat} {err : Int} (hi : s.inbox = []) (v : Vol) {f : VolCtx → VolCtx}
    (hf : ∀ c, (f c).pass = c.pass) (e : Bbf) : s.Along { s.closed cyl err v f with bbf := e } := by
  cases v
  · exact ⟨hi, rfl, rfl, hf _, rfl, rfl, rfl, rfl, rfl, rfl, rfl, rfl⟩
  · exact ⟨hi, rfl, rfl, rfl, hf _, rfl, rfl, rfl, rfl, rfl, rfl, rfl⟩

/-- R124, R126: a block whose closing wedge goes unread is tried again. -/
theorem closingUnread_again {s : State} {x : Xfer} {j : Job} {data : List Byte} (hx : s.xfer = some x)
    (hp : s.pass = none) (hj : s.che.job = some j) (htask : j.task = .block) (hseen : x.seen ≠ .disagrees)
    (hstops : jobStops j s = false)
    (h : x.kind = .read ∧ j.tries < 3 ∨ x.kind = .writeData ∧ j.due = none ∧ j.tries < 2) :
    closingUnread data s = ({ s with act := { s.act with gate := false }, xfer := none } : State).withJob
      { j with phase := .ready, tries := j.tries + 1 } := by
  let u : State := { s with act := { s.act with gate := false }, xfer := none }
  have hclose : closingUnread data s = jobClose x none .uncorrectable data u := by
    simp [closingUnread, hx, closeGate, State.updAct, closeXfer, hp, State.setXfer, u]
  have hs : jobStops j u = false := hstops
  have hagain : setPhase .ready (u.updJob fun j => { j with tries := j.tries + 1 }) =
      u.withJob { j with phase := .ready, tries := j.tries + 1 } := by
    simp [setPhase, State.updJob, State.updChe, u, hj, State.withJob]
  rw [hclose, ← hagain]
  obtain ⟨hkind, htries⟩ | ⟨hkind, hdue, htries⟩ := h
  · have hread : jobClose x none .uncorrectable data u = readClosed j x.seen true .uncorrectable data u := by
      simp [jobClose, u, hj, htask, hkind, Xfer.offTrack]
    rw [hread, readClosed, if_neg hseen, if_neg (by simp), if_neg (by simp [hs]), if_pos htries]
  · have hwrite : jobClose x none .uncorrectable data u = writeClosed j x.seen false u := by
      simp [jobClose, u, hj, htask, hkind, Xfer.kept]
    simp only [hwrite, writeClosed, if_neg hseen, hdue]
    rw [if_neg (by decide), if_neg (by omega), if_neg (by simp [hs])]

/-- Settles O34: an unread closing wedge by `closingUnread_again`; a block that ends by `closing_onward` where
one is to come, and by `closing_last` at the last. -/
theorem blockCloses : Obligations.BlockCloses := by
  intro s data hr hp x hx j hj htask hseen hstops
  have hi := settled_inbox (s := s) hr.settled
  have hagain (h : x.kind = .read ∧ j.tries < 3 ∨ x.kind = .writeData ∧ j.due = none ∧ j.tries < 2) :
      exec (.closingWedgeUnread data) s = .next
        { s with xfer := none, act := { s.act with gate := false },
                 che := { s.che with job := some { j with phase := .ready, tries := j.tries + 1 } } } := by
    have hsettled := settled_of_work hr.settled (a := { s.act with gate := false }) (x := none) (p := s.pass)
      (k := { j with phase := .ready, tries := j.tries + 1 }) rfl rfl hj ⟨rfl, rfl, rfl⟩ (by simp)
    exact run_settled hr.powered hsettled (closingUnread_again hx hp hj htask hseen hstops h)
  refine ⟨fun hkind htries => hagain (.inl ⟨hkind, htries⟩),
    fun hkind hdue htries => hagain (.inr ⟨hkind, hdue, htries⟩), ?_⟩
  intro cyl err out final i b c p hh hseek hchain hc hdue hplace hphase hdata length report read kept lost fault flags
    filled freed closed goesOn ends
  have hlength : j.order.blockLength j.blk = length := blockLength_eq ..
  have hfault : c.faultAfter j final = fault := by simp [Chain.faultAfter, placementLocation, hplace, fault]
  have hafter : c.after j final = { c with
      transferred := c.transferred + length, sequence := c.sequence + 1, fault := fault } := by
    rw [Chain.after, hlength, hfault]
  let k : Job := { j with flags := flags }
  have hche (e : Bbf) : (closed e).che = s.che := by simp [closed]
  have hcC (e : Bbf) : (closed e).chainAt i = some c := by rw [State.chainAt, hche]; exact hc
  have hstopsk (e : Bbf) : jobStops k ((closed e).advanced i (c.after j final) k) = false :=
    (jobStops_advanced (d := c.after j final) (k := k) (j := j) (hcC e) hchain hchain rfl rfl).trans
      ((jobStops_of_che (hche e)).trans hstops)
  have halong (e : Bbf) : s.Along (closed e) := closed_along hi j.vol (by intro v; split_ifs <;> rfl) e
  have hpass (e : Bbf) : (closed e).pass = none := by simpa [closed] using hp
  have hlnk (e : Bbf) : (closed e).lnk = s.lnk ∧ (closed e).pins = s.pins ∧ (closed e).ntu = s.ntu := by simp [closed]
  have hgoes (e : Bbf) (lane : Bool) (hclose : jobClose x (some err) out data
        { s with act := s.act.boundary cyl err, xfer := none } =
        blockEnded ((closed e).advanced i (c.after j final) k))
      (hnext : j.blk + 1 < j.order.blocks)
      (hneeds : j.order.kind = .write → neededSequences (c.after j final) (closed e) = [])
      (hlane : if lane then e.delivery ≠ [] else
        j.order.kind ≠ .read ∧ e.delivery = s.bbf.delivery ∧ e.wants = s.bbf.wants) : goesOn e lane := by
    obtain ⟨v, hv, hon⟩ := closing_onward (d := c.after j final) (k := k) hr hh hseek hp hx (halong e) rfl
      (hpass e) (hche e) hc
      ⟨rfl, .inl rfl⟩ hclose (hstopsk e) hdue hnext hchain hneeds
    have hframe : beginFrame v = { v with
        bbf := { v.bbf with wants := (beginFrame v).bbf.wants, sendingSlot := (beginFrame v).bbf.sendingSlot },
        lnk := { v.lnk with out := (beginFrame v).lnk.out } } ∧
        (lane = false → (beginFrame v).bbf = e ∧ (beginFrame v).lnk = s.lnk) := by
      have hvf := hon.frame
      obtain ⟨hdelivery, -, hwants⟩ := hon.queues
      cases lane with
      | true => exact ⟨beginFrame_delivering (by rw [hdelivery]; exact hlane), by simp⟩
      | false =>
        obtain ⟨hkind, hde, hwe⟩ := hlane
        have hbbf : v.bbf = e := hon.kept hkind
        have hsame : beginFrame v = v := by
          rw [hvf]
          exact beginFrame_of_alike hr.settled (hlnk e).1 (hlnk e).2.1 (hlnk e).2.2
            (hdelivery.trans hde) (hwants.trans hwe)
        rw [hsame]
        exact ⟨rfl, fun _ => ⟨hbbf, by rw [hvf]; exact (hlnk e).1⟩⟩
    obtain ⟨st, hst, htable⟩ := hon.chain
    obtain ⟨m, hm, -, horder, hblk, htries, hflags, -, -⟩ := hon.job
    obtain ⟨hdelivery, hrecords, -⟩ := hon.queues
    refine ⟨_, hv, hframe.2, ?_, ?_, ⟨m, ?_, horder, hblk, htries, hflags⟩, ?_, ?_, ?_⟩
    · exact (hlnk e).1 ▸ framed_onward hon.frame hframe.1
    · have hat : v.chainAt i = some { c.after j final with state := st } := by
        rw [chainAt_set (htable.trans (by rw [hche])) (chainAt_lt hc), if_pos rfl]
      rw [hframe.1]
      change v.chainAt i = some { c with
        transferred := _, sequence := _, fault := _, state := ((v.chainAt i).map (·.state)).getD c.state }
      rw [hat, hafter]
      rfl
    · rw [hframe.1]
      exact hm
    · rw [hframe.1]
      exact hdelivery
    · rw [hframe.1]
      exact hrecords
    · rw [hframe.1]
      exact hon.slots
  have hends (e : Bbf) (hclose : jobClose x (some err) out data
        { s with act := s.act.boundary cyl err, xfer := none } =
        blockEnded ((closed e).advanced i (c.after j final) k))
      (hlast : j.order.blocks = j.blk + 1) (hl : s.LastOrder i c j) (htransfer : j.order.kind.transfer = true) :
      ends e := by
    refine closing_last (d := c.after j final) (k := k) hr hh hseek hp hx (halong e) (hche e)
      (hlnk e).2.2 (hpass e) hclose (hstopsk e) hdue
      hlast (by simp [k, hphase]) hl ⟨rfl, rfl⟩ ⟨rfl, rfl⟩ ?_
    rw [hafter]
    rw [completes_transfer (by exact htransfer)]
    simp [Job.mismatch, hl.last.1, k]
  have hcounted (hkind : x.kind = .read) (e : Bbf) : ({ ({ s with act := s.act.boundary cyl err, xfer := none } :
      State).updVol j.vol (VolCtx.report final j.tries) with bbf := e } : State) = closed e := by
    rw [← closed_eq]
    refine congrArg (fun u : State => { u with bbf := e }) (closed_congr ?_)
    simp [hkind, VolCtx.report, saturate_eq_min]
  have hread' (hread : read) {e : Bbf}
      (he : j.order.kind = .read ∧ s.bbf.slots.findIdx? (BlockSlot.readFor c.tag c.sequence) = some b ∧
          e = s.bbf.filled b c j final data ∨ j.order.kind = .verify ∧ e = s.bbf) :
      jobClose x (some err) out data { s with act := s.act.boundary cyl err, xfer := none } =
        blockEnded ((closed e).advanced i (c.after j final) k) := by
    rw [← hcounted hread.1]
    exact (jobClose_readBlock (cyl := cyl) hj htask hread.1 hseen hstops hread.2).trans
      (readDone_eq (s := { s with act := s.act.boundary cyl err, xfer := none }) hj hchain hc hdata he)
  have hfilled : filled = s.bbf.filled b c j final data := by rw [Bbf.filled, hlength]
  refine ⟨fun hkind hread => ?_, fun hkind hread hfind => ?_, fun hkind hkept hfind => ?_⟩
  · have hclose := hread' hread (.inr ⟨hkind, rfl⟩)
    exact ⟨fun hnext => hgoes s.bbf false hclose hnext (by simp [hkind]) ⟨by simp [hkind], rfl, rfl⟩,
      fun hlast hl => hends s.bbf hclose hlast hl (by simp [hkind, OrderKind.transfer])⟩
  · have hclose := hread' hread (.inl ⟨hkind, hfind, hfilled⟩)
    exact ⟨fun hnext => hgoes filled true hclose hnext (by simp [hkind]) (by simp [filled]),
      fun hlast hl => hends filled hclose hlast hl (by simp [hkind, OrderKind.transfer])⟩
  · obtain ⟨hwrite, hagrees, hgated, ho, he, hfinal⟩ := hkept
    have hclose := jobClose_writtenBlock (x := x) (out := out) (data := data) (err := err) (cyl := cyl) hj htask hwrite
      (by simp [Xfer.kept, hgated, withinError, ho, he, hagrees]) hseen hchain hc hfind
    have hsame : ({ s with act := s.act.boundary cyl err, xfer := none, bbf := freed } : State) = closed freed := by
      have hid : s.updVol j.vol (fun v => if x.kind = .writeData then v else { v with
          corrected := if final = .corrected then min 65535 (v.corrected + 1) else v.corrected,
          rereads := min 65535 (v.rereads + j.tries),
          dataChecks := if final = .uncorrectable then min 65535 (v.dataChecks + 1) else v.dataChecks }) = s := by
        rw [updVol_congr (g := id) (by rw [if_pos hwrite]; rfl)]
        cases j.vol <;> rfl
      simp only [closed, hid]
    have hk : k = j := by simp [k, flags, lost, hfinal]
    rw [hsame, ← hfinal, ← hk] at hclose
    refine ⟨fun hnext hcarried => hgoes freed false (by rw [hk] at hclose ⊢; exact hclose) hnext (fun _ => ?_)
      ⟨by simp [hkind], rfl, rfl⟩, fun hlast hl => hends freed (by rw [hk] at hclose ⊢; exact hclose) hlast hl
        (by simp [hkind, OrderKind.transfer])⟩
    exact neededSequences_freed (c := c.after j final) (fun q h1 h2 => hcarried q h1 h2) rfl

end Sys2Proof.Machine
end

section
/-! PROOF. A whole frame taken by a listening part (R184 to R186), and a chain of one order accepted (R100, R101). -/

namespace Sys2Proof.Machine

/-! ## Assembly (R184) -/

/-- R184: the payload of a frame, byte by byte. -/
theorem lnkBytes_payload (bytes rest : List Byte) {s : State} (hstage : s.lnk.stage = .payload) (hne : bytes ≠ [])
    (hlen : s.lnk.got + bytes.length = s.lnk.length) (hmax : s.lnk.length ≤ 640) :
    lnkBytes (bytes ++ rest) s = lnkBytes rest { s with lnk := { s.lnk with
      stage := .check, sum := bytes.foldl (· + ·) s.lnk.sum, got := s.lnk.length,
      payload := s.lnk.payload ++ bytes } } := by
  induction bytes generalizing s with
  | nil => contradiction
  | cons b bs ih =>
    rw [List.length_cons] at hlen
    have hgot : s.lnk.got < 640 := by omega
    rw [List.cons_append, lnkBytes]
    by_cases hbs : bs = []
    · subst hbs
      have hall : s.lnk.got + 1 = s.lnk.length := by simpa using hlen
      simp [lnkByte, hstage, State.updLnk, hgot, hall]
    · have hmore : ¬ s.lnk.length ≤ s.lnk.got + 1 := by
        have := List.length_pos_iff.2 hbs
        omega
      have hbyte : lnkByte b s = { s with lnk := { s.lnk with
          sum := s.lnk.sum + b, got := s.lnk.got + 1, payload := s.lnk.payload ++ [b] } } := by
        simp [lnkByte, hstage, State.updLnk, hgot, hmore]
      rw [hbyte, ih (by exact hstage) hbs (by simp; omega) (by exact hmax)]
      simp

/-- R184 to R186: a frame sent to a listening part is taken whole, its bytes summing to 0. -/
theorem lnkReceive_frame {s : State} (h : s.Listening) (kind tag : Byte) {payload : List Byte} (hne : payload ≠ [])
    (hlen : payload.length ≤ 640) : lnkReceive (frameBytes kind tag payload) s =
      takeFrame 0 kind tag payload.length payload (s.updLnk Lnk.clear) := by
  have hpos := List.length_pos_iff.2 hne
  have hlead : lnkReceive (frameBytes kind tag payload) s = lnkBytes (frameBytes kind tag payload) s := by
    simp [lnkReceive, h.none_waiting, leadWithheld, h.lane, h.room]
  have hnumber : 256 * (payload.length / 256 % 256) + payload.length % 256 = payload.length := by omega
  let start : Byte := 0xC3#8 + kind + tag + BitVec.ofNat 8 (payload.length / 256) + BitVec.ofNat 8 payload.length
  have hheader : lnkBytes (frameBytes kind tag payload) s =
      lnkBytes (payload ++ [0 - payload.foldl (· + ·) start]) { s with lnk := { s.lnk with
        stage := .payload, sum := start, kind := kind, tag := tag, length := payload.length, got := 0,
        payload := [] } } := by
    simp [frameBytes, be16, lnkBytes, lnkByte, h.between, State.updLnk, Lnk.clear, hnumber, hne, start]
  rw [hlead, hheader, lnkBytes_payload payload _ rfl hne (by simp) hlen]
  simp [lnkBytes, lnkByte, State.updLnk, Lnk.clear]

/-! ## A chain of one order, accepted (R100, R101) -/

/-- The chain of one order, as it is accepted. -/
def State.soleChain (s : State) (tag : Byte) (o : Order) (st : ChainState) : Chain :=
  { tag := tag.toNat, number := s.che.counter, orders := [o], index := 0, state := st, transferred := 0,
    sequence := 0, flags := Flags.empty, cancel := false, progress := none, fault := none, completion := none }

/-- R101: CHE's record once that chain is in the table. -/
def State.taken (s : State) (tag : Byte) (o : Order) (st : ChainState) (mech : Holder) (job : Option Job) : Che :=
  { table := s.che.table.set 0 (some (s.soleChain tag o st)), counter := (s.che.counter + 1) % 65536, mech := mech,
    job := job }

/-- R101: the reply to a chain that is accepted. -/
def acceptedReply (tag : Byte) : Reply := { kind := 0x01#8, tag := tag, reason := none, body := [] }

/-- The part once the frame of a chain of one order has been taken and answered. -/
def State.inHand (s : State) (tag : Byte) (o : Order) (st : ChainState) (mech : Holder) (job : Option Job) : State :=
  { s with
    che := s.taken tag o st mech job, pwr := { s.pwr with idle := 0 },
    lnk := { s.lnk.clear with replies := s.lnk.replies ++ [acceptedReply tag] } }

section accept
variable {s : State} {tag : Byte} {payload : List Byte} {o : Order}

/-- R100, R101: with no chain in the table, an acceptable chain takes its first slot. -/
theorem table_of_no_chain (h : s.chains = []) (hfull : s.che.table.all (·.isSome) = false) :
    ∃ l, s.che.table = none :: l ∧ ∀ n, s.chainAt n = none := by
  have hnone (n : Nat) : s.chainAt n = none := by
    cases hc : s.chainAt n with
    | none => rfl
    | some c => simpa [h] using mem_chains.2 hc
  cases ht : s.che.table with
  | nil => simp [ht] at hfull
  | cons x l =>
    have := hnone 0
    simp only [State.chainAt, ht, List.getD_cons_zero] at this
    exact ⟨l, by rw [this], hnone⟩

/-- R100: what acceptance asks of a chain of one order. -/
theorem sole_of_accepted (h : acceptanceRefusal tag.toNat [some o] s = none) :
    s.che.table.all (·.isSome) = false ∧ o.flags.link = false ∧ o.flags.chain = false := by
  have hfull : s.che.table.all (·.isSome) = false := by
    by_contra hc
    simp [acceptanceRefusal, Bool.not_eq_false _ ▸ hc] at h
  have hflags : flagsAgree [o] = true := by
    by_contra hc
    simp only [acceptanceRefusal, List.filterMap_cons, List.filterMap_nil, id] at h
    split_ifs at h with _ _ _ hbad
    exact hbad (.inl (by simpa using hc))
  simpa [flagsAgree, and_comm] using And.intro hfull hflags

theorem lnkReceive_chain (hl : s.Listening) (hq : s.Quiet) (hlen : payload.length = 15)
    (hcount : byteAt payload 0 = 1#8) (ho : readOrders payload = [some o])
    (h : acceptanceRefusal tag.toNat (readOrders payload) s = none) :
    lnkReceive (frameBytes 0x01#8 tag payload) s = s.inHand tag o .queued .free none := by
  have hne : payload ≠ [] := by
    rintro rfl
    simp at hlen
  rw [ho] at h
  obtain ⟨hfull, -, -⟩ := sole_of_accepted h
  obtain ⟨l, htable, -⟩ := table_of_no_chain hq.no_chain hfull
  have hadmitted : frameRefusal 0 0x01#8 payload.length payload = none := by
    simp [frameRefusal, inboundKind, lengthAdmitted, hlen, hcount]
  have haccept : cheAccept tag.toNat payload (s.updLnk Lnk.clear) =
      (acceptChain tag.toNat [o] (s.updLnk Lnk.clear), none) := by
    simp only [cheAccept, ho]
    rw [show acceptanceRefusal tag.toNat [some o] (s.updLnk Lnk.clear) = none from h]
    rfl
  rw [lnkReceive_frame hl _ _ hne (by omega), takeFrame, hadmitted]
  simp only [handFrame, show (0x01#8 : Byte).toNat = 1 from rfl, haccept]
  simp [acceptChain, htable, List.findIdx?_cons, State.setSlot, State.updChe, State.updLnk, pwrIdleReset, State.updPwr,
    addReply, replyOf, plainAnswer, State.inHand, State.taken, acceptedReply, State.soleChain,
    hq.mech, hq.no_job, Lnk.clear]

end accept

end Sys2Proof.Machine
end

section
/-! PROOF. The grant that follows the acceptance in the same event, and how such a step ends (R103, R109 to R112). -/

namespace Sys2Proof.Machine

/-! ## The grant -/

/-- A frame of one order that a part with nothing on hand accepts and grants the mechanism in the same event. -/
structure State.Takes (s : State) (tag : Byte) (payload : List Byte) (o : Order) : Prop where
  listening : s.Listening
  quiet : s.Quiet
  length : payload.length = 15
  count : byteAt payload 0 = 1#8
  orders : readOrders payload = [some o]
  notify : o.flags.notify = false
  accepted : acceptanceRefusal tag.toNat (readOrders payload) s = none
  power : s.pwr.state ≠ .faultHold
  place : s.ntu.queue.length < 8

/-- The order as it takes the mechanism. -/
def State.firstJob (s : State) (tag : Byte) (o : Order) : Job := freshJob 0 (s.soleChain tag o .queued) o false

/-- The part as the order takes the mechanism. -/
def State.granted (s : State) (tag : Byte) (o : Order) : State :=
  s.inHand tag o .active .order (some (s.firstJob tag o))

/-- The part once the order has begun under the mechanism. -/
def State.begun (s : State) (tag : Byte) (o : Order) : State :=
  match o.kind with
  | .eject => orderEject 0 tag.toNat (s.granted tag o)
  | .setPower => orderSetPower (o.power.getD .active) (s.granted tag o)
  | _ => orderChecks (s.granted tag o)

section grant
variable {s : State} {tag : Byte} {payload : List Byte} {o : Order} {st : ChainState} {mech : Holder}
  {job : Option Job}

theorem State.Takes.sole (h : s.Takes tag payload o) :
    (∃ l, s.che.table = none :: l ∧ ∀ n, s.chainAt n = none) ∧ o.flags.link = false ∧ o.flags.chain = false := by
  have hrefusal := h.accepted
  rw [h.orders] at hrefusal
  obtain ⟨hfull, hlink, hchain⟩ := sole_of_accepted hrefusal
  exact ⟨table_of_no_chain h.quiet.no_chain hfull, hlink, hchain⟩

theorem chainAt_inHand (h : s.Takes tag payload o) (n : Nat) :
    (s.inHand tag o st mech job).chainAt n = if n = 0 then some (s.soleChain tag o st) else none := by
  obtain ⟨⟨l, htable, hnone⟩, -⟩ := h.sole
  rw [chainAt_set (s := s) rfl (by simp [htable]) n]
  split_ifs
  · rfl
  · exact hnone n

theorem chains_inHand (h : s.Takes tag payload o) :
    (s.inHand tag o st mech job).chains = [(0, s.soleChain tag o st)] := by
  obtain ⟨⟨l, htable, -⟩, -⟩ := h.sole
  have hlen : (s.inHand tag o st mech job).che.table.length = l.length + 1 := by
    simp [State.inHand, State.taken, htable]
  rw [State.chains, hlen, List.range_succ_eq_map, List.filterMap_cons]
  simp only [chainAt_inHand h, if_true, Option.map_some, List.filterMap_map]
  rw [List.filterMap_eq_nil_iff.2 fun n _ => by simp]

/-- R103: the arbiter grants the mechanism to the chain just accepted. -/
theorem idleRule_accepted (h : s.Takes tag payload o) (hk : o.kind.mechanismFree = false) :
    idleRule (s.inHand tag o .queued .free none) = some (.grant (.chain 0) false) := by
  have hchains := chains_inHand h (st := .queued) (mech := .free) (job := none)
  have hdrained : drained (s.inHand tag o .queued .free none) = false := by
    simp [drained, State.inHand, h.quiet.stage]
  have hfree : freeStarter (s.inHand tag o .queued .free none) = none := by
    simp [freeStarter, hchains, State.soleChain, Chain.order, hk, oldest]
  have hdue : unloadDue (s.inHand tag o .queued .free none) = false := by
    simp [unloadDue, State.inHand, h.quiet.progress]
  have hpass : presentedPass (s.inHand tag o .queued .free none) = none := by
    simp [presentedPass, State.inHand, h.quiet.pass0, h.quiet.pass1]
  have hchoice : arbiterChoice (s.inHand tag o .queued .free none) = some (.chain 0) := by
    have hready : chainReady (s.inHand tag o .queued .free none) (s.soleChain tag o .queued) = true := by
      simp [chainReady, State.soleChain, Chain.order, hk, State.inHand, h.quiet.stage]
    rw [arbiterChoice, if_pos ⟨rfl, h.power⟩, hpass, ite_self]
    simp [hchains, hready, oldest]
  have hjob : (s.inHand tag o .queued .free none).che.job = none := rfl
  simp [idleRule, hdrained, hfree, heldEjectDue, lendsTo, readWaits, writeNeeds, hjob, unloadOrGrant, hdue, hchoice]

theorem orderStart_granted (h : s.Takes tag payload o) : orderStart 0 false (s.inHand tag o .queued .free none) =
    s.begun tag o := by
  have hc : (s.inHand tag o .queued .free none).chainAt 0 = some (s.soleChain tag o .queued) := by
    rw [chainAt_inHand h, if_pos rfl]
  have ho : (s.soleChain tag o .queued).order = some o := rfl
  have hstart : ((s.inHand tag o .queued .free none).updChain 0 fun c => { c with state := .active }).updChe
      (fun e => { e with mech := .order, job := some (freshJob 0 (s.soleChain tag o .queued) o false) }) =
      s.granted tag o := by
    rw [updChain_eq hc]
    simp [State.updChe, State.granted, State.inHand, State.taken, State.soleChain, State.firstJob]
  have hoffer : offerProgress 0 (s.granted tag o) = s.granted tag o := by
    have hc' : (s.granted tag o).chainAt 0 = some (s.soleChain tag o .active) := by
      rw [State.granted, chainAt_inHand h, if_pos rfl]
    simp [offerProgress, hc', State.soleChain, Chain.order, h.notify]
  simp only [orderStart, hc, ho]
  rw [hstart, hoffer]
  rfl

/-- The step of the frame, from the order's start on. -/
theorem exec_granted (h : s.Takes tag payload o) (hk : o.kind.mechanismFree = false) :
    ∃ q, exec (.chain tag payload) s = conclude q ∧ Within 1 q (s.begun tag o) := by
  refine ⟨s.inHand tag o .queued .free none, ?_, ?_⟩
  · exact (run_of_powered h.listening.powered _).trans
      (congrArg conclude (lnkReceive_chain h.listening h.quiet h.length h.count h.orders h.accepted))
  · rw [← orderStart_granted h]
    exact Within.rule (s := s.inHand tag o .queued .free none) (settled_inbox (s := s) h.listening.settled)
      (idleRule_accepted h hk)

/-! ## An order that ends in the event that grants it -/

/-- The order has ended with `code`, and its chain with it: PWR's record is `w` but for the idle counter. -/
def State.OrderOver (s : State) (tag : Byte) (o : Order) (code : EndCode) (w : Pwr) (t : State) : Prop :=
  t = { s with pwr := { w with idle := 0 }, che := t.che, ntu := { s.ntu with queue := t.ntu.queue },
               lnk := { s.lnk.clear with replies := t.lnk.replies, out := t.lnk.out },
               act := { s.act with gate := false, loads := s.act.loads.filter fun r => r.party != .che },
               xfer := none, rcv := { s.rcv with heldEject := none },
               bbf := { s.bbf with
                 slots := s.bbf.slots.map fun b => if b.heldFor tag.toNat then .free else b,
                 wants := t.bbf.wants, sendingSlot := t.bbf.sendingSlot,
                 records := s.bbf.records.filter fun w => w.tag != tag.toNat } } ∧
  t.chains = [] ∧ t.che.mech = .free ∧ t.che.job = none ∧ t.che.counter = (s.che.counter + 1) % 65536 ∧
  t.lnk.replies = s.lnk.replies ++ [acceptedReply tag] ∧
  t.ntu.queue.map (·.body) = s.ntu.queue.map (·.body) ++ [.completion
    { tag := tag.toNat, code := code, flags := Flags.empty, reached := 0,
      residual := if o.kind.transfer then o.count else 0, fault := none }]

/-- An order that ends before it has sought or transferred anything ends its chain with its code. -/
theorem granted_ends (h : s.Takes tag payload o) (hk : o.kind.mechanismFree = false) {k : Job} {w : Pwr}
    {held : Option Nat} {code : EndCode}
    (hend : s.begun tag o =
      { s.inHand tag o .active .order (some k) with
        pwr := w, rcv := { s.rcv with heldEject := held }, inbox := [.orderEnd code] })
    (hj : k.chain = some 0 ∧ k.order = o ∧ k.flags = Flags.empty ∧ k.placed = none ∧ k.transferred = none)
    (hw : w.progress = .none) :
    ∃ t, exec (.chain tag payload) s = .next t ∧ s.OrderOver tag o code { w with setWait := none } t := by
  obtain ⟨hchain, horder, hflags, hplaced, htransferred⟩ := hj
  obtain ⟨-, hlink, hlast⟩ := h.sole
  have hi := settled_inbox (s := s) h.listening.settled
  let u : State := { s.inHand tag o .active .order (some k) with pwr := w, rcv := { s.rcv with heldEject := held } }
  obtain ⟨q, hexec, hstart⟩ := exec_granted h hk
  rw [hend] at hstart
  have hat : u.AtEnd 0 (s.soleChain tag o .active) k :=
    ⟨rfl, hchain, chains_inHand h, by rw [horder]; rfl, by rw [horder]; exact ⟨hlink, hlast⟩, rfl, h.quiet.no_pass,
      by simp [u, State.inHand, h.quiet.pass0], by simp [u, State.inHand, h.quiet.pass1], h.quiet.stage, hw,
      h.quiet.none_waiting, h.place⟩
  have hlit : u.rcv.lamp = lampOf u := settled_lamp (s := s) h.listening.settled
  obtain ⟨t, ht, hover⟩ := conclude_orderEnded (u := u) hstart hat hi hlit (by decide)
  have hb : k.completes (s.soleChain tag o .active) code =
      { tag := tag.toNat, code := code, flags := Flags.empty, reached := 0,
        residual := if o.kind.transfer then o.count else 0, fault := none } := by
    have hcode : Flags.endCode Flags.empty code = code := by
      by_cases hc : code = .clean <;> simp [Flags.endCode, hc, Flags.empty]
    have hjoin : Flags.empty.join Flags.empty = Flags.empty := rfl
    simp [Job.completes, State.soleChain, hflags, hjoin, hcode, horder, Order.residual, endLocation, Job.location,
      Job.faultPlace, hplaced, htransferred]
  rw [hb] at hover
  obtain ⟨hframe, hchains, hmech, hjob, hcounter, hslots, hdelivery, -, hrecords, hlnk, hqueue⟩ := hover
  refine ⟨t, hexec.trans ht, ?_, hchains, hmech, hjob, hcounter, ?_, hqueue⟩
  · have hbbf : t.bbf = { s.bbf with
        slots := s.bbf.slots.map fun b => if b.heldFor tag.toNat then .free else b,
        wants := t.bbf.wants, sendingSlot := t.bbf.sendingSlot,
        records := s.bbf.records.filter fun w => w.tag != tag.toNat } := by
      refine Eq.trans (b := Bbf.mk t.bbf.slots t.bbf.delivery t.bbf.sendingSlot t.bbf.wants t.bbf.records) rfl ?_
      rw [hslots, hdelivery, hrecords]
      rfl
    have hlane : t.lnk = { s.lnk.clear with replies := t.lnk.replies, out := t.lnk.out } := by
      rw [hlnk]
      rfl
    refine hframe.trans ?_
    rw [← hbbf, ← hlane]
    rfl
  · rw [hlnk]
    rfl

end grant

end Sys2Proof.Machine
end

section
/-! PROOF. The reservations of a WRITE run (R132), and rest with an order in hand. -/

namespace Sys2Proof.Machine

/-! ## Reservations (R132) -/

/-- R132: the lowest FREE slots are reserved for sequences of a run, one each. -/
def reserveSlots (tag : Nat) : List Nat → List BlockSlot → List BlockSlot
  | [], l => l
  | q :: qs, l =>
    match l.findIdx? (·.isFree) with
    | some i => reserveSlots tag qs (l.set i (.reserved tag q .write))
    | none => l

theorem reserveEach_eq (tag : Nat) (qs : List Nat) (s : State) : reserveEach tag qs s =
    { s with bbf := { s.bbf with slots := reserveSlots tag qs s.bbf.slots } } := by
  induction qs generalizing s with
  | nil => rfl
  | cons q qs ih =>
    unfold reserveEach reserveSlots freeSlot
    cases s.bbf.slots.findIdx? (·.isFree) with
    | none => rfl
    | some i => exact ih _

/-- R132: the slots still FREE. -/
def freeSlots (l : List BlockSlot) : Nat := (l.filter (·.isFree)).length

theorem freeSlots_set {l : List BlockSlot} {i : Nat} {b : BlockSlot} (h : l.findIdx? (·.isFree) = some i)
    (hb : b.isFree = false) : freeSlots (l.set i b) + 1 = freeSlots l := by
  obtain ⟨hlt, hfree, -⟩ := List.findIdx?_eq_some_iff_getElem.1 h
  simp only [freeSlots, ← List.countP_eq_length_filter]
  have := List.countP_set (p := fun x : BlockSlot => x.isFree) (l := l) (i := i) (a := b) hlt
  have hpos : 0 < l.countP (·.isFree) := List.countP_pos_iff.2 ⟨l[i], List.getElem_mem hlt, hfree⟩
  simp [hb, hfree] at this
  omega

theorem freeSlots_eq_zero {l : List BlockSlot} : freeSlots l = 0 ↔ l.any (·.isFree) = false := by
  simp [freeSlots, List.filter_eq_nil_iff]

/-- A slot that is not FREE is left as it is by a reservation. -/
theorem mem_reserveSlots {tag : Nat} {b : BlockSlot} (hb : b.isFree = false) (qs : List Nat) {l : List BlockSlot}
    (h : b ∈ l) : b ∈ reserveSlots tag qs l := by
  induction qs generalizing l with
  | nil => exact h
  | cons q qs ih =>
    unfold reserveSlots
    cases hf : l.findIdx? (·.isFree) with
    | none => exact h
    | some i =>
      obtain ⟨hlt, hfree, -⟩ := List.findIdx?_eq_some_iff_getElem.1 hf
      refine ih ?_
      obtain ⟨n, hn, rfl⟩ := List.getElem_of_mem h
      have hne : i ≠ n := by
        rintro rfl
        exact absurd hfree (by simp [hb])
      exact List.mem_iff_getElem.2 ⟨n, by simpa using hn, by simp [List.getElem_set_ne hne]⟩

/-- R132: with a FREE slot for each, every sequence gets its slot, and no other slot is taken. -/
theorem reserveSlots_all {tag : Nat} {qs : List Nat} {l : List BlockSlot} (h : qs.length ≤ freeSlots l) :
    (∀ q ∈ qs, .reserved tag q .write ∈ reserveSlots tag qs l) ∧
      freeSlots (reserveSlots tag qs l) + qs.length = freeSlots l := by
  induction qs generalizing l with
  | nil => simp [reserveSlots]
  | cons q qs ih =>
    rw [List.length_cons] at h
    unfold reserveSlots
    cases hf : l.findIdx? (·.isFree) with
    | none =>
      have : freeSlots l = 0 := by
        rw [freeSlots_eq_zero]
        simpa [List.findIdx?_eq_none_iff, List.any_eq_false] using hf
      omega
    | some i =>
      have hset := freeSlots_set (b := .reserved tag q .write) hf rfl
      obtain ⟨hall, hfree⟩ := ih (l := l.set i (.reserved tag q .write)) (by omega)
      obtain ⟨hlt, -, -⟩ := List.findIdx?_eq_some_iff_getElem.1 hf
      refine ⟨fun r hr => ?_, by simp only [List.length_cons]; omega⟩
      obtain rfl | hr := List.mem_cons.1 hr
      · exact mem_reserveSlots rfl qs (List.mem_set hlt _)
      · exact hall r hr

/-- R132: the block buffer once a run has reserved what it can. -/
def Bbf.reserved (e : Bbf) (tag : Nat) (qs : List Nat) : Bbf :=
  match qs with
  | [] => e
  | first :: _ => { e with
      slots := reserveSlots tag qs e.slots
      wants := e.wants ++ [{ tag := tag, first := first, number := qs.length, sending := false }]
      records := e.records ++ [{ tag := tag, first := first, number := qs.length, timer := some 5000000 }] }

theorem reserveWrite_eq (c : Chain) (s : State) : reserveWrite c s =
    { s with bbf := s.bbf.reserved c.tag ((neededSequences c s).take (freeSlots s.bbf.slots)) } := by
  unfold reserveWrite freeSlots
  dsimp only
  generalize (neededSequences c s).take (s.bbf.slots.filter (·.isFree)).length = qs
  cases qs with
  | nil => rfl
  | cons q qs =>
    simp only [reserveEach_eq]
    rfl

theorem reserved_slots (e : Bbf) (tag : Nat) (qs : List Nat) :
    (e.reserved tag qs).slots = reserveSlots tag qs e.slots := by
  cases qs <;> rfl

/-- The reservations of a run depend on the block buffer alone. -/
theorem reserveWrite_congr (c : Chain) {s t : State} (h : t.bbf = s.bbf) :
    (reserveWrite c t).bbf = (reserveWrite c s).bbf := by
  have hneed : neededSequences c t = neededSequences c s := by simp only [neededSequences, h]
  rw [reserveWrite_eq, reserveWrite_eq, hneed, h]

/-- R132: after its reservations a run has all it needs, or no slot is FREE. -/
theorem reserveWrite_done (c : Chain) (s : State) :
    hasFreeSlot (reserveWrite c s) = false ∨ neededSequences c (reserveWrite c s) = [] := by
  set qs := (neededSequences c s).take (freeSlots s.bbf.slots) with hqs
  have hslots : (reserveWrite c s).bbf.slots = reserveSlots c.tag qs s.bbf.slots := by
    rw [reserveWrite_eq]
    exact reserved_slots ..
  have hlen : qs.length = min (freeSlots s.bbf.slots) (neededSequences c s).length := by simp [hqs]
  obtain ⟨hall, hfree⟩ := reserveSlots_all (tag := c.tag) (qs := qs) (l := s.bbf.slots) (by omega)
  by_cases hfew : (neededSequences c s).length ≤ freeSlots s.bbf.slots
  · refine .inr ?_
    have hqs' : qs = neededSequences c s := List.take_of_length_le hfew
    simp only [neededSequences, List.filter_eq_nil_iff, Bool.not_eq_true', Bool.not_eq_false, hslots]
    intro q hq
    by_cases hneed : q ∈ neededSequences c s
    · exact List.any_eq_true.2 ⟨_, hall q (hqs' ▸ hneed), by simp [BlockSlot.carries]⟩
    · have hcarried : s.bbf.slots.any (BlockSlot.carries c.tag q) = true := by
        by_contra hc
        exact hneed (List.mem_filter.2 ⟨hq, by simpa using hc⟩)
      obtain ⟨b, hb, hcarries⟩ := List.any_eq_true.1 hcarried
      have hbusy : b.isFree = false := by
        cases b <;> simp [BlockSlot.carries, BlockSlot.isFree] at hcarries ⊢
      exact List.any_eq_true.2 ⟨b, mem_reserveSlots hbusy qs hb, hcarries⟩
  · refine .inl ?_
    rw [hasFreeSlot, hslots, ← freeSlots_eq_zero]
    omega

/-- R132: where a run needs nothing, or no slot is FREE, nothing is reserved. -/
theorem reserveWrite_idle {c : Chain} {s : State} (h : hasFreeSlot s = false ∨ neededSequences c s = []) :
    reserveWrite c s = s := by
  have hnone : (neededSequences c s).take (freeSlots s.bbf.slots) = [] := by
    obtain h | h := h
    · simp [freeSlots_eq_zero.2 h]
    · simp [h]
  rw [reserveWrite_eq, hnone]
  rfl

/-! ## Rest with an order in hand -/

section holding
variable {u : State} {c : Chain} {k : Job}

/-- The mechanism is an order's, and nothing but it is on hand. -/
structure State.Holding (u : State) (c : Chain) (k : Job) : Prop where
  inbox : u.inbox = []
  chains : u.chains = [(0, c)]
  active : c.state = .active
  job : u.che.job = some k
  chain : k.chain = some 0
  mech : u.che.mech = .order
  stage : u.rcv.stage = .none
  phase : k.phase ≠ .mount ∧ k.phase ≠ .dataWait ∧ (k.phase = .ejectHeld → u.rcv.firstReport = false)
  waiting : u.lnk.waiting = []

/-- R132, R160: what is left to do is to send PWR's unload, or to reserve the slots of a run. -/
theorem State.Holding.idleRule (h : u.Holding c k) : idleRule u =
    match writeNeeds u with
    | some c => some (.serveWrite c)
    | none => if unloadDue u = true ∧ unloadAllowed u = true then some (.unload false) else none := by
  obtain ⟨hmount, hdata, hheld⟩ := h.phase
  have hdrained : drained u = false := by simp [drained, h.stage]
  have hfree : freeStarter u = none := by simp [freeStarter, h.chains, h.active, oldest]
  have heject : heldEjectDue u = none := by
    simp only [heldEjectDue, h.job]
    rw [if_neg]
    rintro ⟨h1, h2⟩
    simp [hheld h1] at h2
  have hlends : lendsTo u = none := by simp [lendsTo, h.job, hmount]
  have hread : readWaits u = none := by simp [readWaits, h.job, hdata]
  have hchoice : arbiterChoice u = none := by simp [arbiterChoice, h.mech]
  have hwait : waitingFrame u = none := by simp [waitingFrame, h.waiting]
  unfold Machine.idleRule
  simp only [hdrained, hfree, heject, hlends, hread, unloadOrGrant, hchoice, hwait, Bool.false_eq_true, if_false]
  cases Machine.writeNeeds u with
  | some d => rfl
  | none =>
    by_cases hdue : unloadDue u = true ∧ unloadAllowed u = true
    · simp [hdue]
    · simp [hdue]

theorem State.Holding.jobChain (h : u.Holding c k) : jobChain k u = some c := by
  rw [Machine.jobChain, h.chain]
  exact chainAt_of_only h.chains

/-- R132: a WRITE run needs slots while one is FREE and a block has none. -/
theorem State.Holding.writeNeeds (h : u.Holding c k) : writeNeeds u =
    if k.order.kind = .write ∧ k.runReady = true ∧ hasFreeSlot u = true ∧ neededSequences c u ≠ [] then some c
    else none := by
  simp only [Machine.writeNeeds, h.job, h.jobChain]
  split_ifs <;> simp_all

/-- Reservations change nothing that the part holds. -/
theorem State.Holding.reserved (h : u.Holding c k) (e : Bbf) : ({ u with bbf := e } : State).Holding c k :=
  ⟨h.inbox, h.chains, h.active, h.job, h.chain, h.mech, h.stage, h.phase, h.waiting⟩

/-- R132: the slots of a WRITE run are reserved, and the part is at rest. -/
theorem State.Holding.within_reserved (h : u.Holding c k) (hdue : ¬ (unloadDue u = true ∧ unloadAllowed u = true)) :
    let v : State := { u with bbf :=
      if k.order.kind = .write ∧ k.runReady = true then (reserveWrite c u).bbf else u.bbf }
    Within 1 u v ∧ settleOnce v = none := by
  intro v
  have hv : v.Holding c k := h.reserved _
  have hdue' : ¬ (unloadDue v = true ∧ unloadAllowed v = true) := hdue
  have hdone : Machine.writeNeeds v = none := by
    rw [hv.writeNeeds, if_neg]
    rintro ⟨hkind, hready, hfree, hneed⟩
    have hve : v = reserveWrite c u := by
      rw [reserveWrite_eq c u]
      simp only [v, if_pos (And.intro hkind hready)]
      rw [reserveWrite_eq c u]
    rw [hve] at hfree hneed
    obtain hdone | hdone := reserveWrite_done c u
    · rw [hdone] at hfree
      exact absurd hfree (by decide)
    · exact hneed hdone
  refine ⟨?_, (settleOnce_none_iff v).2 ⟨hv.inbox, by rw [hv.idleRule, hdone]; exact if_neg hdue'⟩⟩
  by_cases hneeds : k.order.kind = .write ∧ k.runReady = true ∧ hasFreeSlot u = true ∧ neededSequences c u ≠ []
  · obtain ⟨hkind, hready, -, -⟩ := id hneeds
    have hrule : Machine.idleRule u = some (.serveWrite c) := by rw [h.idleRule, h.writeNeeds, if_pos hneeds]
    have hfire := Within.rule h.inbox hrule
    rw [show fire (.serveWrite c) u = reserveWrite c u from rfl, reserveWrite_eq] at hfire
    simp only [v, if_pos (And.intro hkind hready)]
    rw [reserveWrite_eq]
    exact hfire
  · have hsame : v = u := by
      by_cases hwrite : k.order.kind = .write ∧ k.runReady = true
      · have hidle : hasFreeSlot u = false ∨ neededSequences c u = [] := by
          by_contra hc
          push Not at hc
          exact hneeds ⟨hwrite.1, hwrite.2, by simpa using hc.1, hc.2⟩
        simp only [v, if_pos hwrite]
        rw [reserveWrite_idle hidle]
      · simp only [v, if_neg hwrite]
    rw [hsame]
    exact (Within.refl u).mono (by decide)

end holding

end Sys2Proof.Machine
end

section
/-! PROOF. How the event ends that grants an order the mechanism: at rest, with the order in hand (R103, R132). -/

namespace Sys2Proof.Machine

section held
variable {s u v : State} {tag : Byte} {payload : List Byte} {o : Order} {k : Job} {n : Nat}

/-- The step of the frame comes to rest where the order's start does. -/
theorem granted_rests (h : s.Takes tag payload o) (hk : o.kind.mechanismFree = false) (hw : Within n (s.begun tag o) v)
    (hr : settleOnce v = none) (hn : 1 + n ≤ reactionBound) : exec (.chain tag payload) s = .next v.rest := by
  obtain ⟨q, hexec, hq⟩ := exec_granted h hk
  exact hexec.trans ((hq.trans hw).conclude hr hn)

/-- An order that is neither at a mount, nor between two blocks, nor at an end, holds the mechanism alone. -/
theorem holding_inHand (h : s.Takes tag payload o) (hche : u.che = (s.inHand tag o .active .order (some k)).che)
    (hi : u.inbox = []) (hrcv : u.rcv.stage = s.rcv.stage) (hlnk : u.lnk.waiting = s.lnk.waiting)
    (hchain : k.chain = some 0)
    (hphase : k.phase ≠ .mount ∧ k.phase ≠ .dataWait ∧ (k.phase = .ejectHeld → u.rcv.firstReport = false)) :
    u.Holding (s.soleChain tag o .active) k := by
  have hchains : u.chains = [(0, s.soleChain tag o .active)] := by
    have hat (i : Nat) : u.chainAt i = (s.inHand tag o .active .order (some k)).chainAt i := by
      rw [State.chainAt, hche, State.chainAt]
    simp only [State.chains, hat, hche]
    exact chains_inHand h
  exact ⟨hi, hchains, rfl, by rw [hche]; rfl, hchain, by rw [hche]; rfl, hrcv.trans h.quiet.stage, hphase,
    hlnk.trans h.listening.none_waiting⟩

/-- The order holds the mechanism, with the slots of a WRITE run reserved, and nothing is left to do. -/
theorem granted_holds (h : s.Takes tag payload o) (hk : o.kind.mechanismFree = false) (hw : Within n (s.begun tag o) u)
    (hold : u.Holding (s.soleChain tag o .active) k) (hdue : ¬ (unloadDue u = true ∧ unloadAllowed u = true))
    (hbbf : u.bbf = s.bbf) (horder : k.order = o) (hn : 2 + n ≤ reactionBound) :
    exec (.chain tag payload) s = .next (State.rest { u with bbf :=
      if o.kind = .write ∧ k.runReady = true then (reserveWrite (s.soleChain tag o .active) s).bbf else s.bbf }) := by
  obtain ⟨hres, hrest⟩ := hold.within_reserved hdue
  rw [horder, reserveWrite_congr _ hbbf, hbbf] at hres hrest
  exact granted_rests h hk (hw.trans hres) hrest (by omega)

end held

end Sys2Proof.Machine
end

section
/-! PROOF. The start of a medium-addressing order granted in the event that accepts it (R105, R106, R108). -/

namespace Sys2Proof.Machine

/-- The volume of an order, in a state that keeps both contexts. -/
theorem vol_inHand (s : State) (tag : Byte) (o : Order) (st : ChainState) (mech : Holder) (job : Option Job) (v : Vol) :
    (s.inHand tag o st mech job).vol v = s.vol v := by
  cases v <;> rfl

section medium
variable {s : State} {tag : Byte} {payload : List Byte} {o : Order}

theorem mechanismFree_of_medium (h : o.kind.mediumAddressing = true) : o.kind.mechanismFree = false := by
  cases ho : o.kind <;> simp_all [OrderKind.mediumAddressing, OrderKind.mechanismFree]

theorem begun_medium (h : o.kind.mediumAddressing = true) : s.begun tag o = orderChecks (s.granted tag o) := by
  unfold State.begun
  cases ho : o.kind <;> simp_all [OrderKind.mediumAddressing]

/-- R105: the order that has passed its start checks. -/
def State.readyJob (s : State) (tag : Byte) (o : Order) : Job := { s.firstJob tag o with runReady := true }

/-- R105: what the start checks come to. -/
theorem orderChecks_granted : orderChecks (s.granted tag o) =
    match startCheck o (s.vol (Vol.ofByte o.volume)) with
    | .fails code => jobEnd code (s.granted tag o)
    | .waits => needHeads true (s.firstJob tag o) (s.granted tag o)
    | .passes => needHeads false (s.firstJob tag o) (s.inHand tag o .active .order (some (s.readyJob tag o))) := by
  have hvol := vol_inHand s tag o .active .order (some (s.firstJob tag o)) (Vol.ofByte o.volume)
  unfold orderChecks
  rw [show (s.granted tag o).che.job = some (s.firstJob tag o) from rfl]
  simp only []
  rw [show (s.granted tag o).vol (s.firstJob tag o).vol = s.vol (Vol.ofByte o.volume) from hvol]
  rfl

/-- R109: an order that ends as it starts, ends its chain with its code. -/
theorem granted_refused (h : s.Takes tag payload o) (hk : o.kind.mechanismFree = false) {k : Job} {code : EndCode}
    (hbegun : s.begun tag o = jobEnd code (s.inHand tag o .active .order (some k)))
    (hj : k.chain = some 0 ∧ k.order = o ∧ k.flags = Flags.empty ∧ k.placed = none ∧ k.transferred = none)
    (hphase : k.phase ≠ .ending) :
    ∃ t, exec (.chain tag payload) s = .next t ∧ s.OrderOver tag o code { s.pwr with setWait := none } t := by
  have hends : s.begun tag o =
      { s.inHand tag o .active .order (some { k with phase := .ending }) with
        pwr := { s.pwr with idle := 0 }, rcv := { s.rcv with heldEject := s.rcv.heldEject },
        inbox := [.orderEnd code] } := by
    rw [hbegun, jobEnd_eq (j := k) rfl hphase]
    simp [State.inHand, State.taken, settled_inbox h.listening.settled]
  exact granted_ends (k := { k with phase := .ending }) (w := { s.pwr with idle := 0 }) (held := s.rcv.heldEject) h hk
    hends hj h.quiet.progress

/-- R105: an order that fails a start check ends with its code. -/
theorem ordersGranted_fails (h : s.Takes tag payload o) (hm : o.kind.mediumAddressing = true) {code : EndCode}
    (hcheck : startCheck o (s.vol (Vol.ofByte o.volume)) = .fails code) :
    ∃ t, exec (.chain tag payload) s = .next t ∧ s.OrderOver tag o code { s.pwr with setWait := none } t := by
  have hbegun : s.begun tag o = jobEnd code (s.granted tag o) := by rw [begun_medium hm, orderChecks_granted, hcheck]
  exact granted_refused (k := s.firstJob tag o) h (mechanismFree_of_medium hm) hbegun
    (by exact ⟨rfl, rfl, rfl, rfl, rfl⟩) (by simp [State.firstJob, freshJob])

/-! ## Over heads on track (R108) -/

section passed
variable {g : Target} {k : Job}

/-- R105, R106: an order that passes its checks over loaded heads begins its work. -/
theorem begun_passed (hm : o.kind.mediumAddressing = true)
    (hcheck : startCheck o (s.vol (Vol.ofByte o.volume)) = .passes) (hh : s.act.head = .following) :
    s.begun tag o = beginWork (s.inHand tag o .active .order (some (s.readyJob tag o))) := by
  have hneed : (s.inHand tag o .active .order (some (s.readyJob tag o))).act.head.needsLoad = false := by
    simp [State.inHand, hh, HeadState.needsLoad]
  rw [begun_medium hm, orderChecks_granted, hcheck]
  simp [needHeads, hneed, withHeads]

/-- The order in hand has begun to seek, with its chain taken and the slots of a WRITE run reserved. -/
def State.Seeks (s : State) (tag : Byte) (o : Order) (g : Target) (k : Job) (t : State) : Prop :=
  State.SeekBegun s g t ∧ t.che.job = some { k with phase := .seek } ∧
  t = State.replied (acceptedReply tag) { s with
    act := t.act
    che := s.taken tag o .active .order t.che.job
    pwr := { s.pwr with idle := 0 }
    bbf := if o.kind = .write then (reserveWrite (s.soleChain tag o .active) s).bbf else s.bbf }

/-- R34, R106: an order that asks for its seek as it starts is under way to its place. -/
theorem granted_seeks (h : s.Takes tag payload o) (hk : o.kind.mechanismFree = false)
    (hbegun : s.begun tag o = { (s.inHand tag o .active .order (some k)).seekBegun k g with
      inbox := [.head .following .seeking] })
    (hj : k.chain = some 0 ∧ k.order = o ∧ k.runReady = true) :
    ∃ t, exec (.chain tag payload) s = .next t ∧ s.Seeks tag o g k t := by
  obtain ⟨hchain, horder, hready⟩ := hj
  let u := (s.inHand tag o .active .order (some k)).seekBegun k g
  have hw : Within 1 (s.begun tag o) u := by
    rw [hbegun]
    exact (within_all_unheeded (s := u) (ms := [.head .following .seeking])
      (by simpa using unheeded_head (by simp))).emptied (settled_inbox (s := s) h.listening.settled)
  have hold : u.Holding (s.soleChain tag o .active) { k with phase := .seek } :=
    holding_inHand h rfl (settled_inbox (s := s) h.listening.settled) rfl rfl hchain (by simp)
  have hdue : ¬ (unloadDue u = true ∧ unloadAllowed u = true) := by
    simp [u, unloadDue, State.seekBegun, State.inHand, h.quiet.progress]
  have hexec := granted_holds h hk hw hold hdue rfl horder (by decide)
  simp only [hready, and_true] at hexec
  let v : State := { u with
    bbf := if o.kind = .write then (reserveWrite (s.soleChain tag o .active) s).bbf else s.bbf }
  obtain ⟨hact, hche⟩ := beginFrame_keeps (setLamp v)
  have hact : v.rest.act = u.act := hact
  have hche : v.rest.che = u.che := hche
  refine ⟨v.rest, hexec, seekBegun_begun (s.inHand tag o .active .order (some k)) k g hact, by rw [hche]; rfl, ?_⟩
  rw [hact, hche]
  rfl

end passed
end medium
end Sys2Proof.Machine
end

section
/-! PROOF. The places that an order goes to first, over heads on track elsewhere (R75, R80, R85, R90, R92, R108). -/

namespace Sys2Proof.Machine

/-- The order in hand seeks `g` for the work `task`, unless the heads are at `g`. -/
def State.Begins (s : State) (tag : Byte) (payload : List Byte) (o : Order) (g : Target) (task : Task)
    (more : Job → Prop) : Prop :=
  (g.cylinder ≠ s.act.cylinder ∨ g.comb ≠ s.act.comb) →
  ∃ t, exec (.chain tag payload) s = .next t ∧ State.SeekBegun s g t ∧
    (∃ j, t.che.job = some j ∧ j.chain = some 0 ∧ j.order = o ∧ j.phase = .seek ∧ j.task = task ∧ more j) ∧
    t = State.replied (acceptedReply tag) { s with
      act := t.act
      che := s.taken tag o .active .order t.che.job
      pwr := { s.pwr with idle := 0 }
      bbf := if o.kind = .write then (reserveWrite (s.soleChain tag o .active) s).bbf else s.bbf }

/-- The part with the order that has passed its checks in hand. -/
def State.ready (s : State) (tag : Byte) (o : Order) : State :=
  s.inHand tag o .active .order (some (s.readyJob tag o))

section work
variable {s : State} {tag : Byte} {payload : List Byte} {o : Order} {g : Target} {k : Job}

theorem begins_of_seek {task : Task} {more : Job → Prop} (h : s.Takes tag payload o)
    (hk : o.kind.mechanismFree = false)
    (hbegun : ¬ (g.cylinder = s.act.cylinder ∧ g.comb = s.act.comb) → s.begun tag o =
      { (s.ready tag o).seekBegun k g with inbox := (s.ready tag o).inbox ++ [.head .following .seeking] })
    (hj : k.chain = some 0 ∧ k.order = o ∧ k.runReady = true) (htask : k.task = task)
    (hmore : more { k with phase := .seek }) : s.Begins tag payload o g task more := by
  intro hne
  have hb := hbegun (by tauto)
  rw [show (s.ready tag o).inbox = [] from settled_inbox (s := s) h.listening.settled] at hb
  obtain ⟨t, hexec, hseek, hjob, ht⟩ := granted_seeks h hk (by exact hb) hj
  obtain ⟨hchain, horder, -⟩ := hj
  exact ⟨t, hexec, hseek, ⟨_, hjob, hchain, horder, rfl, htask, hmore⟩, ht⟩

/-- R77: a seek is needed to a place elsewhere. -/
theorem seekNeeded_of_elsewhere {a : Act} (hne : ¬ (g.cylinder = a.cylinder ∧ g.comb = a.comb)) :
    seekNeeded a g = true := by
  simp only [seekNeeded, Bool.not_eq_true', Bool.and_eq_false_iff, beq_eq_false_iff_ne]
  tauto

/-- R108: the work the order begins. -/
theorem begun_works (hm : o.kind.mediumAddressing = true)
    (hcheck : startCheck o (s.vol (Vol.ofByte o.volume)) = .passes) (hh : s.act.head = .following) : s.begun tag o =
    match o.kind with
    | .read | .write | .verify => nextBlock (s.ready tag o)
    | .seek =>
      let k : Job := Job.placing { s.readyJob tag o with
        task := .seekOnly, placement := placeBlock (s.readyJob tag o) o.block (s.ready tag o) }
      if seekNeeded s.act k.target then askSeek k.target ((s.ready tag o).withJob k)
      else jobEnd .clean ((s.ready tag o).withJob k)
    | .formatTrack =>
      if tableFull o (s.vol (Vol.ofByte o.volume)).slips then jobEnd .tableFull (s.ready tag o)
      else if (s.vol (Vol.ofByte o.volume)).stale then beginHeader .stale (s.ready tag o)
      else beginFormat (s.ready tag o)
    | .assignAlternate =>
      if (s.vol (Vol.ofByte o.volume)).stale then beginHeader .stale (s.ready tag o)
      else beginAltRead (s.readyJob tag o) (s.ready tag o)
    | .initializeVolume => beginHeader .fresh (s.ready tag o)
    | .holdMedium | .releaseMedium | .eject | .setPower => s.ready tag o := by
  have hvol := vol_inHand s tag o .active .order (some (s.readyJob tag o)) (Vol.ofByte o.volume)
  rw [begun_passed hm hcheck hh]
  unfold beginWork
  rw [show (s.inHand tag o .active .order (some (s.readyJob tag o))).che.job = some (s.readyJob tag o) from rfl]
  simp only [show (s.readyJob tag o).order = o from rfl, show (s.readyJob tag o).vol = Vol.ofByte o.volume from rfl,
    hvol]
  cases o.kind <;> rfl

section on_track
variable (h : s.Takes tag payload o) (hm : o.kind.mediumAddressing = true) (hh : s.act.head = .following)
  (hv : s.act.valid = true)
include h hm hh hv

/-- R80: a header is written first, from the place of its first block. -/
theorem begins_header {use : HeaderUse} (hbegun : s.begun tag o = beginHeader use (s.ready tag o)) {header : List Byte}
    (hheader : (headerOf use (s.readyJob tag o) (s.vol (Vol.ofByte o.volume))).2 = header) :
    s.Begins tag payload o { cylinder := 0, comb := 2 * o.volume } (.header use) fun j =>
      j.header = header ∧ j.todo = (List.range 4).map fun k => { slot := k, rewrites := 0 } := by
  have hvol := vol_inHand s tag o .active .order (some (s.readyJob tag o)) (Vol.ofByte o.volume)
  refine begins_of_seek (k := (s.readyJob tag o).heading use (headerOf use (s.readyJob tag o)
    (s.vol (Vol.ofByte o.volume)))) h (mechanismFree_of_medium hm) (fun hne => ?_) ⟨rfl, rfl, rfl⟩ rfl ⟨hheader, rfl⟩
  rw [hbegun, beginHeader_elsewhere (s := s.ready tag o) (k := s.readyJob tag o) hh hv rfl hne]
  rw [show (s.ready tag o).vol (s.readyJob tag o).vol = s.vol (Vol.ofByte o.volume) from hvol]
  rfl

/-- R77: a task taken up where the order starts seeks its place. -/
theorem begins_takeUp {f : Job → Job} {more : Job → Prop}
    (hbegun : s.begun tag o = takeUp f (s.ready tag o))
    (hf : (f (s.readyJob tag o)).chain = some 0 ∧ (f (s.readyJob tag o)).order = o ∧
      (f (s.readyJob tag o)).runReady = true)
    (hmore : more { (f (s.readyJob tag o)).placing with phase := .seek }) :
    s.Begins tag payload o (f (s.readyJob tag o)).target (f (s.readyJob tag o)).task more := by
  refine begins_of_seek (k := (f (s.readyJob tag o)).placing) h (mechanismFree_of_medium hm) (fun hne => ?_) hf rfl
    hmore
  rw [hbegun, takeUp_elsewhere (s := s.ready tag o) (k := s.readyJob tag o) hh hv rfl hne]

variable (hcheck : startCheck o (s.vol (Vol.ofByte o.volume)) = .passes)
include hcheck

omit hv in
/-- R89: FORMAT TRACK ends at once where the slip list has no room for its entry. -/
theorem ordersGranted_full (hkind : o.kind = .formatTrack)
    (hfull : tableFull o (s.vol (Vol.ofByte o.volume)).slips = true) :
    ∃ t, exec (.chain tag payload) s = .next t ∧ s.OrderOver tag o .tableFull { s.pwr with setWait := none } t := by
  have hbegun : s.begun tag o = jobEnd .tableFull (s.ready tag o) := by
    rw [begun_works hm hcheck hh]
    simp only [hkind, hfull, if_true]
  exact granted_refused (k := s.readyJob tag o) h (mechanismFree_of_medium hm) hbegun
    (by exact ⟨rfl, rfl, rfl, rfl, rfl⟩) (by simp [State.readyJob, State.firstJob, freshJob])

/-- R82: under header-stale the header of the volume is written first. -/
theorem ordersGranted_stale (hkind : o.kind = .formatTrack ∨ o.kind = .assignAlternate)
    (hfull : o.kind = .formatTrack → tableFull o (s.vol (Vol.ofByte o.volume)).slips = false)
    (hstale : (s.vol (Vol.ofByte o.volume)).stale = true) {l : Label}
    (hl : (s.vol (Vol.ofByte o.volume)).label = some l) :
    s.Begins tag payload o { cylinder := 0, comb := 2 * o.volume } (.header .stale) fun j =>
      j.header = headerBytes l (s.vol (Vol.ofByte o.volume)).slips (s.vol (Vol.ofByte o.volume)).alts ∧
        j.todo = (List.range 4).map fun k => { slot := k, rewrites := 0 } := by
  refine begins_header h hm hh hv ?_ (by simp [headerOf, hl])
  rw [begun_works hm hcheck hh]
  obtain hkind | hkind := hkind
  · simp [hkind, hfull hkind, hstale]
  · simp [hkind, hstale]

/-- R85: INITIALIZE VOLUME writes the header of its new label, with no slips and every alternate FREE. -/
theorem ordersGranted_fresh (hkind : o.kind = .initializeVolume) :
    s.Begins tag payload o { cylinder := 0, comb := 2 * o.volume } (.header .fresh) fun j =>
      j.header = headerBytes (freshLabel (s.vol (Vol.ofByte o.volume)) o.serial) [] (List.replicate 64 .free) ∧
        j.todo = (List.range 4).map fun k => { slot := k, rewrites := 0 } := by
  refine begins_header h hm hh hv ?_ rfl
  rw [begun_works hm hcheck hh]
  simp only [hkind]

/-- R90: FORMAT TRACK writes the 32 slots of its track. -/
theorem ordersGranted_format (hkind : o.kind = .formatTrack)
    (hfull : tableFull o (s.vol (Vol.ofByte o.volume)).slips = false)
    (hstale : (s.vol (Vol.ofByte o.volume)).stale = false) :
    s.Begins tag payload o { cylinder := 2 + o.track / 2, comb := 2 * o.volume + o.track % 2 } .format fun j =>
      j.todo = (List.range 32).map fun k => { slot := k, rewrites := 0 } := by
  refine begins_takeUp (f := fun j => { j with task := .format, todo := todoAll 32, tries := 0 }) h hm hh hv ?_
    ⟨rfl, rfl, rfl⟩ rfl
  rw [begun_works hm hcheck hh]
  simp only [hkind, hfull, hstale, Bool.false_eq_true, if_false]
  rfl

section placed
variable {p : Placement}
  (hp : translate (s.vol (Vol.ofByte o.volume)).slipsInForce (s.vol (Vol.ofByte o.volume)).altsInForce o.volume
    o.block = some p)
include hp

omit h hm hh hv hcheck in
/-- R71: the place of the order's block. -/
theorem placeBlock_ready : placeBlock (s.readyJob tag o) o.block (s.ready tag o) = some p := by
  have hvol := vol_inHand s tag o .active .order (some (s.readyJob tag o)) (Vol.ofByte o.volume)
  unfold placeBlock
  rw [show (s.ready tag o).vol (s.readyJob tag o).vol = s.vol (Vol.ofByte o.volume) from hvol]
  exact hp

/-- R75, R122: the first block of a run is placed. -/
theorem ordersGranted_block (hkind : o.kind = .read ∨ o.kind = .write ∨ o.kind = .verify) :
    s.Begins tag payload o { cylinder := p.cylinder, comb := p.comb } .block fun j =>
      j.placement = some p ∧ j.blk = 0 := by
  refine begins_takeUp (f := fun j =>
    { j with task := .block, placement := some p, tries := 0, phase := .ready }) h hm hh hv ?_
    ⟨rfl, rfl, rfl⟩ ⟨rfl, rfl⟩
  have hnext : s.begun tag o = nextBlock (s.ready tag o) := by
    rw [begun_works hm hcheck hh]
    obtain hkind | hkind | hkind := hkind <;> simp only [hkind]
  rw [hnext, ← placeBlock_ready hp]
  rfl

/-- R92: ASSIGN ALTERNATE reads its block first. -/
theorem ordersGranted_altRead (hkind : o.kind = .assignAlternate)
    (hstale : (s.vol (Vol.ofByte o.volume)).stale = false) :
    s.Begins tag payload o { cylinder := p.cylinder, comb := p.comb } .altRead fun j =>
      j.placement = some p ∧ j.blk = 0 := by
  refine begins_takeUp (f := fun j =>
    { j with task := .altRead, placement := some p, tries := 0 }) h hm hh hv ?_ ⟨rfl, rfl, rfl⟩ ⟨rfl, rfl⟩
  rw [begun_works hm hcheck hh, ← placeBlock_ready (tag := tag) hp]
  simp only [hkind, hstale, Bool.false_eq_true, if_false]
  rfl

/-- R106: a SEEK goes to its block. -/
theorem ordersGranted_seek (hkind : o.kind = .seek) :
    s.Begins tag payload o { cylinder := p.cylinder, comb := p.comb } .seekOnly fun j =>
      j.placement = some p ∧ j.blk = 0 := by
  refine begins_of_seek (k := Job.placing { s.readyJob tag o with task := .seekOnly, placement := some p }) h
    (mechanismFree_of_medium hm) (fun hne => ?_) ⟨rfl, rfl, rfl⟩ rfl ⟨rfl, rfl⟩
  rw [begun_works hm hcheck hh]
  simp only [hkind, placeBlock_ready hp]
  rw [if_pos (by exact seekNeeded_of_elsewhere hne)]
  exact askSeek_elsewhere (s := (s.ready tag o).withJob _) hh hv rfl hne

end placed
end on_track
end work
end Sys2Proof.Machine
end

section
/-! PROOF. An order that needs the heads asks for a load and wakes the drive (R9, R13, R27, R106, R162, R163). -/

namespace Sys2Proof.Machine

/-! ## The wake (R162) -/

/-- R9, R10, R13: a start that PWR asks for. -/
theorem spcStart_pwr (s : State) : ∃ ms : List Signal, ms.length ≤ 2 ∧
    (∀ m ∈ ms, m = .stopWithdrawn .pwr ∨ m = .spindle .accelerating) ∧ (spcStart .pwr s).1 = { s with
      spc := wokenSpindle s
      act := { s.act with permission := s.act.permission && decide ((wokenSpindle s).state = s.spc.state) }
      inbox := s.inbox ++ ms } := by
  have hstart (p : Spc) (long : Bool) : (p.started long).state = .accelerating := rfl
  have hkept : (s.act.permission && decide (s.spc.state = s.spc.state)) = s.act.permission := by simp
  obtain ⟨e, hstate, hlatch⟩ | ⟨e, hstate, hfree⟩ | ⟨e, hstate, hlatch⟩ | ⟨e, hturns⟩ | ⟨e, hstate, hwait⟩ |
    ⟨e, hstate, hfree⟩ := spcStart_cases .pwr s
  · refine ⟨[.spindle .accelerating], by simp, by simp, ?_⟩
    simp [e, spcTakeStart_eq, wokenSpindle, hstate, hlatch, hstart]
    rfl
  · have hw : wokenSpindle s = s.spc.started (purgeIsLong s) := by
      simp only [wokenSpindle, hstate]
      exact if_neg (by obtain h | h := hfree <;> simp_all [Spc.waits, Requester.other])
    obtain ⟨-, el⟩ | ⟨-, el⟩ := spcLeaveWait_cases .pwr s
    · refine ⟨[.stopWithdrawn .pwr, .spindle .accelerating], by simp, by simp, ?_⟩
      simp [e, el, spcTakeStart_eq, hw, hstate, hstart]
      rfl
    · refine ⟨[.spindle .accelerating], by simp, by simp, ?_⟩
      simp [e, el, spcTakeStart_eq, hw, hstate, hstart]
      rfl
  · refine ⟨[], by simp, by simp, ?_⟩
    simp [e, wokenSpindle, hstate, hlatch]
  · refine ⟨[], by simp, by simp, ?_⟩
    have hw : wokenSpindle s = s.spc := by
      unfold wokenSpindle
      cases hs : s.spc.state <;> simp_all [SpindleState.turning]
    simp [e, hw]
  · refine ⟨[], by simp, by simp, ?_⟩
    have hw : wokenSpindle s = s.spc := by
      obtain hstate | hstate := hstate
      · simp only [wokenSpindle, hstate]
        exact if_pos hwait
      · have hopen : s.spc.stopConfirmed = false := by
          by_contra hc
          simp [spcStart, hstate, hc] at e
        simp only [wokenSpindle, hstate]
        exact if_pos ⟨hopen, hwait⟩
    simp [e, hw]
  · have hw : wokenSpindle s = { s.spc with waitPwr := false, heldStart := some .pwr } := by
      simp only [wokenSpindle, hstate]
      exact if_neg (by simpa [Spc.waits, Requester.other] using hfree)
    obtain ⟨-, el⟩ | ⟨hw', el⟩ := spcLeaveWait_cases .pwr s
    · refine ⟨[.stopWithdrawn .pwr], by simp, by simp, ?_⟩
      simp [e, el, hw, State.updSpc, Spc.setWait]
    · refine ⟨[], by simp, by simp, ?_⟩
      have hwait : s.spc.waitPwr = false := hw'
      simp [e, el, hw, State.updSpc, ← hwait]

/-- R162: a wake outside FAULT HOLD. -/
theorem pwrWake_eq {s : State} (h : s.pwr.state ≠ .faultHold) : ∃ ms : List Signal, ms.length ≤ 2 ∧
    (∀ m ∈ ms, m = .stopWithdrawn .pwr ∨ m = .spindle .accelerating) ∧ pwrWake s = { s with
      spc := wokenSpindle s
      act := { s.act with permission := s.act.permission && decide ((wokenSpindle s).state = s.spc.state) }
      pwr := { s.pwr with
        target := .active, descent := none, progress := if s.pwr.state = .active then .none else .waitSpin }
      inbox := s.inbox ++ ms } := by
  obtain ⟨ms, hlen, hms, e⟩ := spcStart_pwr (s.updPwr fun w =>
    { w with target := .active, descent := none, progress := if w.state = .active then .none else .waitSpin })
  refine ⟨ms, hlen, hms, ?_⟩
  rw [pwrWake, if_neg h, e]
  rfl

theorem unheeded_wake (s : State) {m : Signal} (h : m = .stopWithdrawn .pwr ∨ m = .spindle .accelerating) :
    s.Unheeded m := by
  obtain rfl | rfl := h <;> exact fun i => rfl

/-! ## The request (R27, R106) -/

section load
variable {s : State} {tag : Byte} {payload : List Byte} {o : Order}

/-- R106: the order that asks for a load. -/
def State.loadJob (s : State) (tag : Byte) (o : Order) : Job :=
  { s.firstJob tag o with runReady := decide (startCheck o (s.vol (Vol.ofByte o.volume)) = .passes) }

theorem begun_loads (hm : o.kind.mediumAddressing = true)
    (hcheck : startCheck o (s.vol (Vol.ofByte o.volume)) = .passes ∨
      startCheck o (s.vol (Vol.ofByte o.volume)) = .waits)
    (hneed : s.act.head.needsLoad = true) : s.begun tag o = setPhase .load (pwrWake
      (actRequestLoad .che (Vol.ofByte o.volume) (s.inHand tag o .active .order (some (s.loadJob tag o))))) := by
  rw [begun_medium hm, orderChecks_granted]
  have hn (k : Job) : (s.inHand tag o .active .order (some k)).act.head.needsLoad = true := hneed
  obtain hcheck | hcheck := hcheck
  · simp [hcheck, needHeads, hn, State.loadJob, State.readyJob, State.firstJob, freshJob, Job.vol]
  · simp [hcheck, needHeads, hn, State.loadJob, State.firstJob, freshJob, Job.vol, State.granted]

/-- R27: the first request is noted, and starts the load of parked heads that have permission. -/
theorem actRequestLoad_first {p : Party} {v : Vol} (hneed : s.act.head.needsLoad = true) (hloads : s.act.loads = []) :
    actRequestLoad p v s = actTryLoad { s with act := { s.act with loads := [{ party := p, volume := v }] } } := by
  unfold actRequestLoad
  cases hh : s.act.head <;> simp_all [HeadState.needsLoad, State.updAct]

/-- R106: the part while the order waits for its load, but for the reports and the spindle. -/
def State.asking (s : State) (tag : Byte) (o : Order) : State :=
  { s with
    che := s.taken tag o .active .order (some { s.loadJob tag o with phase := .load })
    act := { s.act with loads := [{ party := .che, volume := Vol.ofByte o.volume }] }
    pwr := { s.pwr with idle := 0, target := .active, descent := none }
    bbf := if o.kind = .write ∧ startCheck o (s.vol (Vol.ofByte o.volume)) = .passes then
      (reserveWrite (s.soleChain tag o .active) s).bbf else s.bbf }

section asked
variable (h : s.Takes tag payload o) (hm : o.kind.mediumAddressing = true)
  (hcheck : startCheck o (s.vol (Vol.ofByte o.volume)) = .passes ∨
    startCheck o (s.vol (Vol.ofByte o.volume)) = .waits) (hloads : s.act.loads = [])
include h hm hcheck hloads

/-- R106, R162: with no load to start yet, the drive wakes and the order waits. -/
theorem ordersGranted_wakes (hneed : s.act.head.needsLoad = true)
    (hwait : s.act.head ≠ .parked ∨ s.act.permission = false) :
    exec (.chain tag payload) s = .next (State.replied (acceptedReply tag)
      { s.asking tag o with
        spc := wokenSpindle s
        act := { (s.asking tag o).act with
          permission := s.act.permission && decide ((wokenSpindle s).state = s.spc.state) }
        pwr := { (s.asking tag o).pwr with progress := if s.pwr.state = .active then .none else .waitSpin } }) := by
  let x := s.inHand tag o .active .order (some (s.loadJob tag o))
  let y : State := { x with act := { x.act with loads := [{ party := .che, volume := Vol.ofByte o.volume }] } }
  have hasked : actRequestLoad .che (Vol.ofByte o.volume) x = y := by
    rw [actRequestLoad_first (s := x) hneed hloads]
    have hno : ¬ (s.act.head = .parked ∧ s.act.permission = true) := by
      rintro ⟨hp, hperm⟩
      obtain hne | hperm' := hwait
      · exact hne hp
      · simp [hperm'] at hperm
    exact if_neg hno
  obtain ⟨ms, hlen, hms, hwake⟩ := pwrWake_eq (s := y) h.power
  let u : State := { y with
    spc := wokenSpindle s
    che := { y.che with job := some { s.loadJob tag o with phase := .load } }
    act := { y.act with permission := s.act.permission && decide ((wokenSpindle s).state = s.spc.state) }
    pwr := { y.pwr with
      target := .active, descent := none, progress := if s.pwr.state = .active then .none else .waitSpin } }
  have hi : u.inbox = [] := settled_inbox (s := s) h.listening.settled
  have hw : Within 2 (s.begun tag o) u := by
    have hbegun : s.begun tag o = { u with inbox := ms } := by
      rw [begun_loads hm hcheck hneed, hasked, hwake, show y.inbox = [] from hi]
      rfl
    rw [hbegun]
    exact ((within_all_unheeded (s := u) fun m hx => unheeded_wake u (hms m hx)).emptied hi).mono hlen
  have hold : u.Holding (s.soleChain tag o .active) { s.loadJob tag o with phase := .load } :=
    holding_inHand h rfl hi rfl rfl rfl (by simp)
  have hdue : ¬ (unloadDue u = true ∧ unloadAllowed u = true) := by
    by_cases ha : s.pwr.state = .active <;> simp [u, unloadDue, ha]
  have hexec := granted_holds h (mechanismFree_of_medium hm) hw hold hdue rfl rfl (by decide)
  simp only [State.loadJob, decide_eq_true_eq] at hexec
  exact hexec

/-- R28, R106, R163: over parked heads with load permission the load starts, and the drive is ACTIVE. -/
theorem ordersGranted_loads (hh : s.act.head = .parked) (hperm : s.act.permission = true)
    (hlocked : s.spc.state = .locked) :
    exec (.chain tag payload) s = .next (State.replied (acceptedReply tag)
      (powerBecomes .active { s.asking tag o with
        act := { (s.asking tag o).act with
          head := .loading, comb := 2 * (Vol.ofByte o.volume).toNat, attempt := 1, acquisition := some 400000 }
        pwr := { (s.asking tag o).pwr with progress := .none } })) := by
  have hneed : s.act.head.needsLoad = true := by simp [hh, HeadState.needsLoad]
  let x := s.inHand tag o .active .order (some (s.loadJob tag o))
  let y : State := { x with
    act := { x.act with
      loads := [{ party := .che, volume := Vol.ofByte o.volume }], head := .loading,
      comb := 2 * (Vol.ofByte o.volume).toNat, attempt := 1, acquisition := some 400000 } }
  have hi : y.inbox = [] := settled_inbox (s := s) h.listening.settled
  have hasked : actRequestLoad .che (Vol.ofByte o.volume) x = { y with inbox := [.head .parked .loading] } := by
    rw [actRequestLoad_first (s := x) hneed hloads]
    simp [actTryLoad, actHead_eq, x, y, State.inHand, hh, hperm, State.updAct, HeadState.changeTo,
      settled_inbox h.listening.settled]
  obtain ⟨ms, hlen, hms, hwake⟩ := pwrWake_eq (s := { y with inbox := [.head .parked .loading] }) h.power
  have hwoken : wokenSpindle { y with inbox := [.head .parked .loading] } = y.spc := by
    have hy : y.spc.state = .locked := hlocked
    simp [wokenSpindle, hy]
  have hact : ({ y.act with permission := y.act.permission && decide (y.spc.state = y.spc.state) } : Act) = y.act := by
    simp
  let w : State := { y with
    che := { y.che with job := some { s.loadJob tag o with phase := .load } }
    pwr := { y.pwr with
      target := .active, descent := none, progress := if y.pwr.state = .active then .none else .waitSpin } }
  have hbegun : s.begun tag o = { w with inbox := [.head .parked .loading] ++ ms } := by
    rw [begun_loads hm hcheck hneed, hasked, hwake, hwoken, show ({ y.act with
      permission := y.act.permission && decide (y.spc.state = y.spc.state) } : Act) = y.act from hact]
    rfl
  let u : State := powerBecomes .active { w with pwr := { w.pwr with progress := .none } }
  have hu : u = { w with pwr := u.pwr, ntu := u.ntu } := by
    simp only [u, powerBecomes_eq]
  have hraised : loadRaises w = u := if_neg h.power
  have hphase : ∀ j ∈ u.che.job, j.phase ≠ .power := by
    rw [hu]
    rintro j ⟨⟩
    simp
  have hw : Within 4 (s.begun tag o) u := by
    obtain ⟨ms', hlen', hms', hload⟩ := within_loading (s := s.begun tag o) (was := .parked) (tail := ms)
      (by rw [hbegun]; rfl)
    rw [hbegun, loadRaises_inbox, hraised] at hload
    rw [hbegun]
    have hall := within_all_unheeded (s := u) (ms := ms ++ ms') fun m hx => by
      obtain hx | hx := List.mem_append.1 hx
      · exact unheeded_wake u (hms m hx)
      · exact unheeded_reachedBy hphase _ _ m (hms' m hx)
    exact ((hload.trans hall).emptied (by rw [hu]; exact hi)).mono (by simp; omega)
  have hold : u.Holding (s.soleChain tag o .active) { s.loadJob tag o with phase := .load } :=
    holding_inHand h (by rw [hu]; rfl) (by rw [hu]; exact hi) (by rw [hu]; rfl) (by rw [hu]; rfl) rfl (by simp)
  have hdue : ¬ (unloadDue u = true ∧ unloadAllowed u = true) := by
    simp [unloadDue, u, powerBecomes_eq]
  have hexec := granted_holds h (mechanismFree_of_medium hm) hw hold hdue (by rw [hu]; rfl) rfl (by decide)
  simp only [State.loadJob, decide_eq_true_eq] at hexec
  refine hexec.trans ?_
  simp only [u, powerBecomes_eq]
  rfl

end asked
end load

end Sys2Proof.Machine
end

section
/-! PROOF. An EJECT order granted in the event that accepts it (R115, R146 to R149). -/

namespace Sys2Proof.Machine

/-- R148, R149: DRAINING over, with nobody at work, loaded heads unload. -/
theorem within_drained {x : State} (hi : x.inbox = []) (hrule : idleRule x = some .drained) (hj : x.che.job = none)
    (hp : x.pass = none) (hloaded : x.act.head.loaded = true) :
    Within 4 x { x with rcv := { x.rcv with stage := .unloading }, act := x.act.toRamp, xfer := none } := by
  have hparked : x.act.head ≠ .parked := by
    intro hc
    simp [hc, HeadState.loaded] at hloaded
  let y : State := { x with rcv := { x.rcv with stage := .unloading }, act := x.act.toRamp }
  let leaving : List Signal := x.act.seekEnded ++ .boundaryLost :: [.head x.act.head .unloading]
  have hfire : fire .drained x = { y with inbox := leaving } := by
    simp only [fire, rcvEnterUnloading]
    rw [if_neg hparked, actUnload_eq (by exact hloaded)]
    simp [State.updRcv, y, leaving, hi]
  have hleft := within_departure (before := x.act.seekEnded) (after := [.head x.act.head .unloading])
    (s := { y with inbox := leaving }) hj hp rfl (seekEnded_silent x.act) (by simp [Signal.silent]) rfl
  have hfired := Within.rule hi hrule
  rw [hfire] at hfired
  refine (hfired.trans (Within.emptied (t := { y with xfer := none }) hleft hi)).mono ?_
  have := seekEnded_length x.act
  simp only [List.length_singleton]
  omega

section eject
variable {s : State} {tag : Byte} {payload : List Byte} {o : Order}

theorem begun_eject (hkind : o.kind = .eject) : s.begun tag o = orderEject 0 tag.toNat (s.granted tag o) := by
  simp only [State.begun, hkind]

variable (h : s.Takes tag payload o) (hkind : o.kind = .eject)
include h hkind

/-- R143, R146: under holds an EJECT ends MEDIUM HELD. -/
theorem ordersGranted_mediumHeld (hfirst : s.rcv.firstReport = true) (hholds : 0 < s.rcv.holds) :
    ∃ t, exec (.chain tag payload) s = .next t ∧ s.OrderOver tag o .mediumHeld { s.pwr with setWait := none } t := by
  have hends : s.begun tag o =
      { s.inHand tag o .active .order (some { s.firstJob tag o with phase := .ending }) with
        pwr := { s.pwr with idle := 0 }, rcv := { s.rcv with heldEject := none },
        inbox := [.orderEnd .mediumHeld] } := by
    have heject : rcvEject tag.toNat (s.granted tag o) =
        ({ s.granted tag o with rcv := { s.rcv with heldEject := none } }, .refused) := by
      simp [rcvEject, State.granted, State.inHand, State.updRcv, hfirst, hholds]
    simp only [begun_eject hkind, orderEject, heject]
    rw [jobEnd_eq (j := s.firstJob tag o) rfl (by simp [State.firstJob, freshJob])]
    simp [State.granted, State.inHand, State.taken, settled_inbox h.listening.settled]
  exact granted_ends (k := { s.firstJob tag o with phase := .ending }) (w := { s.pwr with idle := 0 }) (held := none) h
    (by simp [hkind, OrderKind.mechanismFree]) hends (by exact ⟨rfl, rfl, rfl, rfl, rfl⟩) h.quiet.progress

/-- R146: before the first presence report an EJECT is held, with the mechanism. -/
theorem ordersGranted_ejectHeld (hfirst : s.rcv.firstReport = false) :
    ∃ t, exec (.chain tag payload) s = .next t ∧
      t.che.job = some { s.firstJob tag o with phase := .ejectHeld } ∧
      t = State.replied (acceptedReply tag) { s with
        che := s.taken tag o .active .order t.che.job
        pwr := { s.pwr with idle := 0 }, rcv := { s.rcv with heldEject := some tag.toNat } } := by
  let u : State := { s.inHand tag o .active .order (some { s.firstJob tag o with phase := .ejectHeld }) with
    rcv := { s.rcv with heldEject := some tag.toNat } }
  have hbegun : s.begun tag o = u := by
    have heject : rcvEject tag.toNat (s.granted tag o) =
        ({ s.granted tag o with rcv := { s.rcv with heldEject := some tag.toNat } }, .held) := by
      simp [rcvEject, State.granted, State.inHand, State.updRcv, hfirst]
    simp only [begun_eject hkind, orderEject, heject]
    rfl
  have hold : u.Holding (s.soleChain tag o .active) { s.firstJob tag o with phase := .ejectHeld } :=
    holding_inHand h rfl (settled_inbox (s := s) h.listening.settled) rfl rfl rfl (by simpa [u] using hfirst)
  have hdue : ¬ (unloadDue u = true ∧ unloadAllowed u = true) := by
    simp [u, unloadDue, State.inHand, h.quiet.progress]
  have hexec := granted_holds h (by simp [hkind, OrderKind.mechanismFree]) (by rw [hbegun]; exact .refl u) hold hdue rfl
    rfl (by decide)
  simp only [hkind, reduceCtorEq, false_and, if_false] at hexec
  have hche : (State.rest { u with bbf := s.bbf }).che = u.che := (beginFrame_keeps (setLamp { u with bbf := s.bbf })).2
  refine ⟨_, hexec, by rw [hche]; rfl, ?_⟩
  rw [hche]
  rfl

omit hkind in
theorem chains_ejectWait {u : State} (hche : u.che = (s.inHand tag o .ejectWait .free none).che) :
    u.chains = [(0, s.soleChain tag o .ejectWait)] := by
  have hat (i : Nat) : u.chainAt i = (s.inHand tag o .ejectWait .free none).chainAt i := by
    rw [State.chainAt, hche, State.chainAt]
  simp only [State.chains, hat, hche]
  exact chains_inHand h

omit hkind in
/-- A chain that waits for an eject sequence leaves nothing to do. -/
theorem rests_ejectWait {u : State} (hche : u.che = (s.inHand tag o .ejectWait .free none).che) (hi : u.inbox = [])
    (hstage : u.rcv.stage = .unloading) (hpwr : u.pwr.progress = .none) (hwaiting : u.lnk.waiting = []) :
    settleOnce u = none := by
  have hjob : u.che.job = none := by rw [hche]; rfl
  have hstate : (s.soleChain tag o .ejectWait).state = .ejectWait := rfl
  refine (settleOnce_none_iff u).2 ⟨hi, ?_⟩
  simp [idleRule, drained, freeStarter, heldEjectDue, lendsTo, readWaits, writeNeeds, unloadOrGrant, unloadDue,
    arbiterChoice, waitingFrame, chainReady, chains_ejectWait h hche, hstate, hjob, hstage, hpwr, hwaiting, oldest]

/-- R115, R147: the EJECT's chain waits for the sequence that RCV starts. -/
theorem begun_ejects (hfirst : s.rcv.firstReport = true) (hholds : s.rcv.holds = 0) : s.begun tag o =
    { s.inHand tag o .ejectWait .free none with
      vol1 := s.vol1.leave
      rcv := { s.rcv with
        stage := .draining, source := some .host, heldEject := none,
        purpose := some (if s.rcv.presence then .cartridgeOut else .doorOpen) }
      inbox := [.ejectStarted] } := by
  have hi := settled_inbox (s := s) h.listening.settled
  have hc : (s.granted tag o).chainAt 0 = some (s.soleChain tag o .active) := by
    rw [State.granted, chainAt_inHand h, if_pos rfl]
  have hwaiting : ((s.granted tag o).updChain 0 fun c => { c with state := .ejectWait }).updChe
      (fun e => { e with job := none, mech := .free }) = s.inHand tag o .ejectWait .free none := by
    rw [updChain_eq hc]
    simp [State.updChe, State.granted, State.inHand, State.taken, State.soleChain]
  have hstarted (st : ChainState) (m : Holder) (j : Option Job) : rcvEject tag.toNat (s.inHand tag o st m j) =
      (rcvStart .host { s.inHand tag o st m j with rcv := { s.rcv with heldEject := none } }, .started) := by
    simp [rcvEject, State.inHand, State.updRcv, hfirst, hholds, h.quiet.stage]
  simp only [begun_eject hkind, orderEject, hwaiting]
  rw [State.granted, hstarted .active, hstarted .ejectWait]
  simp [rcvStart, volLeave, State.updVol1, State.updRcv, State.send, State.inHand, hi]

/-- R147 to R149: an EJECT starts a sequence, which unloads the heads. -/
theorem ordersGranted_ejects (hfirst : s.rcv.firstReport = true) (hholds : s.rcv.holds = 0)
    (hpause : s.rcv.pause = false) (hloaded : s.act.head.loaded = true) :
    exec (.chain tag payload) s = .next (State.replied (acceptedReply tag) { s with
      che := s.taken tag o .ejectWait .free none
      pwr := { s.pwr with idle := 0 }, act := s.act.toRamp, xfer := none, vol1 := s.vol1.leave
      rcv := { s.rcv with
        stage := .unloading, source := some .host, heldEject := none,
        purpose := some (if s.rcv.presence then .cartridgeOut else .doorOpen) } }) := by
  have hi := settled_inbox (s := s) h.listening.settled
  let x : State := { s.inHand tag o .ejectWait .free none with
    vol1 := s.vol1.leave
    rcv := { s.rcv with
      stage := .draining, source := some .host, heldEject := none,
      purpose := some (if s.rcv.presence then .cartridgeOut else .doorOpen) } }
  have hchains : x.chains = [(0, s.soleChain tag o .ejectWait)] := chains_ejectWait h rfl
  have hfrom : Within 1 (s.begun tag o) x := by
    have hnone : cheEjectStarted x = x := by
      have hempty : slotsOldestFirst leavingChain x = [] := by
        have hstays : leavingChain (s.soleChain tag o .ejectWait) = false := rfl
        rw [slotsOldestFirst, hchains, List.filter_cons_of_neg (by simp [hstays]), List.filter_nil]
        generalize x.che.table.length = n
        cases n <;> rfl
      rw [cheEjectStarted, hempty]
      rfl
    rw [begun_ejects h hkind hfirst hholds]
    refine Within.step rfl (Eq.trans ?_ hnone)
    rw [show x = { x with inbox := [] } from by rw [← hi]; rfl]
    rfl
  have hdrained : idleRule x = some .drained := by
    have : drained x = true := by
      have hstate : (s.soleChain tag o .ejectWait).state.inProgress = false := rfl
      have hstage : x.rcv.stage = .draining := rfl
      have hruns : x.rcv.pause = false := hpause
      have hpass : x.pass = none := h.quiet.no_pass
      simp [drained, hchains, hstate, hstage, hruns, hpass]
    simp [idleRule, this]
  exact granted_rests h (by simp [hkind, OrderKind.mechanismFree])
    (hfrom.trans (within_drained hi hdrained rfl h.quiet.no_pass hloaded))
    (rests_ejectWait h rfl hi rfl h.quiet.progress h.listening.none_waiting) (by decide)

end eject

end Sys2Proof.Machine
end

section
/-! PROOF. A SET POWER order granted in the event that accepts it (R116, R160, R168). -/

namespace Sys2Proof.Machine

/-! ## Reports of heads that leave the medium -/

/-- R34: the answer of a seek that nobody waits for. -/
theorem unheeded_seekAnswer {s : State} (hp : s.pass = none) (hj : ∀ j ∈ s.che.job, j.phase ≠ .seek) (p : Party)
    (x : SeekAnswer) : s.Unheeded (.seekAnswer p x) := by
  intro i
  cases p with
  | vol => simp [react, passSeekAnswer, hp]
  | che =>
    cases hjob : s.che.job with
    | none => simp [react, jobSeekAnswer, hjob]
    | some j => simp [react, jobSeekAnswer, hjob, hj j hjob]

/-- R30: an unload does not end the order at work. -/
theorem unheeded_unloading {s : State} (hp : s.pass = none) (was : HeadState) : s.Unheeded (.head was .unloading) := by
  intro i
  have hjob (t : State) : jobHead was .unloading t = t := by
    unfold jobHead
    split <;> rfl
  simp [react, reactHead, passHead, hp, hjob]

/-- R44: a transfer that an order with no block under way has not begun cannot be abandoned. -/
theorem react_boundaryLost_between {s : State} {j : Job} (hj : s.che.job = some j) (hp : s.pass = none)
    (hg : s.act.gate = false) (hphase : j.phase ≠ .under) (hchain : j.chain ≠ none) :
    react .boundaryLost s = { s with xfer := none } := by
  have hc : closeGate (s.setXfer none) = { s with xfer := none } := by
    have ha : ({ s.act with gate := false } : Act) = s.act := by rw [← hg]
    simp [closeGate, State.updAct, State.setXfer, ha]
  have hb : passBoundary { s with xfer := none } = { s with xfer := none } := passBoundary_of_no_pass hp
  simp [react, boundaryLost, hc, hb, hj, hphase, jobBoundary, hchain]

/-- R160: PWR's unload is sent under an order that waits for it. -/
theorem State.Holding.within_unload {x : State} {c : Chain} {k : Job} (h : x.Holding c k) (hk : k.phase = .power)
    (hkind : k.order.kind ≠ .write) (hdue : unloadDue x = true ∧ unloadAllowed x = true) (hp : x.pass = none)
    (hloaded : x.act.head.loaded = true) : Within 4 x { x with act := x.act.toRamp, xfer := none } := by
  let y : State := { x with act := x.act.toRamp }
  let u : State := { y with xfer := none }
  have hrule : Machine.idleRule x = some (.unload false) := by
    rw [h.idleRule, h.writeNeeds, if_neg fun hc => hkind hc.1]
    exact if_pos hdue
  have hfire : fire (.unload false) x =
      { y with inbox := x.act.seekEnded ++ [.boundaryLost, .head x.act.head .unloading] } := by
    refine (actUnload_eq (s := x) hloaded).trans ?_
    simp [y, h.inbox]
  have hfired := Within.rule h.inbox hrule
  rw [hfire] at hfired
  have hphase : ∀ j ∈ y.che.job, j.phase ≠ .seek := by
    intro j hj
    obtain rfl : k = j := Option.some.inj (h.job.symm.trans hj)
    simp [hk]
  have hanswers := within_unheeded (s := { y with
    inbox := x.act.seekEnded ++ [.boundaryLost, .head x.act.head .unloading] })
    (ms := x.act.seekEnded) (rest := [.boundaryLost, .head x.act.head .unloading]) (fun m hm => by
      simp only [Act.seekEnded, Option.mem_toList, Option.map_eq_some_iff] at hm
      obtain ⟨k, -, rfl⟩ := hm
      exact unheeded_seekAnswer (s := y) hp hphase _ _) rfl
  have hlost := Within.step (s := { y with inbox := [.boundaryLost, .head x.act.head .unloading] }) rfl
    (react_boundaryLost_between (s := { y with inbox := [.head x.act.head .unloading] }) (by exact h.job) hp rfl
      (by simp [hk]) (by simp [h.chain]))
  have hhead := within_all_unheeded (s := u) (ms := [.head x.act.head .unloading])
    (by simpa using unheeded_unloading (s := u) hp _)
  refine (((hfired.trans hanswers).trans hlost).trans (Within.emptied (t := u) hhead h.inbox)).mono ?_
  have := seekEnded_length x.act
  simp only [List.length_singleton]
  omega

/-- 12.2: no order names FAULT HOLD. -/
theorem power_ne_faultHold {payload : List Byte} {o : Order} (h : readOrders payload = [some o]) :
    o.power ≠ some .faultHold := by
  have hmem : some o ∈ readOrders payload := by simp [h]
  obtain ⟨n, -, hread⟩ := List.mem_map.1 hmem
  obtain ⟨kind, -, rfl⟩ := Option.map_eq_some_iff.1 hread
  have hcode (n : Nat) : PowerState.ofCode n ≠ some .faultHold := by
    unfold PowerState.ofCode
    split <;> simp
  dsimp only
  split_ifs
  · exact hcode _
  · simp

section power
variable {s : State} {tag : Byte} {payload : List Byte} {o : Order} {level : PowerState}

theorem begun_setPower (hkind : o.kind = .setPower) (hlevel : o.power = some level) :
    s.begun tag o = orderSetPower level (s.granted tag o) := by
  simp only [State.begun, hkind, hlevel, Option.getD_some]

variable (h : s.Takes tag payload o) (hkind : o.kind = .setPower) (hlevel : o.power = some level)
include h hkind hlevel

/-- R168: at the power state it names, SET POWER ends CLEAN. -/
theorem ordersGranted_powered (hstate : s.pwr.state = level) :
    ∃ t, exec (.chain tag payload) s = .next t ∧ s.OrderOver tag o .clean
      { s.pwr with target := level, progress := .none, descent := none, setWait := none } t := by
  have hends : s.begun tag o =
      { s.inHand tag o .active .order (some { s.firstJob tag o with phase := .ending }) with
        pwr := { s.pwr with idle := 0, target := level, progress := .none, descent := none }
        rcv := { s.rcv with heldEject := s.rcv.heldEject }, inbox := [.orderEnd .clean] } := by
    let x : State := { s.inHand tag o .active .order (some { s.firstJob tag o with phase := .power }) with
      pwr := { s.pwr with idle := 0, target := level, progress := .none, descent := none } }
    have hset : pwrSetPower level (setPhase .power (s.granted tag o)) = (x, true) := if_pos hstate
    simp only [begun_setPower hkind hlevel, orderSetPower, hset]
    rw [jobEnd_eq (s := x) (j := { s.firstJob tag o with phase := .power }) rfl (by simp)]
    simp [x, State.inHand, State.taken, settled_inbox h.listening.settled]
  exact granted_ends (k := { s.firstJob tag o with phase := .ending })
    (w := { s.pwr with idle := 0, target := level, progress := .none, descent := none }) (held := s.rcv.heldEject) h
    (by simp [hkind, OrderKind.mechanismFree]) hends (by exact ⟨rfl, rfl, rfl, rfl, rfl⟩) rfl

/-- R160, R168: from ACTIVE over loaded heads a lower level unloads the heads, and the order waits for it. -/
theorem ordersGranted_moves (hactive : s.pwr.state = .active) (hlower : level ≠ .active)
    (hloaded : s.act.head.loaded = true) :
    ∃ t, exec (.chain tag payload) s = .next t ∧
      t.che.job = some { s.firstJob tag o with phase := .power } ∧
      t = State.replied (acceptedReply tag) { s with
        che := s.taken tag o .active .order t.che.job
        act := s.act.toRamp, xfer := none
        pwr := { s.pwr with idle := 0, target := level, descent := some .hostOrder, progress := .waitParked,
                            setWait := some level } } := by
  have hi := settled_inbox (s := s) h.listening.settled
  have hfree : o.kind.mechanismFree = false := by simp [hkind, OrderKind.mechanismFree]
  have hbelow : level.below .active = true := by
    have hhold : level ≠ .faultHold := by
      rintro rfl
      exact power_ne_faultHold h.orders hlevel
    cases level <;> simp_all [PowerState.below, PowerState.rank]
  have hparked : s.act.head ≠ .parked := by
    intro hc
    simp [hc, HeadState.loaded] at hloaded
  let x : State := { s.inHand tag o .active .order (some { s.firstJob tag o with phase := .power }) with
    pwr := { s.pwr with idle := 0, target := level, descent := some .hostOrder, progress := .waitParked,
                        setWait := some level } }
  let u : State := { x with act := s.act.toRamp, xfer := none }
  have hbegun : s.begun tag o = x := by
    have hset : pwrSetPower level (setPhase .power (s.granted tag o)) = (x, false) := by
      have hother : ¬ s.pwr.state = level := by
        rw [hactive]
        exact hlower.symm
      have hat : (setPhase .power (s.granted tag o)).pwr.state = .active := hactive
      unfold pwrSetPower
      rw [if_neg (by exact hother)]
      simp only [hat, hbelow, if_true]
      rw [pwrMoveDown, if_neg (by exact hparked)]
      rfl
    simp only [begun_setPower hkind hlevel, orderSetPower, hset, hlower, if_false]
  have holds (v : State) (hche : v.che = x.che) (hv : v.inbox = []) (hrcv : v.rcv = s.rcv) (hlnk : v.lnk = x.lnk) :
      v.Holding (s.soleChain tag o .active) { s.firstJob tag o with phase := .power } :=
    holding_inHand h hche hv (by rw [hrcv]) (by rw [hlnk]; rfl) rfl (by simp)
  have hw : Within 4 (s.begun tag o) u := by
    rw [hbegun]
    refine (holds x rfl hi rfl rfl).within_unload rfl (by simp [State.firstJob, freshJob, hkind]) ?_ h.quiet.no_pass
      hloaded
    simp [unloadDue, unloadAllowed, x, State.inHand, State.taken, hactive, hbelow, hloaded]
  have hdue : ¬ (unloadDue u = true ∧ unloadAllowed u = true) := by simp [unloadDue, u, Act.toRamp, HeadState.loaded]
  have hexec := granted_holds h hfree hw (holds u rfl hi rfl rfl) hdue rfl rfl (by decide)
  simp only [hkind, reduceCtorEq, false_and, if_false] at hexec
  have hche : (State.rest { u with bbf := s.bbf }).che = u.che := (beginFrame_keeps (setLamp { u with bbf := s.bbf })).2
  refine ⟨_, hexec, by rw [hche]; rfl, ?_⟩
  rw [hche]
  rfl

end power

end Sys2Proof.Machine
end

section
/-! PROOF. A chain of one order granted in the event that accepts it (O42). -/

namespace Sys2Proof.Machine

section following
variable {s : State} {tag : Byte} {payload : List Byte} {o : Order}

/-- R89: the test for room in the slip list, as the manual says it. -/
theorem tableFull_iff (o : Order) (slips : List Slip) : tableFull o slips = true ↔
    o.slip ≠ none ∧ (∀ e ∈ slips, e.track ≠ o.track) ∧ 128 ≤ slips.length := by
  simp [tableFull, findSlip, Option.isSome_iff_ne_none, and_assoc]

/-- R85: the label INITIALIZE VOLUME gives, as the manual says it. -/
theorem freshLabel_eq (c : VolCtx) (serial : Nat) : freshLabel c serial =
    { formatCount := (c.label.map fun l => if l.formatCount < 65535 then l.formatCount + 1 else 1).getD 1,
      serial := serial } := by
  cases hl : c.label <;> simp [freshLabel, hl, growGeneration_eq]

/-- R71, R75: the orders that go to their block. -/
theorem ordersGranted_placed (h : s.Takes tag payload o) (hm : o.kind.mediumAddressing = true)
    (hh : s.act.head = .following) (hv : s.act.valid = true)
    (hcheck : startCheck o (s.vol (Vol.ofByte o.volume)) = .passes) {p : Placement}
    (hp : translate (s.vol (Vol.ofByte o.volume)).slipsInForce (s.vol (Vol.ofByte o.volume)).altsInForce o.volume
      o.block = some p)
    (hkind : o.kind = .read ∨ o.kind = .write ∨ o.kind = .verify ∨ o.kind = .seek ∨ o.kind = .assignAlternate)
    (hfresh : ¬ ((o.kind = .formatTrack ∨ o.kind = .assignAlternate) ∧ (s.vol (Vol.ofByte o.volume)).stale = true)) :
    s.Begins tag payload o { cylinder := p.cylinder, comb := p.comb }
      (if o.kind = .seek then .seekOnly else if o.kind = .assignAlternate then .altRead else .block)
      fun j => j.placement = some p ∧ j.blk = 0 := by
  obtain hk | hk | hk | hk | hk := hkind
  · simpa [hk] using ordersGranted_block h hm hh hv hcheck hp (.inl hk)
  · simpa [hk] using ordersGranted_block h hm hh hv hcheck hp (.inr (.inl hk))
  · simpa [hk] using ordersGranted_block h hm hh hv hcheck hp (.inr (.inr hk))
  · simpa [hk] using ordersGranted_seek h hm hh hv hcheck hp hk
  · simpa [hk] using ordersGranted_altRead h hm hh hv hcheck hp hk (by simpa [hk] using hfresh)

end following

/-- Settles O42: the accepted chain is granted in the same event (`exec_granted`), and each kind of order comes to its
end or to rest by the lemma about it. -/
theorem ordersGranted : Obligations.OrdersGranted := by
  unfold Obligations.OrdersGranted
  intro s tag payload o hl hq hlen hcount horders hnotify haccepted hpower hplace
  have h : s.Takes tag payload o := ⟨hl, hq, hlen, hcount, horders, hnotify, haccepted, hpower, hplace⟩
  intro reply chain taken ends c
  refine ⟨fun hm => ⟨fun code hcheck => ordersGranted_fails h hm hcheck, ?_, ?_⟩, ?_, ?_, ?_, ?_⟩
  · intro hcheck hh _ hv full stale begins writes
    refine ⟨?_, ?_, ?_, ?_, ?_⟩
    · rintro ⟨hkind, hfull⟩
      exact ordersGranted_full h hm hh hcheck hkind ((tableFull_iff o _).2 hfull)
    · rintro hnot ⟨hkind, hstale⟩ l hlabel
      refine ordersGranted_stale h hm hh hv hcheck hkind (fun hk => ?_) hstale hlabel
      exact Bool.eq_false_iff.2 fun hf => hnot ⟨hk, (tableFull_iff o _).1 hf⟩
    · intro hkind hnot hfresh
      exact ordersGranted_format h hm hh hv hcheck hkind
        (Bool.eq_false_iff.2 fun hf => hnot ⟨hkind, (tableFull_iff o _).1 hf⟩)
        (Bool.eq_false_iff.2 fun hs => hfresh ⟨.inl hkind, hs⟩)
    · intro hkind format label
      have := ordersGranted_fresh h hm hh hv hcheck hkind
      rw [freshLabel_eq] at this
      exact this
    · intro hfresh p hp hkind
      exact ordersGranted_placed h hm hh hv hcheck hp hkind hfresh
  · intro hcheck hloads request waits
    exact ⟨fun hneed hwait => ⟨_, rfl, rfl, rfl, rfl, ordersGranted_wakes h hm hcheck hloads hneed hwait⟩,
      fun hparked hperm hlocked =>
        ⟨_, rfl, rfl, rfl, rfl, ordersGranted_loads h hm hcheck hloads hparked hperm hlocked⟩⟩
  · intro hkind hfirst hholds
    exact ordersGranted_mediumHeld h hkind hfirst hholds
  · intro hkind hfirst
    obtain ⟨t, hexec, hjob, ht⟩ := ordersGranted_ejectHeld h hkind hfirst
    exact ⟨t, hexec, ⟨_, hjob, rfl, rfl, rfl⟩, ht⟩
  · intro hkind hfirst hholds hpause hloaded
    exact ordersGranted_ejects h hkind hfirst hholds hpause hloaded
  · intro hkind level hlevel
    refine ⟨fun hstate => ordersGranted_powered h hkind hlevel hstate, fun hactive hlower hloaded => ?_⟩
    obtain ⟨t, hexec, hjob, ht⟩ := ordersGranted_moves h hkind hlevel hactive hlower hloaded
    exact ⟨t, hexec, ⟨_, hjob, rfl, rfl, rfl⟩, ht⟩

end Sys2Proof.Machine
end

section
/-! PROOF. Who is at work on what (O7, O10): the part of the state that the laws of the mechanism and of the tables
read, and what keeps those laws. -/

namespace Sys2Proof.Machine

/-! ## The duty -/

/-- An order at work, but for what no law of the mechanism or the tables reads. -/
def Job.plain (j : Job) : Job :=
  { chain := none, tag := 0, order := j.order, phase := j.phase, task := j.task, blk := 0, placement := none,
    tries := 0, flags := Flags.empty, placed := none, transferred := none, firstWrite := false, runReady := false,
    due := none, todo := [], failed := [], changed := false, header := [], newLabel := none }

/-- A mount pass, but for its header read. -/
def Pass.plain (p : Pass) : Pass := { p with phase := .load, blocks := [] }

/-- A volume context, but for what no law reads. -/
def VolCtx.plain (c : VolCtx) : VolCtx :=
  { c with label := none, stale := false, mountedSince := false, pass := .none }

/-- The reports that end an order, or end its wait for a mount. -/
def Signal.isCall : Signal → Bool
  | .orderEnd _ | .mountEnded _ | .lentPassAbandoned _ => true
  | _ => false

/-- What the laws of the mechanism and of the tables read of the state. -/
structure Duty where
  mech : Holder
  job : Option Job
  pass : Option Pass
  vol : Vol → VolCtx
  calls : List Signal

def State.duty (s : State) : Duty :=
  { mech := s.che.mech, job := s.che.job.map Job.plain, pass := s.pass.map Pass.plain,
    vol := fun v => (s.vol v).plain, calls := s.inbox.filter Signal.isCall }

/-! ## The laws -/

/-- R49, R51: the states a volume can have, and its protection. -/
def VolCtx.StateLaw (v : Vol) (c : VolCtx) : Prop :=
  match v with
  | .v0 => c.writeProtect = false ∧ c.state ≠ .empty ∧ c.state ≠ .present ∧ c.state ≠ .leaving
  | .v1 => c.state ≠ .unmounted

/-- R57, R107: a pass is lent by an order that waits for its mount, or is being ended with another code than
CLEAN; nothing that would end the wait is on its way. -/
def Duty.Lends (c : Duty) : Prop :=
  (∀ m ∈ c.calls, ∃ code, code ≠ .clean ∧ m = .orderEnd code) ∧
    ∃ j, c.job = some j ∧ j.task = .none ∧ (j.phase = .mount ∨ j.phase = .ending ∧ c.calls ≠ [])

/-- No pass is lent; asked where the tables count. -/
def Duty.Unlent (full : Prop) (c : Duty) : Prop := full → ∀ p, c.pass = some p → p.lent = false

/-- 6.4, R57, and where the tables count, R49 to R51, R67 and R68. -/
structure Duty.Sound (full : Prop) (c : Duty) : Prop where
  order : c.mech = .order ↔ c.job.isSome = true
  own : ∀ v, c.mech = .pass v ↔ ∃ p, c.pass = some p ∧ p.lent = false ∧ p.volume = v
  table : full → ∀ v, (c.vol v).TableLaw ∧ (c.vol v).StateLaw v

/-- The laws in the course of a step: those of the mechanism, and where the tables count, all that keeps them. -/
structure Duty.Law (full : Prop) (c : Duty) : Prop extends c.Sound full where
  work : full → ∀ j, c.job = some j → j.WorkLaw (c.vol j.vol)
  lent : full → ∀ p, c.pass = some p → p.lent = true → c.Lends

section laws
variable {full : Prop} {c d : Duty}

/-- An order at work leaves no pass under its own grant. -/
theorem Duty.Sound.lent_of_job (h : c.Sound full) (hj : c.job.isSome = true) {p : Pass} (hp : c.pass = some p) :
    p.lent = true := by
  have hm := h.order.2 hj
  by_contra hl
  have := (h.own p.volume).2 ⟨p, hp, by simpa using hl, rfl⟩
  rw [hm] at this
  cases this

/-- A free mechanism has nobody at work in it. -/
theorem Duty.Sound.free (h : c.Sound full) (hm : c.mech = .free) : c.job = none ∧
    ∀ p, c.pass = some p → p.lent = true := by
  refine ⟨?_, fun p hp => ?_⟩
  · have := h.order.not.1 (by simp [hm])
    simpa using this
  · by_contra hl
    have := (h.own p.volume).2 ⟨p, hp, by simpa using hl, rfl⟩
    simp [hm] at this

/-- A lent pass has its order wait for the mount, or come to its end. -/
theorem Duty.Law.unlent_of_phase (h : c.Law full) {j : Job} (hj : c.job = some j) (hm : j.phase ≠ .mount)
    (he : j.phase ≠ .ending) : c.Unlent full := by
  intro hf p hp
  by_contra hl
  obtain ⟨-, k, hk, -, hphase⟩ := h.lent hf p hp (by simpa using hl)
  rw [hj] at hk
  cases hk
  obtain hphase | ⟨hphase, -⟩ := hphase
  · exact hm hphase
  · exact he hphase

/-- With nobody at work no pass is lent. -/
theorem Duty.Law.unlent_of_no_job (h : c.Law full) (hj : c.job = none) : c.Unlent full := by
  intro hf p hp
  by_contra hl
  obtain ⟨-, k, hk, -⟩ := h.lent hf p hp (by simpa using hl)
  rw [hj] at hk
  cases hk

theorem Duty.unlent_of_no_pass (hp : c.pass = none) : c.Unlent full := by
  intro _ p h
  rw [hp] at h
  cases h

/-- Where no pass is lent, nothing is asked of one. -/
theorem Duty.Sound.law (h : c.Sound full) (hu : c.Unlent full)
    (hw : full → ∀ j, c.job = some j → j.WorkLaw (c.vol j.vol)) : c.Law full where
  toSound := h
  work := hw
  lent hf p hp hl := by rw [hu hf p hp] at hl; cases hl

/-! ## Phases and tasks -/

/-- The phases of an order past its start and its waits for heads, mount, presence and power; in the others no task is
taken up yet. -/
def Phase.late : Phase → Bool
  | .seek | .busy | .ready | .under | .dataWait | .ending => true
  | .start | .load | .mount | .ejectHeld | .power => false

/-- What an order's checks have made sure of does not depend on which late phase it is in. -/
theorem Job.WorkLaw.late {j : Job} {x : VolCtx} (h : j.WorkLaw x) {p : Phase} (hp : p.late = true) :
    ({ j with phase := p } : Job).WorkLaw x := by
  obtain ⟨-, hr, ht⟩ := h
  refine ⟨fun he => ?_, fun hc => ?_, ht⟩
  · obtain rfl | rfl | rfl | rfl | rfl : p = .start ∨ p = .load ∨ p = .mount ∨ p = .ejectHeld ∨ p = .power := he
    all_goals simp [Phase.late] at hp
  · obtain hn | ⟨hl, -⟩ := hc
    · exact hr (.inl hn)
    · simp only at hl
      simp [hl, Phase.late] at hp

/-- R105: no task before the work begins. -/
theorem Job.WorkLaw.no_task {j : Job} {x : VolCtx} (h : j.WorkLaw x) (hp : j.phase.late = false) : j.task = .none := by
  obtain ⟨ha, -⟩ := h
  apply ha
  cases hq : j.phase <;> simp_all [Phase.late]

/-- An order with no task is asked nothing but its range, and that only where it waits for heads with its checks
passed. -/
theorem Job.workLaw_of_no_task {j : Job} {x : VolCtx} (ht : j.task = .none)
    (hr : j.phase = .load → stateCheck j.order.kind x = .passes → rangeCheck j.order = true) : j.WorkLaw x := by
  refine ⟨fun _ => ht, fun hc => ?_, by rw [ht]; trivial⟩
  obtain hn | ⟨hl, hs⟩ := hc
  · exact absurd ht hn
  · exact hr hl hs

/-- The laws but for the phase of the order at work, which is to be a late one. -/
structure Duty.Poised (full : Prop) (c : Duty) : Prop extends c.Sound full where
  unlent : c.Unlent full
  work : full → ∀ j, c.job = some j → ({ j with phase := .ready } : Job).WorkLaw (c.vol j.vol)

theorem Duty.Law.poised (h : c.Law full) (hu : c.Unlent full) : c.Poised full :=
  ⟨h.toSound, hu, fun hf j hj => (h.work hf j hj).late rfl⟩

theorem Duty.Poised.law (h : c.Poised full) (hp : ∀ j, c.job = some j → j.phase.late = true) : c.Law full :=
  h.toSound.law h.unlent fun hf j hj => (h.work hf j hj).late (hp j hj)

/-- The order goes on to a late phase. -/
theorem Duty.Poised.phase (h : c.Poised full) {p : Phase} (hp : p.late = true) (l : List Signal) :
    ({ c with job := c.job.map fun j => { j with phase := p }, calls := l } : Duty).Law full := by
  refine Duty.Sound.law ⟨?_, h.own, h.table⟩ h.unlent fun hf k hk => ?_
  · simpa using h.order
  · obtain ⟨j, hj, rfl⟩ := Option.map_eq_some_iff.1 hk
    exact (h.work hf j hj).late hp

/-- The order `j` is at work, and no pass is lent. -/
structure Duty.AtWork (full : Prop) (j : Job) (c : Duty) : Prop extends c.Sound full where
  unlent : c.Unlent full
  job : c.job = some j.plain

/-- The order at work takes up a task it has made sure of. -/
theorem Duty.AtWork.poised {j : Job} (h : c.AtWork full j) {k : Job}
    (hk : full → ({ k with phase := .ready } : Job).WorkLaw (c.vol k.vol)) :
    ({ c with job := some k.plain } : Duty).Poised full where
  order := by rw [h.order, h.job]; rfl
  own := h.own
  table := h.table
  unlent := h.unlent
  work hf i hi := by
    cases hi
    exact hk hf

/-- R109: the order at work is to end. -/
theorem Duty.Law.ends (h : c.Law full) {j : Job} (hj : c.job = some j) {code : EndCode}
    (hc : code ≠ .clean ∨ c.Unlent full) :
    ({ c with job := some { j with phase := .ending }, calls := c.calls ++ [.orderEnd code] } : Duty).Law full where
  order := by rw [h.order, hj]; rfl
  own := h.own
  table := h.table
  work hf k hk := by
    cases hk
    exact (h.work hf j hj).late rfl
  lent hf p hp hl := by
    obtain hc | hu := hc
    · obtain ⟨hcalls, k, hk, htask, -⟩ := h.lent hf p hp hl
      rw [hj] at hk
      cases hk
      refine ⟨fun m hm => ?_, _, rfl, htask, .inr ⟨rfl, by simp⟩⟩
      obtain hm | hm := List.mem_append.1 hm
      · exact hcalls m hm
      · exact ⟨code, hc, by simpa using hm⟩
    · rw [hu hf p hp] at hl
      cases hl

/-- A report is on its way where no pass is lent. -/
theorem Duty.Law.called (h : c.Law full) (hu : c.Unlent full) (l : List Signal) :
    ({ c with calls := c.calls ++ l } : Duty).Law full :=
  Duty.Sound.law ⟨h.order, h.own, h.table⟩ hu h.work

/-- R57, R61: a pass leaves the mechanism, free or with the order that lent it. -/
theorem Duty.Law.passes (h : c.Law full) {p : Pass} (hp : c.pass = some p) :
    ({ c with pass := none, mech := if p.lent then c.mech else .free } : Duty).Law full := by
  refine Duty.Sound.law ⟨?_, fun v => ?_, h.table⟩ (Duty.unlent_of_no_pass rfl) h.work
  · cases hl : p.lent with
    | true => exact h.order
    | false =>
      have hm := (h.own p.volume).2 ⟨p, hp, hl, rfl⟩
      have : ¬ c.job.isSome = true := fun hj => by simp [h.order.2 hj] at hm
      simpa using this
  · cases hl : p.lent with
    | true =>
      have : c.mech ≠ .pass v := fun hm => by
        obtain ⟨q, hq, hql, -⟩ := (h.own v).1 hm
        rw [hp] at hq
        cases hq
        rw [hl] at hql
        cases hql
      simpa using this
    | false => simp

/-- R103: a pass takes the free mechanism under its own grant. -/
theorem Duty.Law.grants_own (h : c.Law full) (hm : c.mech = .free) {p : Pass} (hl : p.lent = false) :
    ({ c with pass := some p, mech := .pass p.volume } : Duty).Law full := by
  refine Duty.Sound.law ⟨?_, fun v => ?_, h.table⟩ (fun _ q hq => ?_) h.work
  · simp [(h.free hm).1]
  · simp [hl]
  · cases hq
    exact hl

/-- R57, R107: the order that waits for its mount lends the mechanism to a pass. -/
theorem Duty.Law.grants_lent (h : c.Law full) {j : Job} (hj : c.job = some j) (hphase : j.phase = .mount)
    (hcalls : c.calls = []) {p : Pass} (hl : p.lent = true) : ({ c with pass := some p } : Duty).Law full where
  order := h.order
  own v := by
    have hm : c.mech = .order := h.order.2 (by simp [hj])
    simp [hm, hl]
  table := h.table
  work := h.work
  lent hf q _ _ := ⟨by simp [hcalls], j, hj, (h.work hf j hj).no_task (by simp [hphase, Phase.late]), .inl hphase⟩

/-- R112, R113, R120: the order no longer holds the mechanism; a pass it lent it to goes on under its own grant. -/
def Duty.released (c : Duty) : Duty :=
  { c with
    job := none, pass := c.pass.map fun p => { p with lent := false }
    mech := match c.pass with
      | some p => .pass p.volume
      | none => .free }

theorem Duty.Sound.released (h : c.Sound full) : c.released.Law full := by
  refine Duty.Sound.law ⟨?_, fun v => ?_, h.table⟩ (fun _ p hp => ?_) (fun _ j hj => by cases hj)
  · cases hp : c.pass <;> simp [Duty.released, hp]
  · cases hp : c.pass <;> simp [Duty.released, hp]
  · obtain ⟨q, -, rfl⟩ := Option.map_eq_some_iff.1 hp
    rfl

/-! ## Volumes -/

/-- A volume's context changes to one that keeps its own law. -/
theorem Duty.Sound.vol_set (h : c.Sound full) (v : Vol) {x : VolCtx} (hx : full → x.TableLaw ∧ x.StateLaw v) :
    ({ c with vol := Function.update c.vol v x } : Duty).Sound full where
  order := h.order
  own := h.own
  table hf u := by
    obtain rfl | hu := eq_or_ne u v
    · simpa using hx hf
    · simpa [hu] using h.table hf u

/-- A volume's context changes to one that keeps its own law and that of the order at work on it. -/
theorem Duty.Law.vol_set (h : c.Law full) (v : Vol) {x : VolCtx} (hx : full → x.TableLaw ∧ x.StateLaw v)
    (hw : full → ∀ j, c.job = some j → j.vol = v → j.WorkLaw x) :
    ({ c with vol := Function.update c.vol v x } : Duty).Law full where
  toSound := h.toSound.vol_set v hx
  work hf j hj := by
    obtain hv | hv := eq_or_ne j.vol v
    · simpa [hv] using hw hf j hj hv
    · simpa [hv] using h.work hf j hj
  lent := h.lent

/-- An update of a volume's context that leaves standing whatever an order at work has made sure of: the slip list stays
or becomes empty, no block is newly ASSIGNED, and no order that was to wait passes. -/
structure VolCtx.Tended (v : Vol) (c x : VolCtx) : Prop where
  table : c.TableLaw → x.TableLaw
  state : c.StateLaw v → x.StateLaw v
  slips : x.slips = c.slips ∨ x.slips = []
  alts : assignedBlocks x.alts ⊆ assignedBlocks c.alts
  check : ∀ k, stateCheck k x = .passes → stateCheck k c = .passes

theorem tableFull_nil (o : Order) : tableFull o [] = false := by simp [tableFull]

theorem Job.WorkLaw.tended {j : Job} {v : Vol} {c x : VolCtx} (h : j.WorkLaw c) (hx : c.Tended v x) :
    j.WorkLaw x := by
  obtain ⟨ha, hr, ht⟩ := h
  refine ⟨ha, fun hc => hr (hc.imp_right fun hl => ⟨hl.1, hx.check _ hl.2⟩), ?_⟩
  have hfull : tableFull j.order c.slips = false → tableFull j.order x.slips = false := by
    obtain e | e := hx.slips <;> rw [e]
    · exact id
    · exact fun _ => tableFull_nil _
  have halts : j.order.block ∉ assignedBlocks c.alts → j.order.block ∉ assignedBlocks x.alts := mt fun hb => hx.alts hb
  revert ht
  cases j.task with
  | none | block | seekOnly | altTrack | altRead => exact id
  | header use => exact fun ht hs => (ht hs).imp_left fun hk => ⟨hk.1, hfull hk.2⟩
  | format => exact fun hk => ⟨hk.1, hfull hk.2⟩
  | altWrite | altVerify => exact fun hk => ⟨hk.1, halts hk.2⟩

theorem Duty.Law.tended (h : c.Law full) (v : Vol) {x : VolCtx} (hx : full → (c.vol v).Tended v x) :
    ({ c with vol := Function.update c.vol v x } : Duty).Law full :=
  h.vol_set v (fun hf => ⟨(hx hf).table (h.table hf v).1, (hx hf).state (h.table hf v).2⟩)
    fun hf j hj hv => (hv ▸ h.work hf j hj).tended (hx hf)

end laws

end Sys2Proof.Machine
end

section
/-! PROOF. The operations that leave the duty as it is. (A proof written `(rfl)` keeps its lemma an ordinary rewrite rule,
which the side conditions of the later ones need.) -/

namespace Sys2Proof.Machine

/-! ## Updates -/

section frames
variable (s : State)
@[simp] theorem updSpc_duty (f) : (s.updSpc f).duty = s.duty := (rfl)
@[simp] theorem updAct_duty (f) : (s.updAct f).duty = s.duty := (rfl)
@[simp] theorem updBbf_duty (f) : (s.updBbf f).duty = s.duty := (rfl)
@[simp] theorem updRcv_duty (f) : (s.updRcv f).duty = s.duty := (rfl)
@[simp] theorem updPwr_duty (f) : (s.updPwr f).duty = s.duty := (rfl)
@[simp] theorem updNtu_duty (f) : (s.updNtu f).duty = s.duty := (rfl)
@[simp] theorem updLnk_duty (f) : (s.updLnk f).duty = s.duty := (rfl)
@[simp] theorem updPins_duty (f) : (s.updPins f).duty = s.duty := (rfl)
@[simp] theorem setXfer_duty (x) : (s.setXfer x).duty = s.duty := (rfl)
@[simp] theorem setCopy_duty (d) : (s.setCopy d).duty = s.duty := (rfl)
@[simp] theorem setSlot_duty (i c) : (s.setSlot i c).duty = s.duty := (rfl)
@[simp] theorem updChain_duty (i f) : (s.updChain i f).duty = s.duty := (rfl)
@[simp] theorem setBlockSlot_duty (i b) : (s.setBlockSlot i b).duty = s.duty := (rfl)
@[simp] theorem attend_duty (a) : (attend a s).duty = s.duty := (rfl)
@[simp] theorem setLamp_duty : (setLamp s).duty = s.duty := (rfl)
@[simp] theorem closeGate_duty : (closeGate s).duty = s.duty := (rfl)
@[simp] theorem openGate_duty : (openGate s).duty = s.duty := (rfl)
@[simp] theorem actWithdraw_duty (p) : (actWithdraw p s).duty = s.duty := (rfl)

@[simp] theorem setPassPhase_duty (ph) : (s.setPassPhase ph).duty = s.duty := by
  cases h : s.pass <;> simp [State.setPassPhase, State.setPass, State.duty, h, Pass.plain] <;> rfl

/-- A report that is none of the calls. -/
theorem send_duty (m : Signal) (hm : m.isCall = false) : (s.send m).duty = s.duty := by
  simp [State.duty, State.send, hm]
  rfl
end frames

/-- The calls, which are the reports the duty counts. -/
theorem send_duty_call {m : Signal} (hm : m.isCall = true) (s : State) :
    (s.send m).duty = { s.duty with calls := s.duty.calls ++ [m] } := by
  simp [State.duty, State.send, hm]
  rfl

section reports
variable (s : State)
@[simp] theorem send_spindle_duty (st) : (s.send (.spindle st)).duty = s.duty := send_duty s _ rfl
@[simp] theorem send_stopped_duty (x) : (s.send (.stopped x)).duty = s.duty := send_duty s _ rfl
@[simp] theorem send_startWithdrawn_duty (x) : (s.send (.startWithdrawn x)).duty = s.duty := send_duty s _ rfl
@[simp] theorem send_stopWithdrawn_duty (x) : (s.send (.stopWithdrawn x)).duty = s.duty := send_duty s _ rfl
@[simp] theorem send_lockLoss_duty : (s.send .lockLoss).duty = s.duty := send_duty s _ rfl
@[simp] theorem send_spinFault_duty : (s.send .spinFault).duty = s.duty := send_duty s _ rfl
@[simp] theorem send_head_duty (h g) : (s.send (.head h g)).duty = s.duty := send_duty s _ rfl
@[simp] theorem send_loaded_duty (p) : (s.send (.loaded p)).duty = s.duty := send_duty s _ rfl
@[simp] theorem send_loadFailed_duty (p) : (s.send (.loadFailed p)).duty = s.duty := send_duty s _ rfl
@[simp] theorem send_seekAnswer_duty (p x) : (s.send (.seekAnswer p x)).duty = s.duty := send_duty s _ rfl
@[simp] theorem send_boundaryLost_duty : (s.send .boundaryLost).duty = s.duty := send_duty s _ rfl
@[simp] theorem send_boundary_duty (w e o d) : (s.send (.boundary w e o d)).duty = s.duty := send_duty s _ rfl
@[simp] theorem send_opening_duty (w) : (s.send (.opening w)).duty = s.duty := send_duty s _ rfl
@[simp] theorem send_positionLost_duty : (s.send .positionLost).duty = s.duty := send_duty s _ rfl
@[simp] theorem send_reached_duty : (s.send .reached).duty = s.duty := send_duty s _ rfl
@[simp] theorem send_supplyFault_duty : (s.send .supplyFault).duty = s.duty := send_duty s _ rfl
@[simp] theorem send_ejectStarted_duty : (s.send .ejectStarted).duty = s.duty := send_duty s _ rfl
@[simp] theorem send_sequenceEnded_duty : (s.send .sequenceEnded).duty = s.duty := send_duty s _ rfl
@[simp] theorem send_enterUnloading_duty : (s.send .enterUnloading).duty = s.duty := send_duty s _ rfl
@[simp] theorem send_attention_duty (a) : (s.send (.attention a)).duty = s.duty := send_duty s _ rfl
end reports

/-- A fold of operations that leave the duty as it is leaves it as it is. -/
theorem foldl_duty {α : Type} {f : State → α → State} (hf : ∀ s a, (f s a).duty = s.duty) (l : List α) (s : State) :
    (l.foldl f s).duty = s.duty := by
  induction l generalizing s with
  | nil => rfl
  | cons a l ih => rw [List.foldl_cons, ih, hf]

/-- R50: the part of a context that no law reads. -/
theorem updVol_duty_of_plain {f : VolCtx → VolCtx} (hf : ∀ c, (f c).plain = c.plain) (v : Vol) (s : State) :
    (s.updVol v f).duty = s.duty := by
  simp only [State.duty]
  congr 1
  · cases v <;> rfl
  · cases v <;> rfl
  · cases v <;> rfl
  · funext u
    cases v <;> cases u <;> simp [State.updVol, State.vol, hf]
  · cases v <;> rfl

/-- R53 to R60: a volume's context changes. -/
theorem updVol_duty (v : Vol) (f : VolCtx → VolCtx) (s : State) :
    (s.updVol v f).duty = { s.duty with vol := Function.update s.duty.vol v (f (s.vol v)).plain } := by
  simp only [State.duty]
  congr 1
  · cases v <;> rfl
  · cases v <;> rfl
  · cases v <;> rfl
  · funext u
    cases v <;> cases u <;> rfl
  · cases v <;> rfl

/-- The part of an order at work that no law reads. -/
@[simp] theorem updJob_duty {f : Job → Job} (s : State) (ho : ∀ j, (f j).order = j.order)
    (hp : ∀ j, (f j).phase = j.phase) (ht : ∀ j, (f j).task = j.task) : (s.updJob f).duty = s.duty := by
  cases h : s.che.job <;> simp [State.updJob, State.updChe, State.duty, h, Job.plain, ho, hp, ht] <;> rfl

section operations
variable (s : State)

/-! ## Actuator Controller -/

@[simp] theorem actHead_duty (h : HeadState) : (actHead h s).duty = s.duty := by
  unfold actHead
  split <;> simp

@[simp] theorem actAnswer_duty (x : SeekAnswer) : (actAnswer x s).duty = s.duty := by
  unfold actAnswer
  split <;> simp

@[simp] theorem actTryLoad_duty : (actTryLoad s).duty = s.duty := by
  unfold actTryLoad
  split
  · rfl
  · split <;> simp

@[simp] theorem actRequestLoad_duty (p : Party) (v : Vol) : (actRequestLoad p v s).duty = s.duty := by
  unfold actRequestLoad
  split
  case _ | _ | _ | _ => simp
  all_goals split <;> simp

@[simp] theorem actPermit_duty : (actPermit s).duty = s.duty := by simp [actPermit]

@[simp] theorem actEnterUnloading_duty (x : SeekAnswer) : (actEnterUnloading x s).duty = s.duty := by
  simp [actEnterUnloading]

@[simp] theorem actUnload_duty : (actUnload s).duty = s.duty := by
  unfold actUnload
  split <;> simp

@[simp] theorem actRetract_duty : (actRetract s).duty = s.duty := by
  unfold actRetract
  split <;> simp

@[simp] theorem actPark_duty : (actPark s).duty = s.duty := by simp [actPark]

@[simp] theorem actRamp_duty : (actRamp s).duty = s.duty := by
  unfold actRamp
  split <;> simp

@[simp] theorem actUnloadExpiry_duty : (actUnloadExpiry s).duty = s.duty := by
  unfold actUnloadExpiry
  split <;> simp

@[simp] theorem actRetractExpiry_duty : (actRetractExpiry s).duty = s.duty := by
  unfold actRetractExpiry
  split <;> simp

@[simp] theorem actAcquisitionExpiry_duty : (actAcquisitionExpiry s).duty = s.duty := by
  unfold actAcquisitionExpiry
  split
  · split
    · simp
    · simpa using foldl_duty (f := fun t (r : LoadRequest) => t.send (.loadFailed r.party)) (by simp) s.act.loads s
  · rfl

@[simp] theorem actAttempt_duty (k : Seek) (again : Bool) : (actAttempt k again s).duty = s.duty := by
  unfold actAttempt
  dsimp only
  split
  · simp
  · split <;> simp

@[simp] theorem actTakeSeek_duty (k : Seek) : (actTakeSeek k s).duty = s.duty := by
  unfold actTakeSeek
  split <;> simp

@[simp] theorem actSeek_duty (p : Party) (t : Target) : (actSeek p t s).1.duty = s.duty := by
  obtain ⟨e, -⟩ | ⟨e, -⟩ | ⟨e, -⟩ | ⟨e, -⟩ := actSeek_cases p t s <;> rw [e] <;> simp

@[simp] theorem actArrive_duty : (actArrive s).duty = s.duty := by simp [actArrive]

@[simp] theorem actFail_duty : (actFail s).duty = s.duty := by
  unfold actFail
  dsimp only
  split
  · simp
  · split <;> simp

@[simp] theorem actMisplaced_duty (p : Party) (t : Target) : (actMisplaced p t s).duty = s.duty := by
  obtain ⟨-, e⟩ | ⟨-, -, -, e⟩ | ⟨-, -, e⟩ := actMisplaced_cases p t s <;> rw [e] <;> simp

@[simp] theorem actAcquire_duty (cyl : Nat) (e : Int) : (actAcquire cyl e s).duty = s.duty := by
  unfold actAcquire
  extract_lets t u v
  have hv : v.duty = s.duty := by
    refine (foldl_duty (f := fun t (r : LoadRequest) => t.send (.loaded r.party)) (by simp) _ _).trans ?_
    simp [t]
  split
  · simpa using hv
  · exact hv

@[simp] theorem actSettleWedge_duty (cyl : Nat) (e : Int) : (actSettleWedge cyl e s).duty = s.duty := by
  unfold actSettleWedge
  repeat' split
  all_goals simp

@[simp] theorem actReacquire_duty (cyl : Nat) : (actReacquire cyl s).duty = s.duty := by
  unfold actReacquire
  dsimp only
  split
  · simp
  · split <;> simp

@[simp] theorem actRecalibrate_duty (cyl : Nat) : (actRecalibrate cyl s).duty = s.duty := by
  unfold actRecalibrate
  split
  · split <;> simp
  · rfl

@[simp] theorem actGateWedge_duty (e : Int) : (actGateWedge e s).duty = s.duty := by
  unfold actGateWedge
  split <;> simp

@[simp] theorem actWedge_duty (w cyl : Nat) (e : Int) (out : ReadOutcome) (data : List Byte) :
    (actWedge w cyl e out data s).duty = s.duty := by
  unfold actWedge
  dsimp only
  split <;> simp

@[simp] theorem actPlanEnd_duty : (actPlanEnd s).duty = s.duty := by
  unfold actPlanEnd
  split <;> simp

@[simp] theorem actSettleEnd_duty : (actSettleEnd s).duty = s.duty := by
  unfold actSettleEnd
  split <;> simp

@[simp] theorem actSeekTimeout_duty : (actSeekTimeout s).duty = s.duty := by
  unfold actSeekTimeout
  split <;> simp

@[simp] theorem actStage1_duty : (actStage1 s).duty = s.duty := by
  unfold actStage1
  split <;> simp

@[simp] theorem actStage2_duty : (actStage2 s).duty = s.duty := by
  unfold actStage2
  split <;> simp

/-! ## Notice Unit -/

@[simp] theorem offerCompletion_duty (i : Nat) : (offerCompletion i s).duty = s.duty := by
  obtain ⟨_, -, -, e⟩ | ⟨-, e⟩ := offerCompletion_cases i s <;> rw [e]
  rfl

@[simp] theorem offerProgress_duty (i : Nat) : (offerProgress i s).duty = s.duty := by
  unfold offerProgress
  repeat' split
  all_goals simp

@[simp] theorem placeArbiter_duty : (placeArbiter s).duty = s.duty := by
  unfold placeArbiter
  repeat' split
  all_goals simp

@[simp] theorem noticeAcknowledged_duty : (noticeAcknowledged s).duty = s.duty := by
  unfold noticeAcknowledged
  repeat' split
  all_goals simp

/-! ## Spindle Controller -/

@[simp] theorem spcTell_duty (st : SpindleState) : (spcTell st s).duty = s.duty := by simp [spcTell]

@[simp] theorem spcDropHeld_duty : (spcDropHeld s).duty = s.duty := by
  unfold spcDropHeld
  split <;> simp

@[simp] theorem spcJoin_duty (x : Requester) : (spcJoin x s).duty = s.duty := by simp [spcJoin]

@[simp] theorem spcLeaveWait_duty (x : Requester) : (spcLeaveWait x s).duty = s.duty := by
  unfold spcLeaveWait
  split <;> simp

@[simp] theorem spcTakeStart_duty : (spcTakeStart s).duty = s.duty := by simp [spcTakeStart]

@[simp] theorem spcStart_duty (x : Requester) : (spcStart x s).1.duty = s.duty := by
  obtain ⟨e, -⟩ | ⟨e, -⟩ | ⟨e, -⟩ | ⟨e, -⟩ | ⟨e, -⟩ | ⟨e, -⟩ := spcStart_cases x s <;> rw [e] <;> simp

@[simp] theorem spcEnterBraking_duty (cause : StopCause) : (spcEnterBraking cause s).duty = s.duty := by
  simp [spcEnterBraking]

@[simp] theorem spcStop_duty (x : Requester) (cause : StopCause) : (spcStop x cause s).1.duty = s.duty := by
  obtain ⟨e, -⟩ | ⟨e, -⟩ | ⟨e, -⟩ | ⟨e, -⟩ | ⟨e, -⟩ := spcStop_cases x cause s <;> rw [e] <;> simp

@[simp] theorem spcAnswerStopped_duty : (spcAnswerStopped s).duty = s.duty := by
  unfold spcAnswerStopped
  repeat' split
  all_goals simp

@[simp] theorem spcStopped_duty : (spcStopped s).duty = s.duty := by
  unfold spcStopped
  dsimp only
  split <;> simp

@[simp] theorem spcConfirmed_duty : (spcConfirmed s).duty = s.duty := by
  unfold spcConfirmed
  split <;> simp

@[simp] theorem spcStopTest_duty (saturated : Bool) {passed : State → State}
    (hp : ∀ t : State, (passed t).duty = t.duty) : (spcStopTest saturated passed s).duty = s.duty := by
  obtain ⟨-, e⟩ | ⟨-, -, e⟩ | ⟨-, -, e⟩ := spcStopTest_cases saturated passed s <;> rw [e] <;> simp [hp]

@[simp] theorem spcStopInput_duty (saturated : Bool) : (spcStopInput saturated s).duty = s.duty := by
  unfold spcStopInput
  repeat' split
  all_goals simp

@[simp] theorem spcLockingInterval_duty (t : Nat) : (spcLockingInterval t s).duty = s.duty := by
  unfold spcLockingInterval
  dsimp only
  repeat' split
  all_goals simp

@[simp] theorem spcLockLossActs_duty : (spcLockLossActs s).duty = s.duty := by
  unfold spcLockLossActs
  split <;> simp

@[simp] theorem spcLockedInterval_duty (t : Nat) : (spcLockedInterval t s).duty = s.duty := by
  unfold spcLockedInterval
  dsimp only
  repeat' split
  all_goals simp

@[simp] theorem spcInterval_duty (t : Nat) (saturated : Bool) : (spcInterval t saturated s).duty = s.duty := by
  unfold spcInterval
  repeat' split
  all_goals simp

@[simp] theorem spcPurgePulse_duty : (spcPurgePulse s).duty = s.duty := by
  unfold spcPurgePulse
  repeat' split
  all_goals simp

@[simp] theorem spcPermit_duty (was : Bool) : (spcPermit was s).duty = s.duty := by
  unfold spcPermit
  split <;> simp

@[simp] theorem spcTachPulse_duty (ticks : Nat) : (spcTachPulse ticks s).duty = s.duty := by
  unfold spcTachPulse
  dsimp only
  split <;> simp

@[simp] theorem spcSaturated_duty : (spcSaturated s).duty = s.duty := by simp [spcSaturated]

@[simp] theorem spcSpinFault_duty : (spcSpinFault s).duty = s.duty := by simp [spcSpinFault]

@[simp] theorem spcStartExpiry_duty : (spcStartExpiry s).duty = s.duty := by
  unfold spcStartExpiry
  split <;> simp

@[simp] theorem spcRelockExpiry_duty : (spcRelockExpiry s).duty = s.duty := by
  unfold spcRelockExpiry
  split <;> simp

@[simp] theorem spcBrakeExpiry_duty : (spcBrakeExpiry s).duty = s.duty := by
  unfold spcBrakeExpiry
  split <;> simp

/-! ## Receiver Controller -/

@[simp] theorem rcvLock_duty : (rcvLock s).duty = s.duty := (rfl)

@[simp] theorem rcvEnterReleasing_duty : (rcvEnterReleasing s).duty = s.duty := by
  unfold rcvEnterReleasing
  repeat' split
  all_goals simp

@[simp] theorem rcvEnterStopping_duty : (rcvEnterStopping s).duty = s.duty := by
  have ht := spcStop_duty (s.updRcv fun r => { r with stage := .stopping }) .rcv (rcvStopCause s.rcv)
  unfold rcvEnterStopping
  split <;> (rename_i e; rw [e] at ht; simpa using ht)

@[simp] theorem rcvEnterUnloading_duty : (rcvEnterUnloading s).duty = s.duty := by
  unfold rcvEnterUnloading
  dsimp only
  split <;> simp

@[simp] theorem rcvEnd_duty : (rcvEnd s).duty = s.duty := by
  unfold rcvEnd
  dsimp only
  split <;> simp

@[simp] theorem rcvButtonSwitch_duty (was pressed : Bool) : (rcvButtonSwitch was pressed s).duty = s.duty := by
  unfold rcvButtonSwitch
  split <;> simp

@[simp] theorem rcvRefusalExpiry_duty : (rcvRefusalExpiry s).duty = s.duty := (rfl)

@[simp] theorem rcvHold_duty : (rcvHold s).1.duty = s.duty := by
  unfold rcvHold
  repeat' split
  all_goals simp

@[simp] theorem rcvRelease_duty : (rcvRelease s).duty = s.duty := (rfl)

@[simp] theorem rcvSupplyFault_duty : (rcvSupplyFault s).duty = s.duty := by
  unfold rcvSupplyFault
  dsimp only
  split <;> simp

@[simp] theorem rcvSupplyRecovery_duty : (rcvSupplyRecovery s).duty = s.duty := by
  unfold rcvSupplyRecovery
  dsimp only
  split <;> simp

@[simp] theorem rcvParked_duty : (rcvParked s).duty = s.duty := by
  unfold rcvParked
  split <;> simp

@[simp] theorem rcvStopped_duty : (rcvStopped s).duty = s.duty := by
  unfold rcvStopped
  split <;> simp

@[simp] theorem rcvReenter_duty : (rcvReenter s).duty = s.duty := by
  unfold rcvReenter
  split <;> simp

/-! ## Power Manager -/

@[simp] theorem pwrSetState_duty (p : PowerState) : (pwrSetState p s).duty = s.duty := by
  unfold pwrSetState
  dsimp only
  repeat' split
  all_goals simp

@[simp] theorem pwrWake_duty : (pwrWake s).duty = s.duty := by
  unfold pwrWake
  split <;> simp

@[simp] theorem pwrLoading_duty : (pwrLoading s).duty = s.duty := by
  unfold pwrLoading
  dsimp only
  split <;> simp

@[simp] theorem pwrLocked_duty : (pwrLocked s).duty = s.duty := by
  unfold pwrLocked
  repeat' split
  all_goals simp

@[simp] theorem pwrPositionLost_duty : (pwrPositionLost s).duty = s.duty := by
  unfold pwrPositionLost
  split <;> simp

@[simp] theorem pwrSpinFault_duty : (pwrSpinFault s).duty = s.duty := by
  unfold pwrSpinFault
  split <;> simp

@[simp] theorem pwrSpindle_duty (st : SpindleState) : (pwrSpindle st s).duty = s.duty := by
  unfold pwrSpindle
  split <;> simp

@[simp] theorem pwrIdleReset_duty : (pwrIdleReset s).duty = s.duty := (rfl)

@[simp] theorem pwrLimits_duty (a b d : Nat) : (pwrLimits a b d s).duty = s.duty := (rfl)

@[simp] theorem pwrLinkReset_duty : (pwrLinkReset s).duty = s.duty := (rfl)

@[simp] theorem pwrSupplyFault_duty : (pwrSupplyFault s).duty = s.duty := by
  unfold pwrSupplyFault
  extract_lets t
  have ht := spcStop_duty (actRetract (t.send .supplyFault)) .pwr .supply
  split <;> (rename_i e; rw [e] at ht; simpa [t] using ht)

@[simp] theorem pwrFall_duty : (pwrFall s).duty = s.duty := by
  unfold pwrFall
  split <;> simp

@[simp] theorem pwrRise_duty : (pwrRise s).duty = s.duty := by
  unfold pwrRise
  split <;> simp

@[simp] theorem pwrHoldOffExpiry_duty : (pwrHoldOffExpiry s).duty = s.duty := by
  unfold pwrHoldOffExpiry pwrRecovery
  split <;> simp

/-! ## Block Buffer -/

theorem reserveRead_duty {tag sequence : Nat} {s t : State} (h : reserveRead tag sequence s = some t) :
    t.duty = s.duty := by
  obtain ⟨-, e⟩ | ⟨i, -, e⟩ | ⟨-, e⟩ := reserveRead_cases tag sequence s <;> rw [e] at h <;> cases h <;> rfl

@[simp] theorem fillRead_duty (tag order sequence length : Nat) (check : Bool) (data : List Byte) :
    (fillRead tag order sequence length check data s).duty = s.duty := by
  unfold fillRead
  split <;> rfl

@[simp] theorem slotDelivered_duty : (slotDelivered s).duty = s.duty := by
  unfold slotDelivered
  split
  · split <;> rfl
  · rfl

@[simp] theorem reserveEach_duty (tag : Nat) (qs : List Nat) : (reserveEach tag qs s).duty = s.duty := by
  induction qs generalizing s with
  | nil => rfl
  | cons q qs ih =>
    unfold reserveEach
    split
    · rw [ih]; rfl
    · rfl

@[simp] theorem reserveWrite_duty (ch : Chain) : (reserveWrite ch s).duty = s.duty := by
  unfold reserveWrite
  dsimp only
  split <;> simp

@[simp] theorem fillWrite_duty (tag sequence : Nat) (data : List Byte) :
    (fillWrite tag sequence data s).duty = s.duty := by
  unfold fillWrite
  split <;> rfl

@[simp] theorem freeWritten_duty (tag sequence : Nat) : (freeWritten tag sequence s).duty = s.duty := by
  unfold freeWritten
  split <;> rfl

@[simp] theorem wantDelivered_duty : (wantDelivered s).duty = s.duty := by
  unfold wantDelivered
  split
  · split <;> rfl
  · rfl

@[simp] theorem bbfChainEnd_duty (tag : Nat) : (bbfChainEnd tag s).duty = s.duty := (rfl)

/-! ## Orders and chains -/

@[simp] theorem updJobChain_duty (j : Job) (f : Chain → Chain) : (updJobChain j f s).duty = s.duty := by
  unfold updJobChain
  split <;> rfl

@[simp] theorem jobLeaves_duty (j : Job) : (jobLeaves j s).duty = s.duty := by
  have hstale : (s.updVol j.vol fun c => { c with stale := true }).duty = s.duty :=
    updVol_duty_of_plain (f := fun c => { c with stale := true }) (fun _ => rfl) _ _
  unfold jobLeaves
  dsimp only
  repeat' split
  all_goals simp [hstale]

@[simp] theorem jobPlaced_duty : (jobPlaced s).duty = s.duty := updJob_duty s (fun _ => rfl) (fun _ => rfl) fun _ => rfl

@[simp] theorem countBlock_duty (j : Job) : (countBlock j s).duty = s.duty := by simp [countBlock]

@[simp] theorem passOpen_duty (wedge : Nat) (p : Pass) : (passOpen wedge p s).duty = s.duty := by
  unfold passOpen
  split <;> simp

@[simp] theorem chainEnd_duty (i : Nat) (code : EndCode) (loc : Option FaultLocation) :
    (chainEnd i code loc s).duty = s.duty := by
  unfold chainEnd
  split <;> simp

@[simp] theorem runFree_duty (o : Order) : (runFree o s).1.duty = s.duty := by
  unfold runFree
  split <;> simp

@[simp] theorem chainReach_duty (n i : Nat) : (chainReach n i s).duty = s.duty := by
  induction n generalizing s with
  | zero => rfl
  | succ n ih =>
    unfold chainReach
    split
    · rfl
    · split
      · rfl
      · split
        next o _ _ =>
          have ho := (runFree_duty (offerProgress i s) o).trans (offerProgress_duty s i)
          split <;> rename_i e <;> rw [e] at ho
          · split
            · rw [ih]; exact ho
            · simpa using ho
          · simpa using ho
        · rfl

@[simp] theorem chainPass_duty (i : Nat) : (chainPass i s).duty = s.duty := by simp [chainPass]

@[simp] theorem acceptChain_duty (tag : Nat) (orders : List Order) : (acceptChain tag orders s).duty = s.duty := by
  unfold acceptChain
  split
  · rfl
  · rfl

@[simp] theorem cheAccept_duty (tag : Nat) (payload : List Byte) : (cheAccept tag payload s).1.duty = s.duty := by
  unfold cheAccept
  dsimp only
  split <;> simp

@[simp] theorem cheEjectStarted_duty : (cheEjectStarted s).duty = s.duty := foldl_duty (by simp) _ s

@[simp] theorem ejectEnded_duty (i : Nat) : (ejectEnded i s).duty = s.duty := by
  unfold ejectEnded
  split
  · split <;> simp
  · rfl

@[simp] theorem cheSequenceEnded_duty : (cheSequenceEnded s).duty = s.duty := foldl_duty (by simp) _ s

/-! ## Link Interface and reactions -/

@[simp] theorem takeSettings_duty (payload : List Byte) : (takeSettings payload s).duty = s.duty := (rfl)

@[simp] theorem addReply_duty (r : Reply) : (addReply r s).duty = s.duty := (rfl)

@[simp] theorem replyLeaves_duty : (replyLeaves s).duty = s.duty := (rfl)

@[simp] theorem beginFrame_duty : (beginFrame s).duty = s.duty := by
  obtain ⟨f, -, -, e⟩ | ⟨-, e⟩ := beginFrame_cases s <;> rw [e]
  cases hf : f.carries <;> rfl

@[simp] theorem delivered_duty (o : Outbound) {act : State → State} (ha : ∀ t, (act t).duty = t.duty) :
    (delivered o act s).duty = s.duty := by
  unfold delivered
  split
  · split
    · rw [ha]; rfl
    · rfl
  · rfl

@[simp] theorem reactAttention_duty (a : Attention) : (reactAttention a s).duty = s.duty := by
  unfold reactAttention
  split <;> simp

@[simp] theorem chosen_duty (contested : Bool) : (chosen contested s).duty = s.duty := by
  unfold chosen
  split <;> rfl

/-- R56: a pass asked for is the volume's own affair. -/
@[simp] theorem volLoaded_duty : (volLoaded s).duty = s.duty := by
  have hf : ∀ c : VolCtx, c.request.plain = c.plain := fun c => by
    unfold VolCtx.request
    split <;> rfl
  exact (updVol_duty_of_plain hf .v1 _).trans (updVol_duty_of_plain hf .v0 s)

end operations

end Sys2Proof.Machine
end

section
/-! PROOF. What keeps the laws of the mechanism and the tables: volumes, passes, RCV and PWR. -/

namespace Sys2Proof.Machine

/-! ## Contexts tended -/

section tended
variable {v : Vol} {c x : VolCtx}

/-- The laws read the plain part of a context. -/
theorem VolCtx.Tended.plain (h : c.Tended v x) : c.plain.Tended v x.plain :=
  ⟨h.table, h.state, h.slips, h.alts, h.check⟩

theorem VolCtx.Tended.of_plain (h : x.plain = c.plain) : c.Tended v x := by
  have h' : c.plain.Tended v x.plain := h ▸ ⟨id, id, .inl rfl, List.Subset.refl _, fun _ => id⟩
  exact ⟨h'.table, h'.state, h'.slips, h'.alts, h'.check⟩

theorem VolCtx.Tended.congr {y : VolCtx} (h : c.Tended v y) (hx : x.plain = y.plain) : c.Tended v x := by
  have h' : c.plain.Tended v x.plain := hx ▸ h.plain
  exact ⟨h'.table, h'.state, h'.slips, h'.alts, h'.check⟩

/-- R56 to R61, R66: a volume goes back to needing a mount, is mounting, or is found empty. -/
theorem VolCtx.restated_tended (c : VolCtx) {st : VolState}
    (hs : st = v.needState ∨ st = .mounting ∨ v = .v1 ∧ st = .empty) : c.Tended v { c with state := st } where
  table := id
  state h := by
    cases v with
    | v0 => obtain rfl | rfl | ⟨hv, -⟩ := hs <;> simp_all [VolCtx.StateLaw, Vol.needState]
    | v1 => obtain rfl | rfl | ⟨-, rfl⟩ := hs <;> simp [VolCtx.StateLaw, Vol.needState]
  slips := .inl rfl
  alts := List.Subset.refl _
  check k h := by
    obtain rfl | rfl | ⟨-, rfl⟩ := hs
    · cases v <;> simp [stateCheck, Vol.needState] at h
    · simp [stateCheck] at h
    · simp [stateCheck] at h

theorem assignedBlocks_replicate (n : Nat) : assignedBlocks (List.replicate n .free) = [] := by
  simp [assignedBlocks]

/-- R63, R65: a context drop empties the tables, and leaves a state no order passes in. -/
theorem VolCtx.drop_tended (c : VolCtx) {st : VolState} (hs : st = v.needState ∨ v = .v1 ∧ st = .empty) :
    c.Tended v (c.drop st none) where
  table := by
    rintro ⟨-, -, -, -, -, -, hg, -⟩
    have ha : assignedBlocks (c.drop st none).alts = [] := assignedBlocks_replicate 64
    exact ⟨.nil, Nat.zero_le _, fun _ he => (List.not_mem_nil he).elim, rfl, ha ▸ .nil,
      fun _ hb => (List.not_mem_nil (ha ▸ hb)).elim, hg, Nat.zero_le _, Nat.zero_le _, Nat.zero_le _⟩
  state _ := by
    cases v with
    | v0 => obtain rfl | ⟨hv, -⟩ := hs <;> simp_all [VolCtx.StateLaw, Vol.needState, VolCtx.drop]
    | v1 => obtain rfl | ⟨-, rfl⟩ := hs <;> simp [VolCtx.StateLaw, Vol.needState, VolCtx.drop]
  slips := .inr rfl
  alts := (assignedBlocks_replicate 64 : assignedBlocks (c.drop st none).alts = []) ▸ List.nil_subset _
  check k h := by
    obtain rfl | ⟨-, rfl⟩ := hs
    · cases v <;> simp [stateCheck, Vol.needState, VolCtx.drop] at h
    · simp [stateCheck, VolCtx.drop] at h

/-- R65: a leaving cartridge's context dropped at the entry to DORMANT. -/
theorem VolCtx.drop_leaving_tended (c : VolCtx) : c.Tended .v1 (c.drop .leaving (some .present)) := by
  obtain ⟨ht, -, hs, ha, -⟩ := c.drop_tended (v := .v1) (st := .present) (.inl rfl)
  exact ⟨ht, fun _ => by simp [VolCtx.StateLaw, VolCtx.drop], hs, ha, fun k h => by simp [stateCheck, VolCtx.drop] at h⟩

/-- R62: a leaving cartridge's orders pass where they passed before. -/
theorem VolCtx.leave_tended (c : VolCtx) : c.Tended .v1 c.leave := by
  by_cases hc : c.state = .empty ∨ c.state = .leaving
  · have : c.leave = c := by
      unfold VolCtx.leave
      obtain h | h := hc <;> simp [h]
    rw [this]
    exact .of_plain rfl
  · have hl : c.leave.plain = { c.plain with state := .leaving, before := c.leave.before } := by
      unfold VolCtx.leave
      cases h : c.state <;> simp_all [VolCtx.plain]
    refine VolCtx.Tended.congr (y := { c with state := .leaving, before := c.leave.before }) ?_ hl
    refine ⟨id, fun _ => by simp [VolCtx.StateLaw], .inl rfl, List.Subset.refl _, fun k h => ?_⟩
    have hb : c.leave.before = some (match c.state with
        | .mounted => .mounted
        | .unformatted => .unformatted
        | .headerFault => .headerFault
        | _ => .present) := by
      unfold VolCtx.leave
      cases h : c.state <;> simp_all
    rw [hb] at h
    revert h
    cases hs : c.state <;> simp [stateCheck, hs]

end tended

section operations
variable {full : Prop} {s : State}

/-! ## Reading the duty -/

@[simp] theorem duty_mech (s : State) : s.duty.mech = s.che.mech := (rfl)

theorem duty_job_of {j : Job} (hj : s.che.job = some j) : s.duty.job = some j.plain := by simp [State.duty, hj]

theorem duty_job_none (hj : s.che.job = none) : s.duty.job = none := by simp [State.duty, hj]

theorem duty_pass_of {p : Pass} (hp : s.pass = some p) : s.duty.pass = some p.plain := by simp [State.duty, hp]

theorem unlent_of_no_pass (hp : s.pass = none) : s.duty.Unlent full :=
  Duty.unlent_of_no_pass (by simp [State.duty, hp])

/-- An order in a phase of its own lends nothing. -/
theorem unlent_of_job (h : s.duty.Law full) {j : Job} (hj : s.che.job = some j) (hm : j.phase ≠ .mount)
    (he : j.phase ≠ .ending) : s.duty.Unlent full :=
  h.unlent_of_phase (duty_job_of hj) hm he

@[simp] theorem updVol_unlent (v : Vol) (f : VolCtx → VolCtx) :
    (s.updVol v f).duty.Unlent full ↔ s.duty.Unlent full := by
  cases v <;> rfl

@[simp] theorem closeGate_pass (s : State) : (closeGate s).pass = s.pass := (rfl)

@[simp] theorem updVol_duty_mech (v : Vol) (f : VolCtx → VolCtx) : (s.updVol v f).duty.mech = s.duty.mech := by
  cases v <;> rfl

@[simp] theorem updVol_duty_job (v : Vol) (f : VolCtx → VolCtx) : (s.updVol v f).duty.job = s.duty.job := by
  cases v <;> rfl

@[simp] theorem updVol_duty_calls (v : Vol) (f : VolCtx → VolCtx) : (s.updVol v f).duty.calls = s.duty.calls := by
  cases v <;> rfl

/-- A volume is tended. -/
theorem updVol_law (h : s.duty.Law full) (v : Vol) {f : VolCtx → VolCtx}
    (hf : (s.vol v).Tended v (f (s.vol v))) : (s.updVol v f).duty.Law full := by
  rw [updVol_duty]
  exact h.tended v fun _ => hf.plain

/-- A call is sent where no pass is lent. -/
theorem send_law {m : Signal} (hm : m.isCall = true) (h : s.duty.Law full) (hu : s.duty.Unlent full) :
    (s.send m).duty.Law full := by
  rw [send_duty_call hm]
  exact h.called hu _

/-! ## Volume Manager -/

@[simp] theorem volLeave_law (h : s.duty.Law full) : (volLeave s).duty.Law full :=
  updVol_law h .v1 (VolCtx.leave_tended _)

@[simp] theorem volRemoved_law (h : s.duty.Law full) : (volRemoved s).duty.Law full :=
  updVol_law h .v1 ((VolCtx.drop_tended _ (.inr ⟨rfl, rfl⟩)).congr rfl)

@[simp] theorem volJammed_law (h : s.duty.Law full) : (volJammed s).duty.Law full :=
  updVol_law h .v1 (VolCtx.drop_tended _ (.inl rfl))

@[simp] theorem volWindowEnded_law (h : s.duty.Law full) : (volWindowEnded s).duty.Law full :=
  updVol_law h .v1 (VolCtx.drop_tended _ (.inr ⟨rfl, rfl⟩))

@[simp] theorem volInserted_law (h : s.duty.Law full) : (volInserted s).duty.Law full :=
  updVol_law h .v1 ((VolCtx.drop_tended _ (.inl rfl)).congr rfl)

@[simp] theorem volFirstReport_law (present : Bool) (h : s.duty.Law full) :
    (volFirstReport present s).duty.Law full := by
  refine updVol_law h .v1 (VolCtx.restated_tended _ ?_)
  cases present with
  | true => exact .inl rfl
  | false => exact .inr (.inr ⟨rfl, rfl⟩)

theorem passRelease_duty (p : Pass) (s : State) : (passRelease p s).duty =
    { s.duty with pass := none, mech := if p.lent then s.duty.mech else .free } := by
  unfold passRelease
  cases p.lent <;> rfl

theorem passRelease_law {p : Pass} (hp : s.pass = some p) (h : s.duty.Law full) : (passRelease p s).duty.Law full := by
  rw [passRelease_duty]
  exact h.passes (p := p.plain) (duty_pass_of hp)

theorem passRelease_unlent (p : Pass) (s : State) : (passRelease p s).duty.Unlent full :=
  Duty.unlent_of_no_pass (by rw [passRelease_duty])

/-- R61, R62: an abandoned pass. -/
@[simp] theorem volAbandon_law (code : EndCode) (h : s.duty.Law full) : (volAbandon code s).duty.Law full := by
  unfold volAbandon
  dsimp only
  split
  · exact h
  next p hp =>
    have ht : (s.updVol p.volume fun c =>
        { c with pass := .none, state := if c.state = .leaving then .leaving else p.volume.needState }).duty.Law full := by
      refine updVol_law h _ ?_
      by_cases hl : (s.vol p.volume).state = .leaving
      · exact .of_plain (by simp [VolCtx.plain, hl])
      · exact (VolCtx.restated_tended _ (.inl rfl)).congr (by simp [VolCtx.plain, hl])
    split
    · exact send_law rfl (passRelease_law (by simpa using hp) (by simpa using ht)) (passRelease_unlent _ _)
    · exact passRelease_law (by simpa using hp) (by simpa using ht)

@[simp] theorem volDormant_law (h : s.duty.Law full) : (volDormant s).duty.Law full := by
  have h0 := updVol_law (volAbandon_law .positionLost h) .v0 (VolCtx.drop_tended _ (.inl rfl))
  refine updVol_law h0 .v1 ?_
  split
  · exact VolCtx.drop_tended _ (.inr ⟨rfl, rfl⟩)
  · exact VolCtx.drop_leaving_tended _
  · exact VolCtx.drop_tended _ (.inl rfl)

@[simp] theorem passSeek_law (h : s.duty.Law full) : (passSeek s).duty.Law full := by
  unfold passSeek
  split
  · exact h
  next p _ =>
    have hm := actSeek_duty s .vol { cylinder := 0, comb := 2 * p.volume.toNat }
    split <;> (rename_i e; rw [e] at hm; simp [hm, h])

/-- R57: a pass withdrawn. -/
theorem passWithdraw_law {p : Pass} (hp : s.pass = some p) (h : s.duty.Law full) :
    (passWithdraw p s).duty.Law full := by
  have ht : (passRelease p (s.updVol p.volume fun c => { c with pass := .none, state := p.volume.needState })).duty.Law
      full :=
    passRelease_law (by simpa using hp) (updVol_law h _ ((VolCtx.restated_tended _ (.inl rfl)).congr rfl))
  unfold passWithdraw
  dsimp only
  split
  · exact send_law rfl ht (passRelease_unlent _ _)
  · exact ht

/-- R57: a pass taken up goes for its heads. -/
theorem passGrant_law {v : Vol} {lent : Bool} (h : ∀ block : HeaderBlock,
      let p : Pass := { volume := v, lent := lent, phase := .load, blocks := List.replicate 4 block }
      let t := (s.updVol v fun c => { c with pass := .running, state := .mounting }).setPass (some p)
      (if lent then t else t.setMech (.pass v)).duty.Law full) : (passGrant v lent s).duty.Law full := by
  unfold passGrant
  extract_lets block p t u
  have hu : u.duty.Law full := h block
  have hp : u.pass = some p := by
    simp only [u]
    split <;> rfl
  split
  case _ | _ | _ | _ => exact passSeek_law hu
  all_goals
    split
    · simpa using hu
    · exact passWithdraw_law hp hu

/-- R57: the volume of a pass that runs is mounting. -/
theorem mounting_law (v : Vol) (h : s.duty.Law full) :
    (s.updVol v fun c => { c with pass := .running, state := .mounting }).duty.Law full :=
  updVol_law h v ((VolCtx.restated_tended _ (.inr (.inl rfl))).congr rfl)

/-- R103: the arbiter grants a pass the free mechanism. -/
theorem passGrant_own_law (v : Vol) (h : s.duty.Law full) (hm : s.che.mech = .free) :
    (passGrant v false s).duty.Law full :=
  passGrant_law fun block => (mounting_law v h).grants_own (by simpa using hm)
    (p := { volume := v, lent := false, phase := .load, blocks := [] }) rfl

/-- R57, R107: an order that waits for its mount lends the mechanism to the pass. -/
theorem passGrant_lent_law (v : Vol) {j : Job} (h : s.duty.Law full) (hj : s.che.job = some j)
    (hphase : j.phase = .mount) (hcalls : s.duty.calls = []) : (passGrant v true s).duty.Law full :=
  passGrant_law fun block => (mounting_law v h).grants_lent (j := j.plain) (by simpa using duty_job_of hj) hphase
    (by simpa using hcalls) (p := { volume := v, lent := true, phase := .load, blocks := [] }) rfl

end operations
end Sys2Proof.Machine
end

section
/-! PROOF. The end of a mount pass, RCV and PWR. -/

namespace Sys2Proof.Machine

/-! ## What a valid header says (R59) -/

/-- R59, tests 2 to 4. -/
structure HeaderContents.Valid (h : HeaderContents) : Prop where
  ascending : ascending h.slips
  slips : h.slips.length ≤ 128
  entries : ∀ e ∈ h.slips, e.track ≤ 819 ∧ e.slot ≤ 31
  alts : h.alts.length = 64
  nodup : (assignedBlocks h.alts).Nodup
  blocks : ∀ b ∈ assignedBlocks h.alts, b ≤ 25419

/-- R67: a slip list in order, with every field in its range. -/
theorem slipsInOrder_iff (l : List Slip) :
    slipsInOrder l = true ↔ ascending l ∧ ∀ e ∈ l, e.track ≤ 819 ∧ e.slot ≤ 31 := by
  induction l with
  | nil => simp [slipsInOrder, ascending]
  | cons a l ih =>
    cases l with
    | nil => simp [slipsInOrder, ascending]
    | cons b l =>
      have hlt : ascending (a :: b :: l) ↔ a.track < b.track ∧ ascending (b :: l) := by
        refine ⟨fun h => ?_, fun ⟨hab, h⟩ => ?_⟩
        · obtain ⟨ha, hl⟩ := List.pairwise_cons.1 h
          exact ⟨ha b (by simp), hl⟩
        · obtain ⟨hb, -⟩ := List.pairwise_cons.1 h
          refine List.pairwise_cons.2 ⟨fun e he => ?_, h⟩
          obtain rfl | he := List.mem_cons.1 he
          · exact hab
          · exact hab.trans (hb e he)
      rw [slipsInOrder, Bool.and_eq_true, ih, hlt, List.forall_mem_cons (a := a)]
      simp only [Bool.and_eq_true, decide_eq_true_eq]
      tauto

theorem noRepeats_iff (l : List Nat) : noRepeats l = true ↔ l.Nodup := by
  induction l with
  | nil => simp [noRepeats]
  | cons x l ih => simp [noRepeats, ih]

theorem readHeader_valid {bytes : List Byte} {h : HeaderContents} (e : readHeader bytes = some h) : h.Valid := by
  unfold readHeader at e
  dsimp only at e
  split at e
  next hc =>
    cases e
    obtain ⟨-, -, -, hslips, halts, hblocks, hnodup⟩ := hc
    obtain ⟨hasc, hentries⟩ := (slipsInOrder_iff _).1 hslips
    exact ⟨hasc, by simp, hentries, halts, (noRepeats_iff _).1 hnodup, by simpa using hblocks⟩
  next => cases e

/-! ## The end of a pass (R60) -/

theorem growGeneration_le (n : Nat) (h : n ≤ 65535) : growGeneration n ≤ 65535 := by
  unfold growGeneration
  split <;> omega

theorem saturate_le (top n : Nat) : saturate top n ≤ top := by
  unfold saturate
  split <;> omega

/-- R60: the context a mount pass leaves keeps the laws of its volume. -/
theorem VolCtx.mount_laws {v : Vol} {c : VolCtx} (h : c.TableLaw ∧ c.StateLaw v) (tab : Bool) {st : VolState}
    (hst : st = .mounted ∨ st = .unformatted ∨ st = .headerFault) {hc : Option HeaderContents}
    (hv : ∀ x, hc = some x → x.Valid) :
    (c.mount v tab st hc).TableLaw ∧ (c.mount v tab st hc).StateLaw v := by
  obtain ⟨⟨-, -, -, -, -, -, hg, h1, h2, h3⟩, hs⟩ := h
  have hgen : (c.mount v tab st hc).generation ≤ 65535 := by
    simp only [VolCtx.mount]
    split
    · exact growGeneration_le _ hg
    · exact hg
  have hcount : (c.mount v tab st hc).corrected ≤ 65535 ∧ (c.mount v tab st hc).rereads ≤ 65535 ∧
      (c.mount v tab st hc).dataChecks ≤ 65535 := by
    simp only [VolCtx.mount]
    refine ⟨?_, ?_, ?_⟩ <;> split <;> omega
  refine ⟨?_, ?_⟩
  · cases hc with
    | none =>
      have ha : assignedBlocks (c.mount v tab st none).alts = [] := assignedBlocks_replicate 64
      exact ⟨.nil, Nat.zero_le _, fun _ he => (List.not_mem_nil he).elim, rfl, ha ▸ .nil,
        fun _ hb => (List.not_mem_nil (ha ▸ hb)).elim, hgen, hcount⟩
    | some x =>
      obtain ⟨hasc, hlen, hentries, halts, hnodup, hblocks⟩ := hv x rfl
      exact ⟨hasc, hlen, hentries, halts, hnodup, hblocks, hgen, hcount⟩
  · cases v with
    | v0 => obtain rfl | rfl | rfl := hst <;> exact ⟨hs.1, by simp [VolCtx.mount]⟩
    | v1 => obtain rfl | rfl | rfl := hst <;> simp [VolCtx.StateLaw, VolCtx.mount]

section operations
variable {full : Prop} {s : State}

/-- R60: the order that lent the mechanism to the pass that ends has no task yet. -/
theorem passEnd_law {st : VolState} {hc : Option HeaderContents} (h : s.duty.Law full)
    (hst : st = .mounted ∨ st = .unformatted ∨ st = .headerFault) (hv : ∀ x, hc = some x → x.Valid) :
    (passEnd st hc s).duty.Law full := by
  unfold passEnd
  split
  · exact h
  next p hp =>
    have hd : (passRelease p (s.updVol p.volume (VolCtx.mount p.volume s.pins.tabProtect st hc))).duty =
        { (passRelease p s).duty with
          vol := Function.update (passRelease p s).duty.vol p.volume
            (VolCtx.plain ((s.vol p.volume).mount p.volume s.pins.tabProtect st hc)) } := by
      simp [passRelease_duty, updVol_duty]
    have ht : (passRelease p (s.updVol p.volume (VolCtx.mount p.volume s.pins.tabProtect st hc))).duty.Law full := by
      have hr := passRelease_law hp h
      have hvol : (passRelease p s).duty.vol = s.duty.vol := by rw [passRelease_duty]
      rw [hd]
      refine hr.vol_set p.volume (fun hf => ?_) fun hf j hj _ => ?_
      · exact VolCtx.mount_laws (h.table hf p.volume) _ hst hv
      · have hjs : s.duty.job = some j := by rwa [passRelease_duty] at hj
        obtain ⟨-, k, hk, htask, hphase⟩ := h.lent hf _ (duty_pass_of hp)
          (h.lent_of_job (by simp [hjs]) (duty_pass_of hp))
        rw [hjs] at hk
        cases hk
        refine Job.workLaw_of_no_task htask fun hl => ?_
        simp [hl] at hphase
    refine send_law rfl (by simpa using ht) ?_
    rw [attend_duty]
    exact passRelease_unlent _ _

@[simp] theorem passRead_law (p : Pass) (h : s.duty.Law full) : (passRead p s).duty.Law full := by
  unfold passRead
  dsimp only
  split
  next x e =>
    split
    · exact passEnd_law h (.inl rfl) fun y hy => by cases hy; exact readHeader_valid e
    · exact passEnd_law h (.inr (.inl rfl)) (by simp)
  · exact passEnd_law h (.inr (.inl rfl)) (by simp)

@[simp] theorem passClosed_law (slot : Nat) (seen : IdentitySeen) (off : Bool) (out : ReadOutcome)
    (data : List Byte) (h : s.duty.Law full) : (passClosed slot seen off out data s).duty.Law full := by
  unfold passClosed
  dsimp only
  split
  · exact h
  next p hp =>
    have ht : ∀ blocks, (s.setPass (some { p with blocks := blocks })).duty.Law full := fun blocks => by
      have : (s.setPass (some { p with blocks := blocks })).duty = s.duty := by
        simp only [State.duty, State.setPass, hp]
        rfl
      rwa [this]
    split
    · exact passEnd_law (ht _) (.inr (.inr rfl)) (by simp)
    · split
      · exact passRead_law _ (ht _)
      · exact ht _

@[simp] theorem passBoundary_law (h : s.duty.Law full) : (passBoundary s).duty.Law full := by
  unfold passBoundary
  split <;> simp [h]

@[simp] theorem passLoaded_law (h : s.duty.Law full) : (passLoaded s).duty.Law full := by
  unfold passLoaded
  repeat' split
  all_goals simp [h]

@[simp] theorem passSeekAnswer_law (x : SeekAnswer) (h : s.duty.Law full) : (passSeekAnswer x s).duty.Law full := by
  unfold passSeekAnswer
  repeat' split
  all_goals simp [h]

@[simp] theorem passHead_law (now : HeadState) (h : s.duty.Law full) : (passHead now s).duty.Law full := by
  unfold passHead
  repeat' split
  all_goals simp [h]

@[simp] theorem passSpinFault_law (h : s.duty.Law full) : (passSpinFault s).duty.Law full := by
  unfold passSpinFault
  repeat' split
  all_goals simp [h]

/-! ## Receiver Controller -/

@[simp] theorem rcvStart_law (source : EjectSource) (h : s.duty.Law full) : (rcvStart source s).duty.Law full := by
  simp [rcvStart, h]

@[simp] theorem rcvRemoval_law (h : s.duty.Law full) : (rcvRemoval s).duty.Law full := by
  simp [rcvRemoval, h]

@[simp] theorem rcvJam_law (h : s.duty.Law full) : (rcvJam s).duty.Law full := by simp [rcvJam, h]

@[simp] theorem rcvInsertion_law (h : s.duty.Law full) : (rcvInsertion s).duty.Law full := by
  simp [rcvInsertion, h]

@[simp] theorem rcvWindowEnd_law (h : s.duty.Law full) : (rcvWindowEnd s).duty.Law full := by
  simp [rcvWindowEnd, h]

@[simp] theorem rcvPresenceSwitch_law (was closed : Bool) (h : s.duty.Law full) :
    (rcvPresenceSwitch was closed s).duty.Law full := by
  unfold rcvPresenceSwitch rcvSwitchDue
  repeat' split
  all_goals simp [h]

@[simp] theorem rcvPresenceChange_law (present : Bool) (h : s.duty.Law full) :
    (rcvPresenceChange present s).duty.Law full := by
  unfold rcvPresenceChange
  dsimp only
  repeat' split
  all_goals simp [h]

@[simp] theorem rcvPresenceDebounced_law (h : s.duty.Law full) : (rcvPresenceDebounced s).duty.Law full := by
  unfold rcvPresenceDebounced
  dsimp only
  repeat' split
  all_goals simp [h]

@[simp] theorem rcvRemovalExpiry_law (h : s.duty.Law full) : (rcvRemovalExpiry s).duty.Law full := by
  unfold rcvRemovalExpiry
  dsimp only
  repeat' split
  all_goals simp [h]

@[simp] theorem rcvWindowExpiry_law (h : s.duty.Law full) : (rcvWindowExpiry s).duty.Law full := by
  unfold rcvWindowExpiry
  dsimp only
  repeat' split
  all_goals simp [h]

@[simp] theorem rcvPress_law (h : s.duty.Law full) : (rcvPress s).duty.Law full := by
  unfold rcvPress
  dsimp only
  repeat' split
  all_goals simp [h]

@[simp] theorem rcvButtonDebounced_law (h : s.duty.Law full) : (rcvButtonDebounced s).duty.Law full := by
  unfold rcvButtonDebounced
  dsimp only
  repeat' split
  all_goals simp [h]

@[simp] theorem rcvHoldExpiry_law (h : s.duty.Law full) : (rcvHoldExpiry s).duty.Law full := by
  unfold rcvHoldExpiry
  dsimp only
  repeat' split
  all_goals simp [h]

@[simp] theorem rcvEject_law (tag : Nat) (h : s.duty.Law full) : (rcvEject tag s).1.duty.Law full := by
  unfold rcvEject
  dsimp only
  repeat' split
  all_goals simp [h]

/-- R146: an EJECT that RCV holds or refuses changes nobody's duty. -/
theorem rcvEject_duty {tag : Nat} {t : State} {x : EjectAnswer} (e : rcvEject tag s = (t, x))
    (hx : x = .held ∨ x = .refused) : t.duty = s.duty := by
  unfold rcvEject at e
  dsimp only at e
  repeat' split at e
  all_goals obtain ⟨rfl, rfl⟩ := Prod.mk.inj e
  all_goals simp at hx ⊢

/-! ## Power Manager -/

@[simp] theorem pwrAtTarget_law (h : s.duty.Law full) : (pwrAtTarget s).duty.Law full := by
  unfold pwrAtTarget
  dsimp only
  split <;> simp [h]

@[simp] theorem pwrStopStep_law (h : s.duty.Law full) : (pwrStopStep s).duty.Law full := by
  have ht := spcStop_duty s .pwr (s.pwr.descent.getD .idle)
  unfold pwrStopStep
  split <;> (rename_i e; rw [e] at ht; simp [ht, h])

@[simp] theorem pwrParkedStep_law (h : s.duty.Law full) : (pwrParkedStep s).duty.Law full := by
  unfold pwrParkedStep
  split <;> simp [h]

@[simp] theorem pwrMoveDown_law (level : PowerState) (cause : StopCause) (h : s.duty.Law full) :
    (pwrMoveDown level cause s).duty.Law full := by
  unfold pwrMoveDown
  dsimp only
  split <;> simp [h]

@[simp] theorem pwrParked_law (h : s.duty.Law full) : (pwrParked s).duty.Law full := by
  unfold pwrParked
  split <;> simp [h]

@[simp] theorem pwrStopped_law (h : s.duty.Law full) : (pwrStopped s).duty.Law full := by
  unfold pwrStopped
  repeat' split
  all_goals simp [h]

@[simp] theorem pwrCompare_law (h : s.duty.Law full) : (pwrCompare s).duty.Law full := by
  unfold pwrCompare
  repeat' split
  all_goals simp [h]

@[simp] theorem pwrTick_law (h : s.duty.Law full) : (pwrTick s).duty.Law full := by
  unfold pwrTick
  split <;> simp [h]

@[simp] theorem pwrLimitTick_law (h : s.duty.Law full) : (pwrLimitTick s).duty.Law full := by
  unfold pwrLimitTick
  split <;> simp [h]

@[simp] theorem pwrSetPower_law (p : PowerState) (h : s.duty.Law full) : (pwrSetPower p s).1.duty.Law full := by
  unfold pwrSetPower
  dsimp only
  repeat' split
  all_goals simp [h]

/-- R168: a SET POWER that is REACHED at once changes nobody's duty. -/
theorem pwrSetPower_duty {p : PowerState} {t : State} (e : pwrSetPower p s = (t, true)) : t.duty = s.duty := by
  unfold pwrSetPower at e
  dsimp only at e
  repeat' split at e
  all_goals obtain ⟨rfl, h⟩ := Prod.mk.inj e
  all_goals simp at h ⊢

end operations
end Sys2Proof.Machine
end

section
/-! PROOF. The order at work keeps the laws of the mechanism and the tables: its ends, its seeks and its tasks. -/

namespace Sys2Proof.Machine

section operations
variable {full : Prop} {s : State}

/-! ## The order at work -/

/-- What the order at work has made sure of. -/
theorem work_of_job (h : s.duty.Law full) {j : Job} (hj : s.duty.job = some j.plain) (hf : full) :
    j.WorkLaw (s.vol j.vol) :=
  h.work hf j.plain hj

/-- R105: an order with a task has its range checked. -/
theorem range_of_task (h : s.duty.Law full) {j : Job} (hj : s.duty.job = some j.plain) (ht : j.task ≠ .none)
    (hf : full) : rangeCheck j.order = true := by
  obtain ⟨-, hr, -⟩ := work_of_job h hj hf
  exact hr (.inl ht)

theorem updJob_duty_of_job {j : Job} (hj : s.che.job = some j) (f : Job → Job) :
    (s.updJob f).duty = { s.duty with job := some (f j).plain } := by
  simp [State.duty, hj]
  rfl

theorem setPhase_duty (p : Phase) (s : State) :
    (setPhase p s).duty = { s.duty with job := s.duty.job.map fun j => { j with phase := p } } := by
  cases hj : s.che.job with
  | none => simp [State.duty, setPhase, hj]; rfl
  | some j => rw [setPhase, updJob_duty_of_job hj, duty_job_of hj]; rfl

/-- An update that sets the phase, and nothing else a law reads. -/
theorem updJob_duty_phase {f : Job → Job} {p : Phase} (hf : ∀ j, (f j).plain = { j.plain with phase := p }) (s : State) :
    (s.updJob f).duty = (setPhase p s).duty := by
  rw [setPhase_duty]
  cases hj : s.che.job with
  | none => simp [State.duty, hj]; rfl
  | some j => rw [updJob_duty_of_job hj, duty_job_of hj, hf]; rfl

theorem setPhase_poised {p : Phase} (hp : p.late = true) (h : s.duty.Poised full) : (setPhase p s).duty.Law full := by
  rw [setPhase_duty]
  exact h.phase hp _

theorem setPhase_law {p : Phase} (hp : p.late = true) (h : s.duty.Law full) (hu : s.duty.Unlent full) :
    (setPhase p s).duty.Law full :=
  setPhase_poised hp (h.poised hu)

/-- R106, R107, R115, R116: an order that has no task yet waits. -/
theorem setPhase_waits {j : Job} (p : Phase) (h : s.duty.AtWork full j) (ht : full → j.task = .none)
    (hr : full → p = .load → stateCheck j.order.kind (s.vol j.vol) = .passes → rangeCheck j.order = true) :
    (setPhase p s).duty.Law full := by
  rw [setPhase_duty, h.job]
  refine Duty.Sound.law ⟨?_, h.own, h.table⟩ h.unlent fun hf k hk => ?_
  · rw [h.order, h.job]
    rfl
  · cases hk
    exact Job.workLaw_of_no_task (ht hf) (hr hf)

/-! ## Its end (R109) -/

/-- An order ends once. -/
theorem jobEnd_cases (code : EndCode) (s : State) :
    jobEnd code s = s ∧ (∀ j, s.duty.job = some j → j.phase = .ending) ∨
      ∃ j, s.duty.job = some j ∧ (jobEnd code s).duty =
        { s.duty with job := some { j with phase := .ending }, calls := s.duty.calls ++ [.orderEnd code] } := by
  unfold jobEnd
  split
  next j hj =>
    split
    next he => exact .inl ⟨rfl, fun k hk => by rw [duty_job_of hj] at hk; cases hk; exact he⟩
    next =>
      refine .inr ⟨j.plain, duty_job_of hj, ?_⟩
      rw [send_duty_call rfl, updJob_duty_of_job hj]
      rfl
  next hj => exact .inl ⟨rfl, fun k hk => by rw [duty_job_none hj] at hk; cases hk⟩

theorem jobEnd_law {code : EndCode} (h : s.duty.Law full) (hc : code ≠ .clean ∨ s.duty.Unlent full) :
    (jobEnd code s).duty.Law full := by
  obtain ⟨e, -⟩ | ⟨j, hj, e⟩ := jobEnd_cases code s <;> rw [e]
  · exact h
  · exact h.ends hj hc

theorem jobEnd_poised (code : EndCode) (h : s.duty.Poised full) : (jobEnd code s).duty.Law full := by
  obtain ⟨e, he⟩ | ⟨j, hj, e⟩ := jobEnd_cases code s <;> rw [e]
  · exact h.law fun j hj => by rw [he j hj]; rfl
  · have := h.phase (p := .ending) rfl (s.duty.calls ++ [.orderEnd code])
    simpa [hj] using this

@[simp] theorem jobStop_law (h : s.duty.Law full) : (jobStop s).duty.Law full := jobEnd_law h (.inl (by decide))

theorem jobFault_eq (code : EndCode) (s : State) :
    jobFault code s = jobEnd code s ∨ ∃ j, jobFault code s = jobEnd code (jobLeaves j s) := by
  unfold jobFault
  split
  next j hj =>
    split
    next he => exact .inl (by simp [jobEnd, hj, he])
    next => exact .inr ⟨j, rfl⟩
  next hj => exact .inl (by simp [jobEnd, hj])

theorem jobFault_law {code : EndCode} (h : s.duty.Law full) (hc : code ≠ .clean) :
    (jobFault code s).duty.Law full := by
  obtain e | ⟨j, e⟩ := jobFault_eq code s <;> rw [e]
  · exact jobEnd_law h (.inl hc)
  · exact jobEnd_law (by simpa using h) (.inl hc)

theorem jobFault_poised (code : EndCode) (h : s.duty.Poised full) : (jobFault code s).duty.Law full := by
  obtain e | ⟨j, e⟩ := jobFault_eq code s <;> rw [e]
  · exact jobEnd_poised code h
  · exact jobEnd_poised code (by simpa using h)

/-! ## Its seeks and its tasks -/

theorem askSeek_law (t : Target) (h : s.duty.Poised full) : (askSeek t s).duty.Law full := by
  have hm := actSeek_duty s .che t
  unfold askSeek
  split <;> (rename_i e; rw [e] at hm; rw [← hm] at h)
  · exact setPhase_poised rfl h
  · exact setPhase_poised rfl h
  · exact setPhase_poised rfl h
  · exact jobFault_poised _ h

theorem goTo_law (t : Target) (h : s.duty.Poised full) : (goTo t s).duty.Law full := by
  unfold goTo
  split
  · exact askSeek_law t h
  · exact setPhase_poised rfl h

section takes
variable {j : Job} {t : Task} {f : Job → Job}

/-- The order takes up a task it has made sure of. -/
theorem takes_poised (h : s.duty.AtWork full j) (ho : ∀ k, (f k).order = k.order) (ht : ∀ k, (f k).task = t)
    (hw : full → ({ j with task := t, phase := .ready } : Job).WorkLaw (s.vol j.vol)) :
    (jobPlaced (s.updJob f)).duty.Poised full := by
  obtain ⟨k, hk, hkj⟩ : ∃ k, s.che.job = some k ∧ k.plain = j.plain := Option.map_eq_some_iff.1 h.job
  have hplain : k.plain.order = j.plain.order := by rw [hkj]
  have horder : (f k).order = j.order := (ho k).trans hplain
  have hvol : (f k).vol = j.vol := congrArg (fun o : Order => Vol.ofByte o.volume) horder
  rw [jobPlaced_duty, updJob_duty_of_job hk]
  refine h.poised fun hf => ?_
  have hplain : ({ f k with phase := .ready } : Job).plain = ({ j with task := t, phase := .ready } : Job).plain := by
    simp [Job.plain, horder, ht]
  have hwork : ({ f k with phase := .ready } : Job).plain.WorkLaw (s.vol j.vol) := hplain ▸ hw hf
  rw [hvol]
  exact hwork

theorem takeUp_law (h : s.duty.AtWork full j) (ho : ∀ k, (f k).order = k.order) (ht : ∀ k, (f k).task = t)
    (hw : full → ({ j with task := t, phase := .ready } : Job).WorkLaw (s.vol j.vol)) :
    (takeUp f s).duty.Law full := by
  have hp := takes_poised h ho ht hw
  unfold takeUp
  dsimp only
  split
  · exact goTo_law _ hp
  next hn =>
    refine hp.law fun k hk => ?_
    rw [duty_job_none hn] at hk
    cases hk

end takes

section tasks
variable {j : Job}

/-- R122: the next block. -/
theorem nextBlock_law (h : s.duty.AtWork full j) (hr : full → rangeCheck j.order = true) :
    (nextBlock s).duty.Law full := by
  obtain ⟨k, hk, -⟩ : ∃ k, s.che.job = some k ∧ k.plain = j.plain := Option.map_eq_some_iff.1 h.job
  simp only [nextBlock, hk]
  exact takeUp_law (t := .block) h (fun _ => rfl) (fun _ => rfl) fun hf => ⟨by simp, fun _ => hr hf, trivial⟩

/-- R80: a header write; a stale retry knows what it is for. -/
theorem beginHeader_law {use : HeaderUse} (h : s.duty.AtWork full j) (hr : full → rangeCheck j.order = true)
    (hs : full → use = .stale → j.order.kind = .formatTrack ∧ tableFull j.order (s.vol j.vol).slips = false ∨
      j.order.kind = .assignAlternate) : (beginHeader use s).duty.Law full := by
  obtain ⟨k, hk, -⟩ : ∃ k, s.che.job = some k ∧ k.plain = j.plain := Option.map_eq_some_iff.1 h.job
  simp only [beginHeader, hk]
  exact askSeek_law _ (takes_poised (t := .header use) h (fun _ => rfl) (fun _ => rfl)
    fun hf => ⟨by simp, fun _ => hr hf, hs hf⟩)

/-- R82, R91, R95: the tables are written if they have changed. -/
theorem writeThrough_law (changed : Bool) (ok bad : EndCode) (h : s.duty.AtWork full j)
    (hr : full → rangeCheck j.order = true) (hl : changed = false → s.duty.Law full) :
    (writeThrough changed ok bad s).duty.Law full := by
  unfold writeThrough
  split
  · exact beginHeader_law h hr fun _ hs => by cases hs
  next hc => exact jobEnd_law (hl (by simpa using hc)) (.inr h.unlent)

theorem beginFormat_law (h : s.duty.AtWork full j) (hr : full → rangeCheck j.order = true)
    (hk : full → j.order.kind = .formatTrack ∧ tableFull j.order (s.vol j.vol).slips = false) :
    (beginFormat s).duty.Law full :=
  takeUp_law (t := .format) h (fun _ => rfl) (fun _ => rfl) fun hf => ⟨by simp, fun _ => hr hf, hk hf⟩

theorem beginAltRead_law (k : Job) (h : s.duty.AtWork full j) (hr : full → rangeCheck j.order = true)
    (hk : full → j.order.kind = .assignAlternate) : (beginAltRead k s).duty.Law full :=
  takeUp_law (t := .altRead) h (fun _ => rfl) (fun _ => rfl) fun hf => ⟨by simp, fun _ => hr hf, hk hf⟩

theorem beginAltTrack_law (head : Nat) (h : s.duty.AtWork full j) (hr : full → rangeCheck j.order = true) :
    (beginAltTrack head s).duty.Law full :=
  takeUp_law (t := .altTrack head) h (fun _ => rfl) (fun _ => rfl) fun hf => ⟨by simp, fun _ => hr hf, trivial⟩

end tasks
end operations
end Sys2Proof.Machine
end

section
/-! PROOF. The orders that change the tables keep them in their form (O10): FORMAT TRACK, ASSIGN ALTERNATE and
INITIALIZE VOLUME. -/

namespace Sys2Proof.Machine

/-! ## Slip lists and alternate maps (R67, R68) -/

/-- R91: an entry is added only for a track that had none. -/
theorem length_insertSlip_le (e : Slip) {l : List Slip} (h : ascending l) :
    (insertSlip e l).length ≤ l.length + if (findSlip l e.track).isNone then 1 else 0 := by
  induction l with
  | nil => simp [insertSlip, findSlip]
  | cons f l ih =>
    obtain ⟨hf, hl⟩ := List.pairwise_cons.1 h
    by_cases hlt : e.track < f.track
    · have hnone : findSlip (f :: l) e.track = none := by
        refine List.find?_eq_none.2 fun g hg => ?_
        have : e.track < g.track := by
          obtain rfl | hg := List.mem_cons.1 hg
          · exact hlt
          · exact hlt.trans (hf g hg)
        simp only [beq_iff_eq]
        omega
      simp [insertSlip, hlt, hnone]
    · by_cases he : e.track = f.track
      · simp [insertSlip, he]
      · have hfind : findSlip (f :: l) e.track = findSlip l e.track := by simp [findSlip, Ne.symm he]
        have := ih hl
        simp only [insertSlip, if_neg hlt, if_neg he, List.length_cons, hfind]
        omega

/-- R67, R83, R89, R91: the list after a FORMAT TRACK is in its form where that before it was. -/
theorem formattedSlips_form {o : Order} {l : List Slip} (hk : o.kind = .formatTrack) (hr : rangeCheck o = true)
    (hfull : tableFull o l = false) (hasc : ascending l) (hlen : l.length ≤ 128)
    (hentries : ∀ e ∈ l, e.track ≤ 819 ∧ e.slot ≤ 31) :
    ascending (formattedSlips o.track o.slip l) ∧ (formattedSlips o.track o.slip l).length ≤ 128 ∧
      ∀ e ∈ formattedSlips o.track o.slip l, e.track ≤ 819 ∧ e.slot ≤ 31 := by
  cases hs : o.slip with
  | none =>
    refine ⟨List.Pairwise.filter _ hasc, (List.length_filter_le _ _).trans hlen, fun e he => ?_⟩
    exact hentries e (List.mem_of_mem_filter he)
  | some p =>
    have hrange : o.track ≤ 819 ∧ p ≤ 31 := by simpa [rangeCheck, inRange, hk, hs] using hr
    refine ⟨ascending_insertSlip hasc, ?_, fun e he => ?_⟩
    · have := length_insertSlip_le { track := o.track, slot := p } hasc
      refine this.trans ?_
      simp only [tableFull, hs, Option.isSome_some, Bool.true_and, Bool.and_eq_false_iff, decide_eq_false_iff_not]
        at hfull
      split_ifs with hn
      · have : ¬ l.length ≥ 128 := hfull.resolve_left (by simp [hn])
        omega
      · exact hlen
    · obtain rfl | ⟨-, he⟩ := (mem_insertSlip hasc e).1 he
      · exact hrange
      · exact hentries e he

theorem mem_assignedBlocks {alts : List Alt} {b : Nat} : b ∈ assignedBlocks alts ↔ .assigned b ∈ alts := by
  simp only [assignedBlocks, List.mem_filterMap]
  refine ⟨?_, fun h => ⟨_, h, rfl⟩⟩
  rintro ⟨x, hx, e⟩
  cases x <;> cases e
  exact hx

/-- R92: a slot retired leaves the others as they are. -/
theorem retire_sublist (alts : List Alt) (a : Nat) :
    (assignedBlocks (alts.set a .retired)).Sublist (assignedBlocks alts) := by
  induction alts generalizing a with
  | nil => exact .refl _
  | cons x alts ih =>
    cases a with
    | zero => cases x <;> simp [assignedBlocks]
    | succ a => cases x <;> simpa [assignedBlocks] using ih a

/-- R93: a slot assigned adds its block. -/
theorem mem_assign {alts : List Alt} {a b c : Nat} (h : c ∈ assignedBlocks (alts.set a (.assigned b))) :
    c = b ∨ c ∈ assignedBlocks alts := by
  rw [mem_assignedBlocks] at h ⊢
  obtain h | h := List.mem_or_eq_of_mem_set h
  · exact .inr h
  · cases h
    exact .inl rfl

theorem assign_nodup {alts : List Alt} {b : Nat} (a : Nat) (hb : b ∉ assignedBlocks alts)
    (h : (assignedBlocks alts).Nodup) : (assignedBlocks (alts.set a (.assigned b))).Nodup := by
  induction alts generalizing a with
  | nil => exact h
  | cons x alts ih =>
    have hsub : assignedBlocks alts ⊆ assignedBlocks (x :: alts) := by cases x <;> simp [assignedBlocks]
    have hb' : b ∉ assignedBlocks alts := fun hmem => hb (hsub hmem)
    have hn : (assignedBlocks alts).Nodup := by
      cases x with
      | assigned c => exact (List.nodup_cons.1 h).2
      | free | retired => exact h
    cases a with
    | zero => exact List.nodup_cons.2 ⟨hb', hn⟩
    | succ a =>
      cases x with
      | free | retired => exact ih a hb' hn
      | assigned c =>
        refine List.nodup_cons.2 ⟨fun hc => ?_, ih a hb' hn⟩
        obtain rfl | hc := mem_assign hc
        · exact hb (mem_assignedBlocks.2 (by simp))
        · exact (List.nodup_cons.1 h).1 hc

/-- R92: the old alternate of a block, retired. -/
theorem retired_not_mem {alts : List Alt} {a block : Nat} (hn : (assignedBlocks alts).Nodup)
    (h : findAlternate alts block = some a) : block ∉ assignedBlocks (alts.set a .retired) := by
  obtain ⟨b, hb, -, e⟩ | ⟨hb, -⟩ := findAlternate_cases hn block
  · rw [h] at hb
    cases hb
    rw [mem_assignedBlocks, e, List.mem_map]
    rintro ⟨y, -, hy⟩
    split at hy
    · cases hy
    next hne => exact hne hy
  · rw [h] at hb
    cases hb

theorem not_mem_of_no_alternate {alts : List Alt} {block : Nat} (hn : (assignedBlocks alts).Nodup)
    (h : findAlternate alts block = none) : block ∉ assignedBlocks alts := by
  obtain ⟨b, hb, -⟩ | ⟨-, hb⟩ := findAlternate_cases hn block
  · rw [h] at hb
    cases hb
  · rwa [mem_assignedBlocks]

/-! ## Contexts -/

/-- R53: a block read is counted. -/
theorem VolCtx.report_tended (v : Vol) (out : ReadOutcome) (rereads : Nat) (c : VolCtx) :
    c.Tended v (c.report out rereads) where
  table := by
    rintro ⟨h1, h2, h3, h4, h5, h6, h7, h8, h9, h10⟩
    refine ⟨h1, h2, h3, h4, h5, h6, h7, ?_, saturate_le _ _, ?_⟩
    · simp only [VolCtx.report]
      split
      · exact saturate_le _ _
      · exact h8
    · simp only [VolCtx.report]
      split
      · exact saturate_le _ _
      · exact h10
  state := id
  slips := .inl rfl
  alts := List.Subset.refl _
  check _ := id

/-- R92, R93: an alternate slot is retired. -/
theorem VolCtx.retire_tended (v : Vol) (a : Nat) (c : VolCtx) :
    c.Tended v { c with alts := c.alts.set a .retired } where
  table := by
    rintro ⟨h1, h2, h3, h4, h5, h6, h7⟩
    have hsub := retire_sublist c.alts a
    exact ⟨h1, h2, h3, (List.length_set ..).trans h4, hsub.nodup h5, fun b hb => h6 b (hsub.subset hb), h7⟩
  state := id
  slips := .inl rfl
  alts := (retire_sublist c.alts a).subset
  check _ := id

/-- R93: an alternate slot is assigned to a block that had none. -/
theorem VolCtx.assign_laws {v : Vol} {c : VolCtx} {b : Nat} (h : c.TableLaw ∧ c.StateLaw v) (a : Nat)
    (hb : b ∉ assignedBlocks c.alts) (hr : b ≤ 25419) :
    VolCtx.TableLaw { c with alts := c.alts.set a (.assigned b) } ∧
      VolCtx.StateLaw v { c with alts := c.alts.set a (.assigned b) } := by
  obtain ⟨⟨h1, h2, h3, h4, h5, h6, h7⟩, hs⟩ := h
  refine ⟨⟨h1, h2, h3, (List.length_set ..).trans h4, assign_nodup a hb h5, fun x hx => ?_, h7⟩, hs⟩
  obtain rfl | hx := mem_assign hx
  · exact hr
  · exact h6 x hx

/-- R87: the tables a completed INITIALIZE VOLUME leaves. -/
theorem VolCtx.relabelled_laws {v : Vol} {c : VolCtx} (h : c.TableLaw ∧ c.StateLaw v) (label : Option Label)
    (failed : List Nat) : (c.relabelled v label failed).TableLaw ∧ (c.relabelled v label failed).StateLaw v := by
  obtain ⟨⟨-, -, -, -, -, -, hg, hcount⟩, hs⟩ := h
  have ha : assignedBlocks (c.relabelled v label failed).alts = [] := by
    refine List.eq_nil_iff_forall_not_mem.2 fun b hb => ?_
    obtain ⟨a, -, e⟩ := List.mem_map.1 (mem_assignedBlocks.1 hb)
    split at e <;> cases e
  refine ⟨⟨.nil, Nat.zero_le _, fun _ he => (List.not_mem_nil he).elim, by simp [VolCtx.relabelled], ha ▸ .nil,
    fun _ hb => (List.not_mem_nil (ha ▸ hb)).elim, growGeneration_le _ hg, hcount⟩, ?_⟩
  cases v with
  | v0 =>
    obtain ⟨hw, -, -, hl⟩ := hs
    simp [VolCtx.StateLaw, VolCtx.relabelled, hw, hl]
  | v1 =>
    simp only [VolCtx.StateLaw, VolCtx.relabelled]
    split <;> simp

section operations
variable {full : Prop} {s : State}

theorem report_law (j : Job) (out : ReadOutcome) (rereads : Nat) (h : s.duty.Law full) :
    (s.updVol j.vol (VolCtx.report out rereads)).duty.Law full :=
  updVol_law h _ (VolCtx.report_tended _ _ _ _)

/-- R80: a volume's stale mark. -/
@[simp] theorem updVol_stale_duty (v : Vol) (b : Bool) (s : State) :
    (s.updVol v fun c => { c with stale := b }).duty = s.duty :=
  updVol_duty_of_plain (f := fun c => { c with stale := b }) (fun _ => rfl) v s

/-- R92, R93: a change of an alternate slot. -/
theorem setAlternate_duty (j : Job) (a : Nat) (x : Alt) (s : State) : (setAlternate j a x s).duty =
    (s.updVol j.vol fun c => { c with alts := c.alts.set a x }).duty :=
  updJob_duty _ (fun _ => rfl) (fun _ => rfl) fun _ => rfl

@[simp] theorem setAlternate_unlent (j : Job) (a : Nat) (x : Alt) :
    (setAlternate j a x s).duty.Unlent full ↔ s.duty.Unlent full := by
  rw [setAlternate_duty, updVol_unlent]

theorem setAlternate_job (j : Job) (a : Nat) (x : Alt) : (setAlternate j a x s).duty.job = s.duty.job := by
  rw [setAlternate_duty, updVol_duty_job]

theorem retire_law (j : Job) (a : Nat) (h : s.duty.Law full) : (setAlternate j a .retired s).duty.Law full := by
  rw [setAlternate_duty]
  exact updVol_law h _ (VolCtx.retire_tended _ _ _)

/-! ## FORMAT TRACK (5.5) -/

section tasks
variable {j : Job}

/-- The order at work changes its volume's tables to others in their form. -/
theorem atWork_updVol {f : VolCtx → VolCtx} (h : s.duty.AtWork full j)
    (hf : full → (f (s.vol j.vol)).TableLaw ∧ (f (s.vol j.vol)).StateLaw j.vol) :
    (s.updVol j.vol f).duty.AtWork full j := by
  rw [updVol_duty]
  exact ⟨h.toSound.vol_set _ hf, h.unlent, h.job⟩

/-- R91: all of the track is written. -/
theorem formatDone_law (h : s.duty.Law full) (hu : s.duty.Unlent full) (hj : s.duty.job = some j.plain)
    (ht : j.task = .format) : (formatDone j s).duty.Law full := by
  have hr := range_of_task h hj (by simp [ht])
  unfold formatDone
  dsimp only
  refine writeThrough_law (j := j) _ _ _ (atWork_updVol ⟨h.toSound, hu, hj⟩ fun hf => ?_) hr fun hsame => ?_
  · obtain ⟨⟨hasc, hlen, hentries, hrest⟩, hs⟩ := h.table hf j.vol
    obtain ⟨-, -, hw⟩ := work_of_job h hj hf
    rw [ht] at hw
    obtain ⟨h1, h2, h3⟩ := formattedSlips_form hw.1 (hr hf) hw.2 hasc hlen hentries
    exact ⟨⟨h1, h2, h3, hrest⟩, hs⟩
  · have e : formattedSlips j.order.track j.order.slip (s.vol j.vol).slips = (s.vol j.vol).slips := by
      simpa using hsame
    rw [e]
    exact updVol_law h _ (.of_plain rfl)

/-! ## ASSIGN ALTERNATE (5.6) -/

/-- R93: the choice of a slot for a block that has none. -/
theorem chooseAlternate_law (h : s.duty.Law full) (hu : s.duty.Unlent full) (hj : s.duty.job = some j.plain)
    (hr : full → rangeCheck j.order = true)
    (hk : full → j.order.kind = .assignAlternate ∧ j.order.block ∉ assignedBlocks (s.vol j.vol).alts) :
    (chooseAlternate s).duty.Law full := by
  unfold chooseAlternate
  split
  · exact h
  · split
    next a _ =>
      exact takeUp_law (t := .altWrite a) ⟨h.toSound, hu, hj⟩ (fun _ => rfl) (fun _ => rfl)
        fun hf => ⟨by simp, fun _ => hr hf, hk hf⟩
    · exact writeThrough_law _ _ _ ⟨h.toSound, hu, hj⟩ hr fun _ => h

/-- R92: the block's content has been read. -/
theorem altReadDone_law (h : s.duty.Law full) (hu : s.duty.Unlent full) (hj : s.duty.job = some j.plain)
    (ht : j.task = .altRead) : (altReadDone j s).duty.Law full := by
  have hr := range_of_task h hj (by simp [ht])
  have hk : full → j.order.kind = .assignAlternate := fun hf => by
    obtain ⟨-, -, hw⟩ := work_of_job h hj hf
    rwa [ht] at hw
  have hn : full → (assignedBlocks (s.vol j.vol).alts).Nodup := fun hf => by
    obtain ⟨⟨-, -, -, -, hn, -⟩, -⟩ := h.table hf j.vol
    exact hn
  have hd : (s.updJob fun j => { j with firstWrite := true }).duty = s.duty :=
    updJob_duty s (fun _ => rfl) (fun _ => rfl) fun _ => rfl
  rw [← hd] at h hu hj
  have hvol : (s.updJob fun j => { j with firstWrite := true }).vol j.vol = s.vol j.vol := by cases j.vol <;> rfl
  unfold altReadDone
  dsimp only
  split
  next a ha =>
    refine chooseAlternate_law (j := j) (retire_law j a h) (by simpa using hu) ((setAlternate_job j a _).trans hj) hr
      fun hf => ⟨hk hf, ?_⟩
    have : ((setAlternate j a .retired (s.updJob fun j => { j with firstWrite := true })).vol j.vol).alts =
        (s.vol j.vol).alts.set a .retired := by
      cases hv : j.vol <;> simp [setAlternate, hv, State.updVol, State.vol]
    rw [this]
    exact retired_not_mem (hn hf) ha
  next ha => exact chooseAlternate_law h hu hj hr fun hf => ⟨hk hf, hvol ▸ not_mem_of_no_alternate (hn hf) ha⟩

/-- R93: the chosen slot has been written. -/
theorem altWriteClosed_law (a : Nat) (kept : Bool) (h : s.duty.Law full) (hu : s.duty.Unlent full)
    (hj : s.duty.job = some j.plain) (ht : j.task = .altWrite a) : (altWriteClosed j a kept s).duty.Law full := by
  have hr := range_of_task h hj (by simp [ht])
  have hat : s.duty.AtWork full j := ⟨h.toSound, hu, hj⟩
  unfold altWriteClosed
  split
  · refine takeUp_law (t := .altVerify a) hat (fun _ => rfl) (fun _ => rfl) fun hf => ⟨by simp, fun _ => hr hf, ?_⟩
    obtain ⟨-, -, hw⟩ := work_of_job h hj hf
    rwa [ht] at hw
  · split
    · exact setPhase_law rfl (by simpa using h) (by simpa using hu)
    · exact writeThrough_law _ _ _ hat hr fun _ => h

/-- R93, R94: the chosen slot has been read back. -/
theorem altVerifyClosed_law (a : Nat) (seen : IdentitySeen) (out : ReadOutcome) (data : List Byte)
    (h : s.duty.Law full) (hu : s.duty.Unlent full) (hj : s.duty.job = some j.plain) (ht : j.task = .altVerify a) :
    (altVerifyClosed j a seen out data s).duty.Law full := by
  have hr := range_of_task h hj (by simp [ht])
  have hk : full → j.order.kind = .assignAlternate ∧ j.order.block ∉ assignedBlocks (s.vol j.vol).alts := fun hf => by
    obtain ⟨-, -, hw⟩ := work_of_job h hj hf
    rwa [ht] at hw
  unfold altVerifyClosed
  extract_lets unread final t
  have htl : t.duty.Law full := report_law j _ _ h
  have htu : t.duty.Unlent full := by simpa [t] using hu
  have htj : t.duty.job = some j.plain := by simpa [t] using hj
  have halts : (t.vol j.vol).alts = (s.vol j.vol).alts := by
    cases hv : j.vol <;> simp [t, hv, State.updVol, State.vol, VolCtx.report]
  split
  · refine writeThrough_law (j := j) _ _ _ ?_ hr (by simp)
    rw [setAlternate_duty]
    refine atWork_updVol ⟨htl.toSound, htu, htj⟩ fun hf => ?_
    obtain ⟨hkind, hb⟩ := hk hf
    refine VolCtx.assign_laws (htl.table hf j.vol) a (halts ▸ hb) ?_
    simpa [rangeCheck, inRange, hkind] using hr hf
  · refine chooseAlternate_law (retire_law j a htl) (by simpa using htu) ((setAlternate_job j a _).trans htj) hr
      fun hf => ⟨(hk hf).1, fun hmem => (hk hf).2 ?_⟩
    have : ((setAlternate j a .retired t).vol j.vol).alts = (t.vol j.vol).alts.set a .retired := by
      cases hv : j.vol <;> simp [setAlternate, hv, State.updVol, State.vol]
    rw [this] at hmem
    exact halts ▸ (retire_sublist _ a).subset hmem

/-! ## INITIALIZE VOLUME (5.4) -/

theorem initDone_law {head : Nat} (h : s.duty.Law full) (hu : s.duty.Unlent full) (hj : s.duty.job = some j.plain)
    (ht : j.task = .altTrack head) : (initDone j s).duty.Law full := by
  have hr := range_of_task h hj (by simp [ht])
  have hlaw : (s.updVol j.vol (VolCtx.relabelled j.vol j.newLabel j.failed)).duty.Law full := by
    rw [updVol_duty]
    refine h.vol_set _ (fun hf => VolCtx.relabelled_laws (h.table hf j.vol) j.newLabel j.failed) fun hf k hk _ => ?_
    rw [hj] at hk
    cases hk
    obtain ⟨hp, hrange, -⟩ := work_of_job h hj hf
    refine ⟨hp, fun _ => hrange (.inl (by simp [ht])), ?_⟩
    have : j.plain.task = .altTrack head := ht
    rw [this]
    trivial
  rw [initDone_eq]
  extract_lets t u
  have hud : u.duty = t.duty := attend_duty _ _
  rw [← hud] at hlaw
  have huu : u.duty.Unlent full := by simpa [hud, t] using hu
  split
  · exact jobEnd_law hlaw (.inr huu)
  · exact beginHeader_law (j := j) ⟨hlaw.toSound, huu, by simpa [hud, t] using hj⟩ hr fun _ hs => by cases hs

theorem altTrackDone_law {head : Nat} (h : s.duty.Law full) (hu : s.duty.Unlent full)
    (hj : s.duty.job = some j.plain) (ht : j.task = .altTrack head) : (altTrackDone j head s).duty.Law full := by
  unfold altTrackDone
  split
  · exact beginAltTrack_law 1 ⟨h.toSound, hu, hj⟩ (range_of_task h hj (by simp [ht]))
  · exact initDone_law h hu hj ht

/-! ## Header writes and whole slots (R80 to R82) -/

theorem headerWritten_law {use : HeaderUse} (h : s.duty.Law full) (hu : s.duty.Unlent full)
    (hj : s.duty.job = some j.plain) (ht : j.task = .header use) : (headerWritten j use s).duty.Law full := by
  have hr := range_of_task h hj (by simp [ht])
  have hstale : full → use = .stale → j.order.kind = .formatTrack ∧ tableFull j.order (s.vol j.vol).slips = false ∨
      j.order.kind = .assignAlternate := fun hf => by
    obtain ⟨-, -, hw⟩ := work_of_job h hj hf
    rwa [ht] at hw
  have hslips : ((s.updVol j.vol fun c => { c with stale := false }).vol j.vol).slips = (s.vol j.vol).slips := by
    cases hv : j.vol <;> simp [State.updVol, State.vol]
  unfold headerWritten
  extract_lets t
  have hd : t.duty = s.duty := updVol_stale_duty _ _ _
  rw [← hd] at h hu hj
  have hat : t.duty.AtWork full j := ⟨h.toSound, hu, hj⟩
  cases use with
  | stale =>
    dsimp only
    split
    next hkind =>
      refine beginFormat_law hat hr fun hf => ⟨hkind, ?_⟩
      obtain ⟨-, hfull⟩ | hk := hstale hf rfl
      · exact hslips ▸ hfull
      · rw [hkind] at hk
        cases hk
    next hkind => exact beginAltRead_law j hat hr fun hf => (hstale hf rfl).resolve_left fun hk => hkind hk.1
  | own ok bad => exact jobEnd_law h (.inr hu)
  | fresh => exact beginAltTrack_law 0 hat hr
  | retirements => exact jobEnd_law h (.inr hu)

theorem headerFailed_law (use : HeaderUse) (h : s.duty.Law full) (hu : s.duty.Unlent full) :
    (headerFailed j use s).duty.Law full := by
  unfold headerFailed
  dsimp only
  split <;> exact jobEnd_law (by simpa using h) (.inr (by simpa using hu))

theorem slotFinished_law (h : s.duty.Law full) (hu : s.duty.Unlent full) (hj : s.duty.job = some j.plain) :
    (slotFinished j s).duty.Law full := by
  unfold slotFinished
  split
  · split
    next ht => exact headerWritten_law h hu hj ht
    next ht => exact altTrackDone_law h hu hj ht
    next ht => exact formatDone_law h hu hj ht
    all_goals exact h
  · exact setPhase_law rfl h hu

theorem slotGivenUp_law (slot : Nat) (h : s.duty.Law full) (hu : s.duty.Unlent full) (hj : s.duty.job = some j.plain) :
    (slotGivenUp j slot s).duty.Law full := by
  unfold slotGivenUp
  split
  · exact headerFailed_law _ h hu
  next head _ =>
    dsimp only
    have hd : (s.updJob fun j => { j.finishSlot slot with failed := j.failed ++ [32 * head + slot] }).duty = s.duty :=
      updJob_duty s (fun _ => rfl) (fun _ => rfl) fun _ => rfl
    exact slotFinished_law (hd ▸ h) (hd ▸ hu) (hd ▸ hj)
  · exact jobEnd_law h (.inr hu)

theorem slotClosed_law (slot : Nat) (kept : Bool) (h : s.duty.Law full) (hu : s.duty.Unlent full)
    (hj : s.duty.job = some j.plain) : (slotClosed j slot kept s).duty.Law full := by
  have hfinish : (s.updJob (Job.finishSlot slot)).duty = s.duty :=
    updJob_duty s (fun _ => rfl) (fun _ => rfl) fun _ => rfl
  have hagain : (s.updJob (Job.againSlot slot)).duty = s.duty :=
    updJob_duty s (fun _ => rfl) (fun _ => rfl) fun _ => rfl
  unfold slotClosed
  split
  · exact slotFinished_law (hfinish ▸ h) (hfinish ▸ hu) (hfinish ▸ hj)
  · split
    · exact setPhase_law rfl (hagain ▸ h) (hagain ▸ hu)
    · exact slotGivenUp_law slot h hu hj

end tasks
end operations
end Sys2Proof.Machine
end

section
/-! PROOF. Transfers, order starts and order ends keep the laws of the mechanism and the tables. -/

namespace Sys2Proof.Machine

section operations
variable {full : Prop} {s : State} {j : Job}

/-! ## Opening wedges -/

/-- An update that sets a late phase, and nothing else a law reads. -/
theorem updJob_phase_law {f : Job → Job} {p : Phase} (hf : ∀ j, (f j).plain = { j.plain with phase := p })
    (hp : p.late = true) (h : s.duty.Law full) (hu : s.duty.Unlent full) : (s.updJob f).duty.Law full := by
  rw [updJob_duty_phase hf]
  exact setPhase_law hp h hu

theorem startXfer_law (k : Job) (kind : XferKind) (slot : Nat) (data : List Byte) (h : s.duty.Law full)
    (hu : s.duty.Unlent full) : (startXfer k kind slot data s).duty.Law full := by
  unfold startXfer
  extract_lets t p first
  have ht : t.duty = s.duty := by cases kind <;> simp [t]
  exact updJob_phase_law (p := .under) (fun _ => rfl) rfl (by simpa [ht] using h) (by simpa [ht] using hu)

theorem dataWait_law (k : Job) (h : s.duty.Law full) (hu : s.duty.Unlent full) : (dataWait k s).duty.Law full :=
  setPhase_law rfl (by simpa using h) (by simpa using hu)

theorem dataReady_law (k : Job) (h : s.duty.Law full) (hu : s.duty.Unlent full) : (dataReady k s).duty.Law full :=
  setPhase_law rfl (by simpa using h) (by simpa using hu)

theorem openBlock_law (k : Job) (slot : Nat) (h : s.duty.Law full) (hu : s.duty.Unlent full) :
    (openBlock k slot s).duty.Law full := by
  unfold openBlock
  split
  · exact h
  split
  · split
    next e => exact startXfer_law _ _ _ _ (reserveRead_duty e ▸ h) (reserveRead_duty e ▸ hu)
    next => exact dataWait_law _ h hu
  · split
    · exact startXfer_law _ _ _ _ h hu
    · exact dataWait_law _ h hu
  · exact startXfer_law _ _ _ _ h hu

@[simp] theorem jobOpen_law (wedge : Nat) (h : s.duty.Law full) : (jobOpen wedge s).duty.Law full := by
  unfold jobOpen
  split
  · exact h
  next k hk =>
    split
    next hready =>
      have hu : s.duty.Unlent full := unlent_of_job h hk (by simp [hready]) (by simp [hready])
      have hx := fun kind data => startXfer_law k kind wedge data h hu
      have hb := openBlock_law k wedge h hu
      repeat' split
      all_goals simp [h, hx, hb]
    · exact h

@[simp] theorem openWedge_law (wedge : Nat) (h : s.duty.Law full) : (openWedge wedge s).duty.Law full := by
  unfold openWedge
  split
  · split <;> simp [h]
  · exact h

/-! ## Closing wedges -/

/-- The next block's turn, or the order's end. -/
theorem blockEnded_law (h : s.duty.Law full) (hu : s.duty.Unlent full) (hj : s.duty.job = some j.plain)
    (hr : full → rangeCheck j.order = true) : (blockEnded s).duty.Law full := by
  unfold blockEnded
  split
  · exact h
  extract_lets t
  have ht : t.duty = s.duty := updJob_duty s (fun _ => rfl) (fun _ => rfl) fun _ => rfl
  rw [← ht] at h hu hj
  split
  · exact jobStop_law h
  split
  · exact jobEnd_law h (.inr hu)
  split
  · exact jobEnd_law (by simpa using h) (.inr (by simpa using hu))
  · exact nextBlock_law ⟨h.toSound, hu, hj⟩ hr

/-- R124, R125: the flags and the counters of a block read. -/
theorem report_raise_law (k : Job) (out : ReadOutcome) (rereads : Nat) (h : s.duty.Law full) :
    ((s.updVol k.vol (VolCtx.report out rereads)).updJob fun j => { j with flags := j.flags.raise out }).duty.Law
      full := by
  simpa using report_law k out rereads h

theorem readDone_law (k : Job) (out : ReadOutcome) (data : List Byte) (h : s.duty.Law full)
    (hu : s.duty.Unlent full) (hj : s.duty.job = some j.plain) (hr : full → rangeCheck j.order = true) :
    (readDone k out data s).duty.Law full := by
  unfold readDone
  split
  · exact blockEnded_law h hu hj hr
  next c _ =>
    extract_lets check t u v
    have ht : t.duty.Law full := report_raise_law k out k.tries h
    have hte : t.duty = (s.updVol k.vol (VolCtx.report out k.tries)).duty :=
      updJob_duty _ (fun _ => rfl) (fun _ => rfl) fun _ => rfl
    have hv : (countBlock k v).duty = t.duty := by
      simp only [countBlock_duty, v]
      split <;> simp [u]
    rw [← hv] at ht hte
    exact blockEnded_law ht (by simpa [hte] using hu) (by simpa [hte] using hj) hr

theorem altReadEnded_law (out : ReadOutcome) (data : List Byte) (h : s.duty.Law full)
    (hu : s.duty.Unlent full) (hj : s.duty.job = some j.plain) (ht : j.task = .altRead) :
    (altReadEnded j out data s).duty.Law full := by
  unfold altReadEnded
  split
  · exact jobStop_law h
  extract_lets t u
  have hl : t.duty.Law full := report_raise_law j out j.tries h
  have hte : t.duty = (s.updVol j.vol (VolCtx.report out j.tries)).duty :=
    updJob_duty _ (fun _ => rfl) (fun _ => rfl) fun _ => rfl
  have hud : u.duty = t.duty := setCopy_duty _ _
  rw [← hud] at hl hte
  split
  · exact jobStop_law hl
  · exact altReadDone_law hl (by simpa [hte] using hu) (by simpa [hte] using hj) ht

/-- R124, R126: an attempt more. -/
theorem retry_law (h : s.duty.Law full) (hu : s.duty.Unlent full) :
    (setPhase .ready (s.updJob fun j => { j with tries := j.tries + 1 })).duty.Law full :=
  setPhase_law rfl (by simpa using h) (by simpa using hu)

theorem readClosed_law (seen : IdentitySeen) (off : Bool) (out : ReadOutcome) (data : List Byte)
    (h : s.duty.Law full) (hu : s.duty.Unlent full) (hj : s.duty.job = some j.plain)
    (ht : j.task = .block ∨ j.task = .altRead) : (readClosed j seen off out data s).duty.Law full := by
  have hdone : ∀ out, ((if j.task = .altRead then altReadEnded j else readDone j) out data s).duty.Law full := by
    intro out
    split
    next ha => exact altReadEnded_law out data h hu hj ha
    next => exact readDone_law j out data h hu hj (range_of_task h hj (by obtain ht | ht := ht <;> simp [ht]))
  unfold readClosed
  extract_lets final done
  split
  · exact jobEnd_law h (.inr hu)
  split
  · exact hdone _
  split
  · exact jobStop_law h
  split
  · exact retry_law h hu
  · exact hdone _

theorem writeClosed_law (seen : IdentitySeen) (kept : Bool) (h : s.duty.Law full) (hu : s.duty.Unlent full)
    (hj : s.duty.job = some j.plain) (ht : j.task = .block) : (writeClosed j seen kept s).duty.Law full := by
  have hr := range_of_task h hj (by simp [ht])
  unfold writeClosed
  split
  · exact jobEnd_law h (.inr hu)
  split
  · split
    · exact blockEnded_law (j := j) (by simpa using h) (by simpa using hu) (by simpa using hj) hr
    · exact jobStop_law h
  split
  · exact jobEnd_law h (.inr hu)
  split
  · exact jobFault_law h (by decide)
  split
  · exact jobStop_law h
  · exact retry_law h hu

theorem jobClose_law (x : Xfer) (close : Option Int) (out : ReadOutcome) (data : List Byte) (h : s.duty.Law full)
    (hu : s.duty.Unlent full) : (jobClose x close out data s).duty.Law full := by
  unfold jobClose
  split
  · exact h
  next j hj =>
    replace hj := duty_job_of hj
    split
    next ht =>
      split
      · exact writeClosed_law _ _ h hu hj ht
      · exact readClosed_law _ _ _ _ h hu hj (.inl ht)
    next ht => exact readClosed_law _ _ _ _ h hu hj (.inr ht)
    next ht => exact altWriteClosed_law _ _ h hu hj ht
    next ht =>
      split
      · exact setPhase_law rfl h hu
      · exact altVerifyClosed_law _ _ _ _ h hu hj ht
    case _ | _ | _ => exact slotClosed_law _ _ h hu hj
    all_goals exact h

theorem closeXfer_law (x : Xfer) (close : Option Int) (out : ReadOutcome) (data : List Byte)
    (h : s.duty.Law full) : (closeXfer x close out data s).duty.Law full := by
  unfold closeXfer
  dsimp only
  split
  · split <;> simp [h]
  next hp => exact jobClose_law _ _ _ _ (by simpa using h) (unlent_of_no_pass hp)

@[simp] theorem jobBoundary_law (h : s.duty.Law full) : (jobBoundary s).duty.Law full := by
  unfold jobBoundary
  split
  · split <;> simp [h]
  · exact h

@[simp] theorem boundaryWedge_law (wedge : Nat) (e : Int) (out : ReadOutcome) (data : List Byte)
    (h : s.duty.Law full) : (boundaryWedge wedge e out data s).duty.Law full := by
  unfold boundaryWedge
  rw [send_opening_duty]
  refine jobBoundary_law (passBoundary_law ?_)
  split
  · exact closeXfer_law _ _ _ _ (by simpa using h)
  · simpa using h

@[simp] theorem closingUnread_law (data : List Byte) (h : s.duty.Law full) : (closingUnread data s).duty.Law full := by
  unfold closingUnread
  split
  · exact closeXfer_law _ _ _ _ (by simpa using h)
  · exact h

@[simp] theorem boundaryLost_law (h : s.duty.Law full) : (boundaryLost s).duty.Law full := by
  unfold boundaryLost
  extract_lets t
  have ht : t.duty.Law full := passBoundary_law (by simpa using h)
  split
  · exact ht
  next k hk =>
    split
    next hunder =>
      have hu : t.duty.Unlent full := unlent_of_job ht hk (by simp [hunder]) (by simp [hunder])
      split
      · exact jobStop_law ht
      split
      · exact jobEnd_law ht (.inr hu)
      · exact setPhase_law rfl ht hu
    · exact jobBoundary_law ht

theorem misplaced_law (x : Xfer) (h : s.duty.Law full) : (misplaced x s).duty.Law full := by
  unfold misplaced
  dsimp only
  split
  · simpa using h
  next hp =>
    rw [actMisplaced_duty]
    exact setPhase_law rfl (by simpa using h) (unlent_of_no_pass hp)

@[simp] theorem identityRead_law (identity : Option Identity) (h : s.duty.Law full) :
    (identityRead identity s).duty.Law full := by
  have hm := fun x => misplaced_law (s := s) x h
  unfold identityRead
  repeat' split
  all_goals simp [h, hm]

/-! ## Answers to the order -/

@[simp] theorem jobSeekAnswer_law (x : SeekAnswer) (h : s.duty.Law full) : (jobSeekAnswer x s).duty.Law full := by
  unfold jobSeekAnswer
  split
  · exact h
  next k hk =>
    split
    next hseek =>
      have hu : s.duty.Unlent full := unlent_of_job h hk (by simp [hseek]) (by simp [hseek])
      split
      · split
        · exact jobStop_law h
        split
        · exact jobEnd_law h (.inr hu)
        · exact setPhase_law rfl h hu
      all_goals exact jobFault_law h (by decide)
    · exact h

@[simp] theorem jobHead_law (was now : HeadState) (h : s.duty.Law full) : (jobHead was now s).duty.Law full := by
  unfold jobHead
  split
  · exact h
  next k hk =>
    split
    · split
      next hbusy => exact askSeek_law _ (h.poised (unlent_of_job h hk (by simp [hbusy]) (by simp [hbusy])))
      split
      next hready => exact askSeek_law _ (h.poised (unlent_of_job h hk (by simp [hready.2.1]) (by simp [hready.2.1])))
      · exact h
    all_goals exact h

@[simp] theorem jobSpinFault_law (h : s.duty.Law full) : (jobSpinFault s).duty.Law full := by
  unfold jobSpinFault
  split
  · split
    · exact jobEnd_law h (.inl (by decide))
    · exact h
  · exact h

@[simp] theorem jobLoadFailed_law (h : s.duty.Law full) : (jobLoadFailed s).duty.Law full := by
  unfold jobLoadFailed
  split
  · split
    · exact jobEnd_law h (.inl (by decide))
    · exact h
  · exact h

theorem jobPassAbandoned_law (code : EndCode) (h : s.duty.Law full) (hu : s.duty.Unlent full) :
    (jobPassAbandoned code s).duty.Law full := by
  unfold jobPassAbandoned
  split
  · split
    · exact jobEnd_law h (.inr hu)
    · exact h
  · exact h

@[simp] theorem jobReached_law (h : s.duty.Law full) : (jobReached s).duty.Law full := by
  unfold jobReached
  split
  next k hk =>
    split
    next hpower => exact jobEnd_law h (.inr (unlent_of_job h hk (by simp [hpower]) (by simp [hpower])))
    · exact h
  · exact h

@[simp] theorem wantExpired_law (tag first : Nat) (h : s.duty.Law full) : (wantExpired tag first s).duty.Law full := by
  unfold wantExpired
  split
  · extract_lets t
    have ht : t.duty.Law full := by simpa [t] using h
    split
    · split
      · split
        · simpa using ht
        · exact jobEnd_law ht (.inl (by decide))
      · exact ht
    · exact ht
  · exact h

/-! ## Order starts (6.5) -/

/-- R108: an order past its checks begins its work. -/
theorem beginWork_law (h : s.duty.Law full) (hu : s.duty.Unlent full) (hj : s.duty.job = some j.plain)
    (hr : full → rangeCheck j.order = true) : (beginWork s).duty.Law full := by
  have hat : s.duty.AtWork full j := ⟨h.toSound, hu, hj⟩
  unfold beginWork
  split
  · exact h
  next k hk =>
    have hkj : k.plain = j.plain := by simpa [duty_job_of hk] using hj
    have horder : k.order = j.order := by
      have : k.plain.order = j.plain.order := by rw [hkj]
      exact this
    have hvol : k.vol = j.vol := congrArg (fun o : Order => Vol.ofByte o.volume) horder
    dsimp only
    rw [horder, hvol]
    split
    case _ | _ | _ =>
      have hd := updJob_duty (f := fun j => { j with blk := 0 }) s (fun _ => rfl) (fun _ => rfl) fun _ => rfl
      exact nextBlock_law (j := j) (hd ▸ hat) hr
    · have hp := takes_poised (f := fun j' => { j' with task := .seekOnly, placement := placeBlock k j.order.block s })
        (t := .seekOnly) hat (fun _ => rfl) (fun _ => rfl) fun hf => ⟨by simp, fun _ => hr hf, trivial⟩
      split
      · split
        · exact askSeek_law _ hp
        · exact jobEnd_poised _ hp
      next hn => exact hp.law fun i hi => by rw [duty_job_none hn] at hi; cases hi
    next hkind =>
      split
      · exact jobEnd_law h (.inr hu)
      next hfull =>
        have hk' : full → j.order.kind = .formatTrack ∧ tableFull j.order (s.vol j.vol).slips = false :=
          fun _ => ⟨hkind, by simpa using hfull⟩
        split
        · exact beginHeader_law hat hr fun hf _ => .inl (hk' hf)
        · exact beginFormat_law hat hr hk'
    next hkind =>
      split
      · exact beginHeader_law hat hr fun _ _ => .inr hkind
      · exact beginAltRead_law k hat hr fun _ => hkind
    · exact beginHeader_law hat hr fun _ hs => by cases hs
    all_goals exact h

/-- R106: the heads are loaded. -/
theorem withHeads_law {waits : Bool} (k : Job) (h : s.duty.Law full) (hu : s.duty.Unlent full)
    (hj : s.duty.job = some j.plain) (ht : full → j.task = .none)
    (hr : waits = false → full → rangeCheck j.order = true) : (withHeads waits k s).duty.Law full := by
  unfold withHeads
  split
  · unfold mountWait
    split
    · exact jobEnd_law h (.inr hu)
    · exact setPhase_waits .mount ⟨h.toSound, hu, hj⟩ ht fun _ hp => by cases hp
  next hw => exact beginWork_law h hu hj (hr (by simpa using hw))

theorem needHeads_law {waits : Bool} (k : Job) (h : s.duty.Law full) (hu : s.duty.Unlent full)
    (hj : s.duty.job = some j.plain) (ht : full → j.task = .none)
    (hr : waits = false → full → rangeCheck j.order = true)
    (hw : waits = true → stateCheck j.order.kind (s.vol j.vol) ≠ .passes) : (needHeads waits k s).duty.Law full := by
  unfold needHeads
  split
  · have hd : (pwrWake (actRequestLoad .che k.vol s)).duty = s.duty := by simp
    have hvol : ((pwrWake (actRequestLoad .che k.vol s)).vol j.vol).plain = (s.vol j.vol).plain :=
      congrFun (congrArg Duty.vol hd) j.vol
    rw [← hd] at h hu hj
    refine setPhase_waits .load ⟨h.toSound, hu, hj⟩ ht fun hf _ hpass => ?_
    cases waits with
    | false => exact hr rfl hf
    | true =>
      refine absurd ?_ (hw rfl)
      have hcheck : ∀ c : VolCtx, stateCheck j.order.kind c = stateCheck j.order.kind c.plain := fun _ => rfl
      rw [hcheck, ← hvol]
      exact hpass
  · exact withHeads_law k h hu hj ht hr

theorem startCheck_passes {o : Order} {c : VolCtx} (h : startCheck o c = .passes) : rangeCheck o = true := by
  unfold startCheck at h
  split at h
  · cases h
  split at h
  · split at h
    · cases h
    next hr => simpa using hr
  next hn => exact absurd h hn

theorem startCheck_waits {o : Order} {c : VolCtx} (h : startCheck o c = .waits) : stateCheck o.kind c = .waits := by
  unfold startCheck at h
  split at h
  · cases h
  split at h
  · split at h
    · cases h
    split at h <;> cases h
  · exact h

/-- R105: the start checks. -/
theorem orderChecks_law (h : s.duty.Law full) (hu : s.duty.Unlent full)
    (ht : full → ∀ j, s.che.job = some j → j.task = .none) : (orderChecks s).duty.Law full := by
  unfold orderChecks
  split
  · exact h
  next j hj =>
    have hj' := duty_job_of hj
    split
    · exact jobEnd_law h (.inr hu)
    next e => exact needHeads_law j h hu hj' (fun hf => ht hf j hj) (by simp) fun _ => by simp [startCheck_waits e]
    next e =>
      have hd : (s.updJob fun j => { j with runReady := true }).duty = s.duty :=
        updJob_duty s (fun _ => rfl) (fun _ => rfl) fun _ => rfl
      exact needHeads_law j (hd ▸ h) (hd ▸ hu) (hd ▸ hj') (fun hf => ht hf j hj) (fun _ _ => startCheck_passes e)
        (by simp)

@[simp] theorem jobLoaded_law (h : s.duty.Law full) : (jobLoaded s).duty.Law full := by
  unfold jobLoaded
  split
  next j hj =>
    split
    next hload =>
      have hj' := duty_job_of hj
      have hu : s.duty.Unlent full := unlent_of_job h hj (by simp [hload]) (by simp [hload])
      have ht : full → j.task = .none := fun hf => (work_of_job h hj' hf).no_task (by simp [hload, Phase.late])
      split
      · exact jobEnd_law h (.inr hu)
      · exact withHeads_law j h hu hj' ht (by simp)
      next hpass =>
        refine withHeads_law j h hu hj' ht fun _ hf => ?_
        obtain ⟨-, hr, -⟩ := work_of_job h hj' hf
        exact hr (.inr ⟨hload, hpass⟩)
    · exact h
  · exact h

theorem jobMounted_law (v : Vol) (h : s.duty.Law full) (hu : s.duty.Unlent full) :
    (jobMounted v s).duty.Law full := by
  unfold jobMounted
  split
  next j hj =>
    split
    next hm =>
      refine orderChecks_law h hu fun hf k hk => ?_
      rw [hj] at hk
      cases hk
      exact (work_of_job h (duty_job_of hj) hf).no_task (by simp [hm.1, Phase.late])
    · exact h
  · exact h

/-- R115, R146: an EJECT takes effect only where no pass is lent; it gives the mechanism up where RCV takes it. -/
theorem orderEject_law (i tag : Nat) (h : s.duty.Law full) (hu : s.duty.Unlent full) (hj : s.duty.job = some j.plain)
    (ht : full → j.task = .none) : (orderEject i tag s).duty.Law full := by
  unfold orderEject
  extract_lets waiting
  have hw : waiting.duty.Law full := by
    have hd : waiting.duty = { s.duty with job := none, mech := .free } := rfl
    rw [hd]
    refine Duty.Sound.law ⟨by simp, fun v => ?_, h.table⟩ hu fun _ k hk => by cases hk
    simp only [reduceCtorEq, false_iff, not_exists]
    rintro p ⟨hp, hl, -⟩
    rw [h.lent_of_job (by simp [hj]) hp] at hl
    cases hl
  split
  next e =>
    have hd := rcvEject_duty e (.inl rfl)
    exact setPhase_waits (j := j) .ejectHeld (hd ▸ ⟨h.toSound, hu, hj⟩) ht fun _ hp => by cases hp
  next e => exact jobEnd_law (rcvEject_duty e (.inr rfl) ▸ h) (.inl (by decide))
  all_goals exact rcvEject_law tag hw

theorem orderSetPower_law (target : PowerState) (h : s.duty.AtWork full j) (ht : full → j.task = .none) :
    (orderSetPower target s).duty.Law full := by
  have hp : (setPhase .power s).duty.Law full := setPhase_waits .power h ht fun _ hp => by cases hp
  have hu : (setPhase .power s).duty.Unlent full := by
    rw [setPhase_duty]
    exact h.unlent
  unfold orderSetPower
  split
  next e => exact jobEnd_law (pwrSetPower_duty e ▸ hp) (.inr (pwrSetPower_duty e ▸ hu))
  next e =>
    have hm := pwrSetPower_law target hp
    rw [e] at hm
    split
    · simpa using hm
    · exact hm

/-- R103, R109: an order takes the mechanism, from nobody or from the order before it. -/
theorem orderStart_law (i : Nat) (ready : Bool) (h : s.duty.Law full) (hu : s.duty.Unlent full)
    (hp : ∀ p, s.duty.pass = some p → p.lent = true) : (orderStart i ready s).duty.Law full := by
  unfold orderStart
  split
  · exact h
  split
  · exact h
  next c hc _ o ho =>
    extract_lets t u
    have hud : u.duty = { s.duty with mech := .order, job := some (freshJob i c o ready).plain } :=
      offerProgress_duty t i
    have hl : u.duty.Law full := by
      rw [hud]
      refine Duty.Sound.law ⟨by simp, fun v => ?_, h.table⟩ hu fun _ k hk => ?_
      · simp only [reduceCtorEq, false_iff, not_exists]
        rintro p ⟨hp', hl, -⟩
        rw [hp p hp'] at hl
        cases hl
      · cases hk
        exact Job.workLaw_of_no_task rfl fun hl => by cases hl
    have huu : u.duty.Unlent full := by
      rw [hud]
      exact hu
    have huj : u.duty.job = some (freshJob i c o ready).plain := by rw [hud]
    split
    · exact orderEject_law i c.tag hl huu huj fun _ => rfl
    · exact orderSetPower_law _ ⟨hl.toSound, huu, huj⟩ fun _ => rfl
    · refine orderChecks_law hl huu fun _ k hk => ?_
      have := duty_job_of hk
      rw [huj] at this
      exact (congrArg Job.task (Option.some.inj this)).symm

/-! ## Order ends (6.6) -/

theorem orderRelease_duty (s : State) : (orderRelease s).duty = s.duty.released := by
  unfold orderRelease
  extract_lets t u v
  have hd : v.duty = s.duty := by simp [v, u, t]
  rw [← hd]
  split
  next p hp =>
    simp only [State.duty, Duty.released, hp, Option.map_some]
    rfl
  next hp =>
    simp only [State.duty, Duty.released, hp, Option.map_none, State.updChe_pass, closeGate_pass, State.setXfer_pass]
    rfl

@[simp] theorem orderRelease_law (h : s.duty.Sound full) : (orderRelease s).duty.Law full := by
  rw [orderRelease_duty]
  exact h.released

theorem orderChainEnd_law (k : Job) (i : Nat) (c : Chain) (code : EndCode) (h : s.duty.Sound full) :
    (orderChainEnd k i c code s).duty.Law full := by
  unfold orderChainEnd
  dsimp only
  split <;> simp [h]

/-- R109: an order ends; a chained order takes its place, or nobody. -/
theorem orderEnded_law (code : EndCode) (h : s.duty.Sound full)
    (hl : code = .clean ∨ s.duty.job = none → s.duty.Law full ∧ s.duty.Unlent full) :
    (orderEnded code s).duty.Law full := by
  unfold orderEnded
  split
  next hn => exact (hl (.inr (duty_job_none hn))).1
  next j hj =>
    split
    · exact orderRelease_law h
    next i _ =>
      dsimp only
      have hx := fun c code' => orderChainEnd_law (full := full) j i c code'
        (s := s.updChain i fun c => { c with flags := c.flags.join j.flags, state := .active }) (by simpa using h)
      split
      · exact orderRelease_law (by simpa using h)
      next c _ =>
        split
        · exact hx _ _
        split
        · exact hx _ _
        next hclean =>
          obtain ⟨hlaw, hu⟩ := hl (.inl (by simpa using hclean))
          split
          · exact orderStart_law i _ (by simpa using hlaw) (by simpa using hu)
              fun p hp => h.lent_of_job (by simp [duty_job_of hj]) (by simpa using hp)
          split
          · exact hx _ _
          split
          · exact hx _ _
          split
          · rw [chainPass_duty]
            exact orderRelease_law (by simpa using h)
          · exact hx _ _

end operations
end Sys2Proof.Machine
end

section
/-! PROOF. Every reaction, command and step keeps the laws of the mechanism and the tables (O7, O10). -/

namespace Sys2Proof.Machine

/-! ## Reports taken -/

section reports
variable {full : Prop} {c : Duty}

theorem Duty.Law.popped (h : c.Law full) (hu : c.Unlent full) (l : List Signal) :
    ({ c with calls := l } : Duty).Law full :=
  Duty.Sound.law ⟨h.order, h.own, h.table⟩ hu h.work

/-- Where a mount pass is lent, only ends of orders with other codes than CLEAN are on their way. -/
theorem Duty.Law.unlent_of_call (h : c.Law full) {m : Signal} (hm : m ∈ c.calls)
    (hne : ∀ code, code ≠ .clean → m ≠ .orderEnd code) : c.Unlent full := by
  intro hf p hp
  by_contra hl
  obtain ⟨hcalls, -⟩ := h.lent hf p hp (by simpa using hl)
  obtain ⟨code, hc, rfl⟩ := hcalls m hm
  exact hne code hc rfl

end reports

section operations
variable {full : Prop} {s : State}

theorem foldl_law {α : Type} {f : State → α → State} (hf : ∀ s a, s.duty.Law full → (f s a).duty.Law full)
    (l : List α) (h : s.duty.Law full) : (l.foldl f s).duty.Law full := by
  induction l generalizing s with
  | nil => exact h
  | cons a l ih => exact ih (hf s a h)

/-! ## Chains -/

@[simp] theorem cancelRunning_law (i : Nat) (ch : Chain) (h : s.duty.Law full) :
    (cancelRunning i ch s).duty.Law full := by
  unfold cancelRunning
  dsimp only
  repeat' split
  all_goals simp [h]

@[simp] theorem cheCancel_law (tag : Nat) (h : s.duty.Law full) : (cheCancel tag s).1.duty.Law full := by
  unfold cheCancel
  repeat' split
  all_goals simp [h]

@[simp] theorem cheData_law (tag sequence : Nat) (data : List Byte) (h : s.duty.Law full) :
    (cheData tag sequence data s).1.duty.Law full := by
  unfold cheData
  split
  · extract_lets expected t
    have ht : t.duty.Law full := by simpa [t] using h
    split
    · split
      next j hj =>
        extract_lets waits
        split
        next hw =>
          have hphase : j.phase = .dataWait := by
            simp only [waits, Bool.and_eq_true, decide_eq_true_eq] at hw
            exact hw.1.1
          exact dataReady_law _ ht (unlent_of_job ht hj (by simp [hphase]) (by simp [hphase]))
        · exact ht
      · exact ht
    · exact h
  · exact h

@[simp] theorem powerFaultChain_law (i : Nat) (h : s.duty.Law full) : (powerFaultChain i s).duty.Law full := by
  unfold powerFaultChain
  split
  next j hj =>
    split
    · refine orderEnded_law _ (by simpa using h.toSound) ?_
      simp [duty_job_of hj]
    · split <;> simp [h]
  · split <;> simp [h]

@[simp] theorem cheSupplyFault_law (h : s.duty.Law full) : (cheSupplyFault s).duty.Law full := by
  have ht := foldl_law (f := fun t i => powerFaultChain i t) (fun _ _ => powerFaultChain_law _)
    (slotsOldestFirst (·.state.inProgress) s) h
  unfold cheSupplyFault
  dsimp only
  split
  · exact orderRelease_law (by simpa using ht.toSound)
  · exact ht

@[simp] theorem jobLinkReset_law (h : s.duty.Law full) : (jobLinkReset s).duty.Law full := by
  unfold jobLinkReset
  split
  · exact h
  · dsimp only
    split <;> simp [h]

@[simp] theorem cheLinkReset_law (h : s.duty.Law full) : (cheLinkReset s).duty.Law full :=
  jobLinkReset_law (s := s.updChe fun e => { e with table := List.replicate 6 none, counter := 0 }) h

/-- R103: the arbiter grants the free mechanism. -/
theorem grant_law (g : Grant) (hm : s.che.mech = .free) (h : s.duty.Law full) : (grant g s).duty.Law full := by
  obtain ⟨hj, hp⟩ := h.free hm
  unfold grant
  split
  · exact passGrant_own_law _ h hm
  · exact orderStart_law _ _ h (h.unlent_of_no_job hj) hp

theorem serveRead_law {j : Job} (hj : s.che.job = some j) (hphase : j.phase = .dataWait) (h : s.duty.Law full) :
    (serveRead j s).duty.Law full := by
  unfold serveRead
  split
  next ch _ =>
    cases e : reserveRead ch.tag ch.sequence (dataReady j s) with
    | none => exact h
    | some t =>
      rw [Option.getD_some, reserveRead_duty e]
      exact dataReady_law j h (unlent_of_job h hj (by simp [hphase]) (by simp [hphase]))
  · exact h

/-! ## The link -/

@[simp] theorem linkResetActs_law (h : s.duty.Law full) : (linkResetActs s).duty.Law full := by
  simp [linkResetActs, bbfReset, h]

@[simp] theorem handFrame_law (kind : Nat) (tag : Byte) (payload : List Byte) (h : s.duty.Law full) :
    (handFrame kind tag payload s).1.duty.Law full := by
  unfold handFrame
  split <;> simp [h]

@[simp] theorem takeFrame_law (sum kind tag : Byte) (length : Nat) (payload : List Byte) (h : s.duty.Law full) :
    (takeFrame sum kind tag length payload s).duty.Law full := by
  obtain ⟨r, -, e⟩ | ⟨-, e⟩ := takeFrame_cases sum kind tag length payload s <;> rw [e] <;> simp [h]

@[simp] theorem lnkByte_law (b : Byte) (h : s.duty.Law full) : (lnkByte b s).duty.Law full := by
  unfold lnkByte
  dsimp only
  repeat' split
  all_goals simp [h]

@[simp] theorem lnkBytes_law (bytes : List Byte) (h : s.duty.Law full) : (lnkBytes bytes s).duty.Law full := by
  induction bytes generalizing s with
  | nil => exact h
  | cons b bs ih => exact ih (lnkByte_law b h)

@[simp] theorem lnkReceive_law (bytes : List Byte) (h : s.duty.Law full) : (lnkReceive bytes s).duty.Law full := by
  obtain ⟨e, -⟩ | ⟨e, -⟩ := lnkReceive_cases bytes s <;> rw [e] <;> simp [h]

@[simp] theorem takeWaiting_law (bytes : List Byte) (h : s.duty.Law full) : (takeWaiting bytes s).duty.Law full := by
  simp [takeWaiting, h]

@[simp] theorem lnkLineReset_law (h : s.duty.Law full) : (lnkLineReset s).duty.Law full := by simp [lnkLineReset, h]

/-! ## Reactions -/

@[simp] theorem reactHead_law (was now : HeadState) (h : s.duty.Law full) : (reactHead was now s).duty.Law full := by
  have hv : (if was = .loading ∧ now = .following then volLoaded s else s).duty.Law full := by split <;> simp [h]
  have ht := jobHead_law was now (passHead_law now hv)
  unfold reactHead
  dsimp only
  split
  · simpa using ht
  · simpa using pwrParked_law ht
  all_goals exact ht

@[simp] theorem reactSupplyFault_law (h : s.duty.Law full) : (reactSupplyFault s).duty.Law full := by
  have ht := cheSupplyFault_law (volAbandon_law .powerFault h)
  simpa [reactSupplyFault] using ht

/-- The duty with the first report taken. -/
theorem duty_pop {m : Signal} {rest : List Signal} (hi : s.inbox = m :: rest) :
    ({ s with inbox := rest } : State).duty = { s.duty with calls := rest.filter Signal.isCall } ∧
      s.duty.calls = if m.isCall then m :: rest.filter Signal.isCall else rest.filter Signal.isCall := by
  refine ⟨rfl, ?_⟩
  simp only [State.duty, hi, List.filter_cons]

/-- A report that is no call leaves the duty as it is. -/
theorem duty_pop_plain {m : Signal} {rest : List Signal} (hi : s.inbox = m :: rest) (hm : m.isCall = false) :
    ({ s with inbox := rest } : State).duty = s.duty := by
  obtain ⟨e, hc⟩ := duty_pop hi
  rw [e, ← show s.duty.calls = rest.filter Signal.isCall by simpa [hm] using hc]

/-- The report of a mount pass is not sent while one is lent. -/
theorem law_pop_mount {m : Signal} {rest : List Signal} (hi : s.inbox = m :: rest) (hm : m.isCall = true)
    (hne : ∀ code, code ≠ .clean → m ≠ .orderEnd code) (h : s.duty.Law full) :
    ({ s with inbox := rest } : State).duty.Law full ∧ ({ s with inbox := rest } : State).duty.Unlent full := by
  obtain ⟨e, hc⟩ := duty_pop hi
  have hu : s.duty.Unlent full := h.unlent_of_call (m := m) (by simp [hc, hm]) hne
  exact ⟨e ▸ h.popped hu _, hu⟩

theorem react_law {m : Signal} {rest : List Signal} (hi : s.inbox = m :: rest) (h : s.duty.Law full) :
    (react m { s with inbox := rest }).duty.Law full := by
  have hplain : m.isCall = false → ({ s with inbox := rest } : State).duty.Law full := fun hm => by
    rwa [duty_pop_plain hi hm]
  cases m with
  | orderEnd code =>
    refine orderEnded_law code ⟨h.order, h.own, h.table⟩ fun hl => ?_
    have hu : s.duty.Unlent full := by
      obtain hc | hj := hl
      · refine h.unlent_of_call (m := .orderEnd code) ?_ fun code' hc' e => ?_
        · simp [(duty_pop hi).2, Signal.isCall]
        · cases e
          exact hc' hc
      · exact h.unlent_of_no_job hj
    exact ⟨(duty_pop hi).1 ▸ h.popped hu _, hu⟩
  | mountEnded v =>
    obtain ⟨hl, hu⟩ := law_pop_mount hi rfl (by simp) h
    exact jobMounted_law v hl hu
  | lentPassAbandoned code =>
    obtain ⟨hl, hu⟩ := law_pop_mount hi rfl (by simp) h
    exact jobPassAbandoned_law code hl hu
  | stopped dest | loaded dest | loadFailed dest => cases dest <;> simp [react, hplain rfl]
  | seekAnswer dest x => cases dest <;> simp [react, hplain rfl]
  | lockLoss => exact jobFault_law (volAbandon_law _ (hplain rfl)) (by decide)
  | positionLost =>
    simpa [react] using jobFault_law (code := .positionLost) (volAbandon_law .positionLost (hplain rfl)) (by decide)
  | _ => simp [react, hplain rfl]

/-! ## Rules -/

/-- What a rule that is due is about. -/
def Rule.Due (s : State) : Rule → Prop
  | .ejectDue i tag => heldEjectDue s = some (i, tag)
  | .lend v => lendsTo s = some v
  | .serveRead j => readWaits s = some j
  | .grant g _ => arbiterChoice s = some g
  | .drained | .startFree _ | .serveWrite _ | .unload _ | .frame _ => True

theorem unloadOrGrant_due {r : Rule} (h : unloadOrGrant s = some r) : r.Due s := by
  unfold unloadOrGrant at h
  split at h
  · split at h
    · split at h <;> cases h
      · trivial
      · assumption
    · cases h
      trivial
  · obtain ⟨g, hg, rfl⟩ := Option.map_eq_some_iff.1 h
    exact hg

theorem idleRule_due {r : Rule} (h : idleRule s = some r) : r.Due s := by
  unfold idleRule at h
  split at h
  · cases h
    trivial
  split at h
  · cases h
    trivial
  split at h
  · cases h
    assumption
  split at h
  · cases h
    assumption
  split at h
  · cases h
    assumption
  split at h
  · cases h
    trivial
  split at h
  next e =>
    cases h
    exact unloadOrGrant_due e
  · obtain ⟨bytes, -, rfl⟩ := Option.map_eq_some_iff.1 h
    trivial

theorem heldEjectDue_some {p : Nat × Nat} (h : heldEjectDue s = some p) :
    ∃ j, s.che.job = some j ∧ j.phase = .ejectHeld := by
  unfold heldEjectDue at h
  split at h
  next j hj =>
    split at h
    next hc => exact ⟨j, hj, hc.1⟩
    · cases h
  · cases h

theorem lendsTo_some {v : Vol} (h : lendsTo s = some v) : ∃ j, s.che.job = some j ∧ j.phase = .mount := by
  unfold lendsTo at h
  split at h
  next j hj =>
    split at h
    next hc => exact ⟨j, hj, hc.1⟩
    · cases h
  · cases h

theorem readWaits_some {j : Job} (h : readWaits s = some j) : s.che.job = some j ∧ j.phase = .dataWait := by
  unfold readWaits at h
  split at h
  next k hk =>
    split at h
    next hc =>
      cases h
      exact ⟨hk, hc.1⟩
    · cases h
  · cases h

theorem arbiterChoice_some {g : Grant} (h : arbiterChoice s = some g) : s.che.mech = .free := by
  unfold arbiterChoice at h
  split at h
  next hc => exact hc.1
  · cases h

@[simp] theorem chosen_mech (contested : Bool) (s : State) : (chosen contested s).che.mech = s.che.mech := by
  unfold chosen
  split <;> rfl

theorem fire_law {r : Rule} (hi : s.inbox = []) (hr : r.Due s) (h : s.duty.Law full) : (fire r s).duty.Law full := by
  cases r with
  | ejectDue i tag =>
    obtain ⟨j, hj, hphase⟩ := heldEjectDue_some hr
    refine orderEject_law i tag h (unlent_of_job h hj (by simp [hphase]) (by simp [hphase])) (duty_job_of hj) fun hf => ?_
    exact (work_of_job h (duty_job_of hj) hf).no_task (by simp [hphase, Phase.late])
  | lend v =>
    obtain ⟨j, hj, hphase⟩ := lendsTo_some hr
    exact passGrant_lent_law v h hj hphase (by simp [State.duty, hi])
  | serveRead j =>
    obtain ⟨hj, hphase⟩ := readWaits_some hr
    exact serveRead_law hj hphase h
  | grant g contested => exact grant_law g (by simpa using arbiterChoice_some hr) (by simpa using h)
  | _ => simp [fire, h]

end operations

/-! ## Steps -/

section steps
variable {full : Prop} {s t : State}

/-- The laws between steps. -/
def State.DutyLaw (full : Prop) (s : State) : Prop := s.duty.Law full ∧ (full → s.inbox = [])

theorem settleOnce_law (h : s.duty.Law full) (hs : settleOnce s = some t) : t.duty.Law full := by
  unfold settleOnce at hs
  split at hs
  next hi =>
    cases hs
    exact react_law hi h
  next hi =>
    obtain ⟨r, hr, rfl⟩ := Option.map_eq_some_iff.1 hs
    exact fire_law hi (idleRule_due hr) h

theorem beginFrame_inbox (s : State) : (beginFrame s).inbox = s.inbox := by
  obtain ⟨f, -, -, e⟩ | ⟨-, e⟩ := beginFrame_cases s <;> rw [e]
  cases hf : f.carries <;> rfl

theorem conclude_law (h : s.duty.Law full) (ht : conclude s = .next t) : t.DutyLaw full := by
  obtain ⟨u, hu, hrest, e⟩ | e := conclude_cases s <;> rw [e] at ht <;> cases ht
  have := settle_keeps (P := fun s => s.duty.Law full) (fun _ _ => settleOnce_law) reactionBound s h
  obtain ⟨hi, -⟩ := (settleOnce_none_iff u).1 hrest
  exact ⟨by simpa using hu ▸ this, fun _ => (beginFrame_inbox _).trans hi⟩

theorem run_law {f : State → State} (h : (f s).duty.Law full) (hs : s.DutyLaw full) (ht : run f s = .next t) :
    t.DutyLaw full := by
  unfold run at ht
  split at ht
  · cases ht
    exact hs
  · exact conclude_law h ht

theorem runPins_law {p : Pins → Pins} {f : State → State}
    (hf : ∀ u : State, u.duty.Law full → (f u).duty.Law full) (hs : s.DutyLaw full) (ht : runPins p f s = .next t) :
    t.DutyLaw full :=
  run_law (s := s.updPins p) (hf _ (by simpa using hs.1)) hs ht

/-- The laws as the obligations state them: that of the mechanism. -/
theorem dutyLaw_false_iff : s.DutyLaw False ↔ s.MechanismLaw := by
  have hown : ∀ v, (∃ p, s.duty.pass = some p ∧ p.lent = false ∧ p.volume = v) ↔
      ∃ p, s.pass = some p ∧ p.lent = false ∧ p.volume = v := fun v => by
    cases hp : s.pass <;> simp [State.duty, hp, Pass.plain]
  have horder : s.duty.job.isSome = s.che.job.isSome := by simp [State.duty]
  constructor
  · rintro ⟨h, -⟩
    exact ⟨horder ▸ h.order, fun v => (h.own v).trans (hown v)⟩
  · rintro ⟨ho, hp⟩
    exact ⟨⟨⟨horder ▸ ho, fun v => (hp v).trans (hown v).symm, False.elim⟩, False.elim, False.elim⟩, False.elim⟩

/-- The laws as the obligations state them: those of the tables and of the order at work. -/
theorem dutyLaw_true_iff : s.DutyLaw True ↔ s.VolumeLaw ∧ s.WorkLaw := by
  constructor
  · rintro ⟨h, hi⟩
    have hinbox := hi trivial
    obtain ⟨ht0, hw0, hs0⟩ := h.table trivial .v0
    obtain ⟨ht1, hs1⟩ := h.table trivial .v1
    refine ⟨⟨ht0, ht1, hw0, hs0.1, hs0.2.1, hs0.2.2, hs1⟩, hinbox, ?_, fun p hp hl => ?_, fun j hj => ?_⟩
    · refine dutyLaw_false_iff.1 ⟨⟨⟨h.order, h.own, False.elim⟩, False.elim, False.elim⟩, False.elim⟩
    · obtain ⟨-, k, hk, -, hphase⟩ := h.lent trivial _ (duty_pass_of hp) hl
      obtain ⟨j, hj, rfl⟩ := Option.map_eq_some_iff.1 hk
      exact ⟨j, hj, hphase.resolve_right fun hc => hc.2 (by simp [State.duty, hinbox])⟩
    · exact work_of_job h (duty_job_of hj) trivial
  · rintro ⟨⟨ht0, ht1, hw0, hs0, hs0', hs0'', hs1⟩, hinbox, hm, hlent, hwork⟩
    obtain ⟨⟨⟨ho, hown, -⟩, -, -⟩, -⟩ := dutyLaw_false_iff.2 hm
    refine ⟨⟨⟨ho, hown, fun _ v => ?_⟩, fun _ k hk => ?_, fun _ q hq hl => ?_⟩, fun _ => hinbox⟩
    · cases v with
      | v0 => exact ⟨ht0, hw0, hs0, hs0', hs0''⟩
      | v1 => exact ⟨ht1, hs1⟩
    · obtain ⟨j, hj, rfl⟩ := Option.map_eq_some_iff.1 hk
      exact hwork j hj
    · obtain ⟨p, hp, rfl⟩ := Option.map_eq_some_iff.1 hq
      obtain ⟨j, hj, hphase⟩ := hlent p hp hl
      refine ⟨by simp [State.duty, hinbox], j.plain, duty_job_of hj, ?_, .inl hphase⟩
      exact (hwork j hj).no_task (by simp [hphase, Phase.late])

theorem powerOn_dutyLaw (good : Bool) (pins : Pins) : (State.powerOn good pins).duty.Law full := by
  obtain ⟨h, -⟩ := dutyLaw_true_iff.2 ⟨powerOn_volumeLaw good pins, powerOn_workLaw good pins⟩
  exact ⟨⟨h.order, h.own, fun _ => h.table trivial⟩, fun _ => h.work trivial, fun _ => h.lent trivial⟩

theorem powerOnActs_law (good : Bool) (s : State) : (powerOnActs good s).duty.Law full := by
  have h := powerOn_dutyLaw (full := full) good { s.pins with logicLow := false }
  unfold powerOnActs
  split
  · exact h
  · rw [attend_duty]
    exact h

/-- Every command keeps the laws: each is taken by one block, and the reactions follow. -/
theorem exec_law {i : Instr} (h : s.DutyLaw full) (ht : exec i s = .next t) : t.DutyLaw full := by
  have hl := h.1
  cases i with
  | wantTimerExpiry tag first => exact run_law (wantExpired_law _ _ hl) h ht
  | presenceSwitchChange => exact runPins_law (fun _ => rcvPresenceSwitch_law _ _) h ht
  | presenceDebounceEnd => exact run_law (rcvPresenceDebounced_law hl) h ht
  | buttonSwitchChange => exact runPins_law (fun _ hu => by rwa [rcvButtonSwitch_duty]) h ht
  | buttonDebounceEnd => exact run_law (rcvButtonDebounced_law hl) h ht
  | holdTimerExpiry => exact run_law (rcvHoldExpiry_law hl) h ht
  | removalTimerExpiry => exact run_law (rcvRemovalExpiry_law hl) h ht
  | doorOpenWindowExpiry => exact run_law (rcvWindowExpiry_law hl) h ht
  | oneSecondTick => exact run_law (pwrTick_law hl) h ht
  | idleLimitReached => exact run_law (pwrLimitTick_law hl) h ht
  | closingWedgeUnread => exact run_law (closingUnread_law _ hl) h ht
  | slotIdentityRead identity => exact run_law (identityRead_law _ hl) h ht
  | powerOnReset good => exact conclude_law (powerOnActs_law good s) ht
  | logicSupplyFall =>
    cases ht
    exact ⟨powerOn_dutyLaw true { s.pins with logicLow := true }, fun _ => rfl⟩
  | chain | cancel | data | driveStatus | volumeStatus | defectList | chainStatus | settings | linkReset
  | unknownFrameKind | awaitLeadByteDiscarded | frameRefusedCheck | unknownQuerySubkind =>
    exact run_law (lnkReceive_law _ hl) h ht
  | linkResetLineAsserted =>
    refine runPins_law (fun u hu => ?_) h ht
    split
    · exact hu
    · exact lnkLineReset_law hu
  | linkResetLineReleased | hostReadyAsserted | hostReadyDeasserted => exact runPins_law (fun _ => id) h ht
  | replyDelivered => exact run_law ((delivered_duty s _ replyLeaves_duty).symm ▸ hl) h ht
  | dataFrameDelivered => exact run_law ((delivered_duty s _ slotDelivered_duty).symm ▸ hl) h ht
  | dataWantedDelivered => exact run_law ((delivered_duty s _ wantDelivered_duty).symm ▸ hl) h ht
  | noticeDelivered => exact run_law ((delivered_duty s _ noticeAcknowledged_duty).symm ▸ hl) h ht
  | tachPulse | saturatedInterval | startTimerExpiry | relockTimerExpiry | brakeTimerExpiry | wedgeReport
  | acquisitionTimerExpiry | rampReport | unloadTimerExpiry | retractTimerExpiry | planTimeEnd | settlePeriodEnd
  | seekTimeoutExpiry | stage1Expiry | stage2Expiry | refusalIndicationExpiry | supplyFall | supplyRise
  | holdOffTimerExpiry => exact run_law (by simp [hl]) h ht

theorem step_law (h : s.DutyLaw full) (ht : step s = .next t) : t.DutyLaw full := by
  unfold step at ht
  split at ht
  next =>
    cases ht
    exact h
  next rest _ => exact exec_law (s := { s with pending := rest }) h ht

end steps

/-- Settles O7: an order that starts takes the mechanism from nobody or from the order before it, a pass is granted it
free or lent it, and both give it up as they end. -/
theorem mechanismLawKept : Obligations.MechanismLawKept := fun _ _ hs ht =>
  dutyLaw_false_iff.1 (step_law (dutyLaw_false_iff.2 hs) ht)

/-- Settles O10: the tables are changed only by a context drop, a valid header, and the three orders that change them,
each after the checks that keep them in their form. -/
theorem volumeLawKept : Obligations.VolumeLawKept := fun _ _ hs ht =>
  dutyLaw_true_iff.1 (step_law (dutyLaw_true_iff.2 hs) ht)

end Sys2Proof.Machine
end

section
/-! PROOF. A header reads back as it was written (O24). -/

namespace Sys2Proof.Machine

/-! ## Reading at an offset (R191, R192) -/

theorem numberAt_append {p f : List Byte} (q : List Byte) {o n : Nat} (hp : p.length = o) (hf : f.length = n) :
    numberAt (p ++ (f ++ q)) o n = readNumber f := by
  subst hp hf
  simp [numberAt]

theorem byteAt_append {p : List Byte} (b : Byte) (q : List Byte) {o : Nat} (hp : p.length = o) :
    byteAt (p ++ (b :: q)) o = b := by
  subst hp
  simp [byteAt]

theorem readNumber_be16 {n : Nat} (h : n < 65536) : readNumber (be16 n) = n := by
  simp only [be16, readNumber, List.foldl, BitVec.toNat_ofNat]
  omega

theorem readNumber_be32 {n : Nat} (h : n < 4294967296) : readNumber (be32 n) = n := by
  simp only [be32, readNumber, List.foldl, BitVec.toNat_ofNat]
  omega

/-- The record at place `i` of a list of records of three bytes. -/
theorem flatMap_split {α : Type} {f : α → List Byte} (hf : ∀ x, (f x).length = 3) {l : List α} {i : Nat}
    (hi : i < l.length) : ∃ p q, l.flatMap f = p ++ (f l[i] ++ q) ∧ p.length = 3 * i := by
  refine ⟨(l.take i).flatMap f, (l.drop (i + 1)).flatMap f, ?_, ?_⟩
  · conv_lhs => rw [← List.take_append_drop i l, List.drop_eq_getElem_cons hi, List.flatMap_append, List.flatMap_cons]
  · simp [List.length_flatMap, hf, Nat.min_eq_left (Nat.le_of_lt hi), Nat.mul_comm]

/-! ## The parts of a header (12.5) -/

theorem slipBytes_length (e : Slip) : (slipBytes e).length = 3 := rfl

theorem altBytes_length (x : Alt) : (altBytes x).length = 3 := by cases x <;> rfl

/-- R80: a header without its check word. -/
def headerBody (label : Label) (slips : List Slip) (alts : List Alt) : List Byte :=
  headerSignature ++ be16 label.formatCount ++ be32 label.serial ++ be16 slips.length ++
    slips.flatMap slipBytes ++ List.replicate (3 * (128 - slips.length)) 0 ++ alts.flatMap altBytes ++
    List.replicate 1458 0

section header
variable (label : Label) (slips : List Slip) (alts : List Alt)

theorem headerBytes_eq : headerBytes label slips alts =
    headerBody label slips alts ++ be16 (checkWord (headerBody label slips alts)) := rfl

theorem slipTable_length : (slips.flatMap slipBytes).length = 3 * slips.length := by
  simp [List.length_flatMap, slipBytes_length, Nat.mul_comm]

theorem altTable_length : (alts.flatMap altBytes).length = 3 * alts.length := by
  simp [List.length_flatMap, altBytes_length, Nat.mul_comm]

variable {label slips alts}

theorem headerBody_length (hs : slips.length ≤ 128) (ha : alts.length = 64) :
    (headerBody label slips alts).length = 2046 := by
  simp only [headerBody, List.length_append, slipTable_length, altTable_length, List.length_replicate, ha]
  simp only [headerSignature, be16, be32, List.length_cons, List.length_nil]
  omega

/-- 12.5: the slip list begins at byte 12. -/
theorem headerBytes_slip {i : Nat} (hi : i < slips.length) : ∃ p q,
    headerBytes label slips alts = p ++ (slipBytes slips[i] ++ q) ∧ p.length = 12 + 3 * i := by
  obtain ⟨p, q, e, hp⟩ := flatMap_split slipBytes_length hi
  refine ⟨headerSignature ++ be16 label.formatCount ++ be32 label.serial ++ be16 slips.length ++ p,
    q ++ List.replicate (3 * (128 - slips.length)) 0 ++ alts.flatMap altBytes ++ List.replicate 1458 0 ++
      be16 (checkWord (headerBody label slips alts)), ?_, ?_⟩
  · rw [headerBytes_eq]
    conv_lhs => arg 1; rw [headerBody, e]
    simp only [List.append_assoc]
  · simp [headerSignature, be16, be32, hp]
    omega

/-- 12.5: the alternate map begins at byte 396. -/
theorem headerBytes_alt (hs : slips.length ≤ 128) {a : Nat} (ha : a < alts.length) : ∃ p q,
    headerBytes label slips alts = p ++ (altBytes alts[a] ++ q) ∧ p.length = 396 + 3 * a := by
  obtain ⟨p, q, e, hp⟩ := flatMap_split altBytes_length ha
  refine ⟨headerSignature ++ be16 label.formatCount ++ be32 label.serial ++ be16 slips.length ++
      slips.flatMap slipBytes ++ List.replicate (3 * (128 - slips.length)) 0 ++ p,
    q ++ List.replicate 1458 0 ++ be16 (checkWord (headerBody label slips alts)), ?_, ?_⟩
  · rw [headerBytes_eq]
    conv_lhs => arg 1; rw [headerBody, e]
    simp only [List.append_assoc]
  · simp only [List.length_append, slipTable_length, List.length_replicate, hp]
    simp only [headerSignature, be16, be32, List.length_cons, List.length_nil]
    omega

/-! ## Reading it back (R59) -/

theorem headerBytes_label (hf : label.formatCount < 65536) (hser : label.serial < 4294967296)
    (hs : slips.length ≤ 128) :
    (headerBytes label slips alts).take 4 = headerSignature ∧
      numberAt (headerBytes label slips alts) 4 2 = label.formatCount ∧
      numberAt (headerBytes label slips alts) 6 4 = label.serial ∧
      numberAt (headerBytes label slips alts) 10 2 = slips.length := by
  obtain ⟨rest, e⟩ : ∃ rest, headerBytes label slips alts =
      headerSignature ++ (be16 label.formatCount ++ (be32 label.serial ++ (be16 slips.length ++ rest))) :=
    ⟨_, by simp only [headerBytes, List.append_assoc]; rfl⟩
  rw [e]
  refine ⟨rfl, ?_, ?_, ?_⟩
  · exact (numberAt_append _ rfl rfl).trans (readNumber_be16 hf)
  · exact (numberAt_append (p := headerSignature ++ be16 label.formatCount) _ rfl rfl).trans (readNumber_be32 hser)
  · exact (numberAt_append (p := headerSignature ++ be16 label.formatCount ++ be32 label.serial) _ rfl rfl).trans
      (readNumber_be16 (by omega))

/-- R59, test 1: the check word. -/
theorem headerBytes_check (hs : slips.length ≤ 128) (ha : alts.length = 64) :
    numberAt (headerBytes label slips alts) 2046 2 = checkWord ((headerBytes label slips alts).take 2046) := by
  have hlen := headerBody_length (label := label) hs ha
  have htake : (headerBytes label slips alts).take 2046 = headerBody label slips alts := by
    rw [headerBytes_eq, ← hlen, List.take_left]
  have hnum := numberAt_append (p := headerBody label slips alts)
    (f := be16 (checkWord (headerBody label slips alts))) (n := 2) [] hlen rfl
  rw [List.append_nil, ← headerBytes_eq] at hnum
  rw [hnum, htake]
  exact readNumber_be16 (Nat.mod_lt _ (by decide))

/-- 12.5: the slip entries. -/
theorem headerBytes_slips (hs : ∀ e ∈ slips, e.track ≤ 819 ∧ e.slot ≤ 31) :
    (List.range slips.length).map (fun i =>
      { track := numberAt (headerBytes label slips alts) (12 + 3 * i) 2
        slot := (byteAt (headerBytes label slips alts) (14 + 3 * i)).toNat : Slip }) = slips := by
  refine List.ext_getElem (by simp) fun i hi _ => ?_
  have hi' : i < slips.length := by simpa using hi
  obtain ⟨p, q, e, hp⟩ := headerBytes_slip (label := label) (alts := alts) hi'
  obtain ⟨htrack, hslot⟩ := hs _ (List.getElem_mem hi')
  have e' : headerBytes label slips alts = (p ++ be16 slips[i].track) ++ (byteOf slips[i].slot :: q) := by
    simp [e, slipBytes]
  have h1 : numberAt (headerBytes label slips alts) (12 + 3 * i) 2 = slips[i].track := by
    rw [e, slipBytes, List.append_assoc, numberAt_append (n := 2) _ hp rfl, readNumber_be16 (by omega)]
  have h2 : (byteAt (headerBytes label slips alts) (14 + 3 * i)).toNat = slips[i].slot := by
    rw [e', byteAt_append _ _ (by simp [be16, hp]; omega)]
    simp only [byteOf, BitVec.toNat_ofNat]
    omega
  rw [List.getElem_map, List.getElem_range, h1, h2]

/-- 12.5: an alternate slot reads back. -/
theorem readAlt_altBytes {x : Alt} (hx : ∀ b, x = .assigned b → b < 65536) : readAlt (altBytes x) = some x := by
  cases x with
  | free | retired => rfl
  | assigned b =>
    have : numberAt (altBytes (.assigned b)) 1 2 = b :=
      (numberAt_append (p := [1]) (f := be16 b) [] rfl rfl).trans (readNumber_be16 (hx b rfl))
    have hcode : (byteAt (altBytes (.assigned b)) 0).toNat = 1 := rfl
    simp [readAlt, hcode, this]

/-- 12.5: the alternate slots. -/
theorem headerBytes_alts (hs : slips.length ≤ 128) (ha : alts.length = 64)
    (hb : ∀ b ∈ assignedBlocks alts, b ≤ 25419) :
    (List.range 64).filterMap (fun a => readAlt (((headerBytes label slips alts).drop (396 + 3 * a)).take 3)) =
      alts := by
  have hread : ∀ a ∈ List.range 64,
      readAlt (((headerBytes label slips alts).drop (396 + 3 * a)).take 3) = some (alts.getD a .free) := by
    intro a hmem
    have hlt : a < alts.length := ha ▸ List.mem_range.1 hmem
    obtain ⟨p, q, e, hp⟩ := headerBytes_alt (label := label) hs hlt
    have hslice : ((headerBytes label slips alts).drop (396 + 3 * a)).take 3 = altBytes alts[a] := by
      rw [e, ← hp, List.drop_left, ← altBytes_length alts[a], List.take_left]
    rw [hslice, List.getD_eq_getElem _ _ hlt]
    refine readAlt_altBytes fun b hx => ?_
    have := hb b (mem_assignedBlocks.2 (hx ▸ List.getElem_mem hlt))
    omega
  rw [List.filterMap_congr hread, ← ha, List.filterMap_eq_map']
  refine List.ext_getElem (by simp) fun a h1 h2 => ?_
  simp [h2]

end header

/-- Settles O24: every field is read at the place it was written, and the tests of R59 pass on what was written. -/
theorem headerReadsBack : Obligations.HeaderReadsBack := by
  intro label slips alts hf hser hlen hasc hslips halts hblocks hnodup
  refine ⟨?_, ?_⟩
  · rw [headerBytes_eq, List.length_append, headerBody_length hlen halts]
    rfl
  obtain ⟨hsig, hcount, hserial, hnum⟩ := headerBytes_label (alts := alts) hf hser hlen
  have hs := headerBytes_slips (label := label) (alts := alts) hslips
  have ha := headerBytes_alts (label := label) hlen halts hblocks
  unfold readHeader
  dsimp only
  rw [hnum, Nat.min_eq_left hlen, hs, ha, hcount, hserial, if_pos]
  exact ⟨hsig, headerBytes_check hlen halts, hlen, (slipsInOrder_iff _).2 ⟨hasc, hslips⟩, halts, by simpa using hblocks,
    (noRepeats_iff _).2 hnodup⟩

end Sys2Proof.Machine
end

section
/-! PROOF. Chapter 8: the switches, the button, and the eject sequence over a drive at rest (O51, O52). -/

namespace Sys2Proof.Machine

/-! ## RCV's record changes (R66, R141, R144) -/

section record
variable {s : State} {r : Rcv} {p : Pins} {c : VolCtx} {n : Ntu}

/-- RCV's record, volume 1 and NTU's record have changed, and the levels at the switches. -/
def State.withRcv (p : Pins) (r : Rcv) (c : VolCtx) (n : Ntu) (s : State) : State :=
  { s with pins := p, rcv := r, vol1 := c, ntu := n }

/-- A change of RCV's record that no resting rule looks for. -/
structure Rcv.Steady (s : State) (p : Pins) (r : Rcv) (c : VolCtx) : Prop where
  stage : r.stage = s.rcv.stage
  pause : r.pause = s.rcv.pause
  first : r.firstReport = s.rcv.firstReport ∨ s.che.job = none
  pass : c.pass = s.vol1.pass
  ready : p.ready = s.pins.ready
  line : p.linkReset = s.pins.linkReset

/-- With no order at work the first presence report is nobody's but VOL's. -/
theorem idleRule_firstReport (h : s.che.job = none) (b : Bool) :
    idleRule { s with rcv := { s.rcv with firstReport := b } } = idleRule s := by
  have he : ∀ t : State, t.che.job = none → heldEjectDue t = none := fun t ht => by simp [heldEjectDue, ht]
  unfold idleRule
  rw [he _ h, he { s with rcv := { s.rcv with firstReport := b } } h]
  rfl

theorem Rcv.Steady.idleRule (h : Rcv.Steady s p r c) (n : Ntu) : idleRule (s.withRcv p r c n) = idleRule s := by
  have e : Machine.idleRule (s.withRcv p r c n) =
      Machine.idleRule { s with rcv := { s.rcv with firstReport := r.firstReport } } :=
    idleRule_congr rfl rfl rfl rfl h.pass h.stage h.pause rfl rfl rfl rfl rfl rfl h.line rfl
  obtain hf | hj := h.first
  · rw [e, hf]
  · rw [e, idleRule_firstReport hj]

theorem Rcv.Steady.rests (h : Rcv.Steady s p r c) (hs : s.Ready) (n : Ntu) :
    settleOnce (s.withRcv p r c n) = none :=
  (settleOnce_none_iff _).2 ⟨settled_inbox (s := s) hs.settled, (h.idleRule n).trans (settled_idle hs.settled)⟩

/-- Such a change is followed by the lamp alone. -/
theorem Rcv.Steady.conclude (h : Rcv.Steady s p r c) (hs : s.Ready) :
    Machine.conclude (s.withRcv p r c s.ntu) = .next (setLamp (s.withRcv p r c s.ntu)) := by
  rw [conclude_of_rest (h.rests hs s.ntu), beginFrame_of_closed]
  have hopen : laneOpen (setLamp (s.withRcv p r c s.ntu)) = laneOpen s := by
    simp [laneOpen, setLamp_eq, State.withRcv, h.ready, h.line]
  rw [hopen]
  exact settled_lane (s := s) hs.settled

/-- And where the lamp's record stands, by nothing. -/
theorem Rcv.Steady.conclude_lit (h : Rcv.Steady s p r c) (hs : s.Ready) (hlatch : r.latch = s.rcv.latch)
    (hpresence : r.presence = s.rcv.presence) (hrefusal : r.refusal = s.rcv.refusal) (hlamp : r.lamp = s.rcv.lamp) :
    Machine.conclude (s.withRcv p r c s.ntu) = .next (s.withRcv p r c s.ntu) := by
  rw [h.conclude hs, setLamp_of_lit]
  have e : lampOf (s.withRcv p r c s.ntu) = lampOf s := by
    simp only [lampOf, State.withRcv, h.stage, hlatch, hpresence, hrefusal]
  rw [e, ← settled_lamp hs.settled]
  exact hlamp

end record

/-! ## The switches (R66, R141) -/

section switches
variable {s : State}

/-- R141: the presence debounce after a change of the switch. -/
def Rcv.switched (was closed : Bool) (r : Rcv) : Rcv :=
  if was = closed then r
  else if r.firstReport = true ∧ closed = r.presence then { r with presenceDebounce := none }
  else { r with presenceDebounce := some 250000 }

theorem Rcv.switched_eq (was closed : Bool) (r : Rcv) : ∃ d, r.switched was closed = { r with presenceDebounce := d } := by
  unfold Rcv.switched
  split
  · exact ⟨r.presenceDebounce, rfl⟩
  split
  · exact ⟨none, rfl⟩
  · exact ⟨some 250000, rfl⟩

/-- R141: over a locked latch a change of the switch is the debounce's alone. -/
theorem rcvPresenceSwitch_locked (h : s.rcv.latch = .locked) (was closed : Bool) :
    rcvPresenceSwitch was closed s = { s with rcv := s.rcv.switched was closed } := by
  have hdue : ∀ t : State, t.rcv.latch = .locked → rcvSwitchDue closed t = t := fun t ht => if_neg (by simp [ht])
  unfold rcvPresenceSwitch Rcv.switched
  split
  · rfl
  · rw [hdue _ (by exact h)]
    split
    next hf => simp only [State.updRcv, if_pos hf]
    next hf => simp only [State.updRcv, if_neg hf]

theorem exec_presenceSwitch (hs : s.Ready) (closed tab : Bool) (h : s.rcv.latch = .locked) :
    exec (.presenceSwitchChange closed tab) s = .next { s with
      pins := { s.pins with presenceClosed := closed, tabProtect := tab },
      rcv := s.rcv.switched s.pins.presenceClosed closed } := by
  obtain ⟨d, hd⟩ := s.rcv.switched_eq s.pins.presenceClosed closed
  refine (runPins_of_powered (by exact hs.powered) _).trans
    ((congrArg conclude (rcvPresenceSwitch_locked (by exact h) _ _)).trans ?_)
  change conclude { s with
    pins := { s.pins with presenceClosed := closed, tabProtect := tab }
    rcv := s.rcv.switched s.pins.presenceClosed closed } = _
  rw [hd]
  exact Rcv.Steady.conclude_lit ⟨rfl, rfl, .inl rfl, rfl, rfl, rfl⟩ hs rfl rfl rfl rfl

/-- R144: the button's debounce after a change of the button. -/
def Rcv.moved (was pressed : Bool) (r : Rcv) : Rcv :=
  if was = pressed then r
  else if pressed = r.button then { r with buttonDebounce := none }
  else { r with buttonDebounce := some 40000 }

theorem Rcv.moved_eq (was pressed : Bool) (r : Rcv) : ∃ d, r.moved was pressed = { r with buttonDebounce := d } := by
  unfold Rcv.moved
  split
  · exact ⟨r.buttonDebounce, rfl⟩
  split
  · exact ⟨none, rfl⟩
  · exact ⟨some 40000, rfl⟩

theorem rcvButtonSwitch_eq (was pressed : Bool) (s : State) :
    rcvButtonSwitch was pressed s = { s with rcv := s.rcv.moved was pressed } := by
  unfold rcvButtonSwitch Rcv.moved
  split
  · rfl
  · split
    next hb => simp only [State.updRcv, if_pos hb]
    next hb => simp only [State.updRcv, if_neg hb]

theorem exec_buttonSwitch (hs : s.Ready) (pressed : Bool) : exec (.buttonSwitchChange pressed) s = .next { s with
    pins := { s.pins with buttonDown := pressed }, rcv := s.rcv.moved s.pins.buttonDown pressed } := by
  obtain ⟨d, hd⟩ := s.rcv.moved_eq s.pins.buttonDown pressed
  refine (runPins_of_powered (by exact hs.powered) _).trans ((congrArg conclude (rcvButtonSwitch_eq _ _ _)).trans ?_)
  change conclude { s with
    pins := { s.pins with buttonDown := pressed }, rcv := s.rcv.moved s.pins.buttonDown pressed } = _
  rw [hd]
  exact Rcv.Steady.conclude_lit ⟨rfl, rfl, .inl rfl, rfl, rfl, rfl⟩ hs rfl rfl rfl rfl

/-- R66: the first presence report makes volume 1 PRESENT or EMPTY. -/
theorem exec_firstPresence (hs : s.Ready) (hd : s.rcv.presenceDebounce ≠ none) (hf : s.rcv.firstReport = false)
    (hj : s.che.job = none) : exec .presenceDebounceEnd s = .next (setLamp { s with
      rcv := { s.rcv with presenceDebounce := none, firstReport := true, presence := s.pins.presenceClosed },
      vol1 := { s.vol1 with state := if s.pins.presenceClosed then .present else .empty } }) := by
  have e : rcvPresenceDebounced s = s.withRcv s.pins
      { s.rcv with presenceDebounce := none, firstReport := true, presence := s.pins.presenceClosed }
      { s.vol1 with state := if s.pins.presenceClosed then .present else .empty } s.ntu := by
    simp [rcvPresenceDebounced, Option.isSome_iff_ne_none, hd, hf, volFirstReport, State.withRcv, State.updRcv,
      State.updVol1]
  refine (run_of_powered hs.powered _).trans ((congrArg conclude e).trans ?_)
  exact Rcv.Steady.conclude ⟨rfl, rfl, .inr hj, rfl, rfl, rfl⟩ hs

/-- R141: outside RELEASING and DOOR OPEN a debounced presence is no removal and no insertion. -/
theorem exec_presenceDebounced (hs : s.Ready) (hd : s.rcv.presenceDebounce ≠ none) (hf : s.rcv.firstReport = true)
    (hrel : s.rcv.stage ≠ .releasing) (hdoor : s.rcv.stage ≠ .doorOpen) :
    exec .presenceDebounceEnd s = .next (setLamp
      { s with rcv := { s.rcv with presenceDebounce := none, presence := s.pins.presenceClosed } }) := by
  have e : rcvPresenceDebounced s = s.withRcv s.pins
      { s.rcv with presenceDebounce := none, presence := s.pins.presenceClosed } s.vol1 s.ntu := by
    by_cases hp : s.pins.presenceClosed = s.rcv.presence
    · simp [rcvPresenceDebounced, Option.isSome_iff_ne_none, hd, hf, hp, State.withRcv, State.updRcv]
    · simp [rcvPresenceDebounced, Option.isSome_iff_ne_none, hd, hf, hp, rcvPresenceChange, hrel, hdoor, State.withRcv,
        State.updRcv]
  refine (run_of_powered hs.powered _).trans ((congrArg conclude e).trans ?_)
  exact Rcv.Steady.conclude ⟨rfl, rfl, .inl rfl, rfl, rfl, rfl⟩ hs

/-! ## The button (R144, R145) -/

/-- R144: the record of a debounced press. -/
def Rcv.pressed (r : Rcv) : Rcv := { r with button := true, buttonDebounce := none }

theorem rcvButtonDebounced_press (hd : s.rcv.buttonDebounce ≠ none) (hb : s.rcv.button = false)
    (hp : s.pins.buttonDown = true) : rcvButtonDebounced s = rcvPress { s with rcv := s.rcv.pressed } := by
  simp [rcvButtonDebounced, Option.isSome_iff_ne_none, hd, hb, hp, State.updRcv, Rcv.pressed]

theorem exec_press (hs : s.Ready) (hd : s.rcv.buttonDebounce ≠ none) (hb : s.rcv.button = false)
    (hp : s.pins.buttonDown = true) :
    exec .buttonDebounceEnd s = conclude (rcvPress { s with rcv := s.rcv.pressed }) :=
  (run_of_powered hs.powered _).trans (congrArg conclude (rcvButtonDebounced_press hd hb hp))

/-- R144: a press before the first presence report. -/
theorem exec_press_early (hs : s.Ready) (hd : s.rcv.buttonDebounce ≠ none) (hb : s.rcv.button = false)
    (hp : s.pins.buttonDown = true) (hf : s.rcv.firstReport = false) :
    exec .buttonDebounceEnd s = .next { s with rcv := s.rcv.pressed } := by
  have e : rcvPress { s with rcv := s.rcv.pressed } = s.withRcv s.pins s.rcv.pressed s.vol1 s.ntu := by
    simp [rcvPress, Rcv.pressed, hf, State.withRcv]
  rw [exec_press hs hd hb hp, e]
  exact Rcv.Steady.conclude_lit ⟨rfl, rfl, .inl rfl, rfl, rfl, rfl⟩ hs rfl rfl rfl rfl

/-- R144: a press during an eject sequence. -/
theorem exec_press_sequence (hs : s.Ready) (hd : s.rcv.buttonDebounce ≠ none) (hb : s.rcv.button = false)
    (hp : s.pins.buttonDown = true) (hf : s.rcv.firstReport = true) (hstage : s.rcv.stage ≠ .none) :
    exec .buttonDebounceEnd s = .next { s with rcv := { s.rcv.pressed with holdTimer := some 5000000 } } := by
  have e : rcvPress { s with rcv := s.rcv.pressed } =
      s.withRcv s.pins { s.rcv.pressed with holdTimer := some 5000000 } s.vol1 s.ntu := by
    simp [rcvPress, Rcv.pressed, hf, hstage, State.withRcv, State.updRcv]
  rw [exec_press hs hd hb hp, e]
  exact Rcv.Steady.conclude_lit ⟨rfl, rfl, .inl rfl, rfl, rfl, rfl⟩ hs rfl rfl rfl rfl

/-- R144: a press while holds are in force is refused. -/
theorem exec_press_refused (hs : s.Ready) (hd : s.rcv.buttonDebounce ≠ none) (hb : s.rcv.button = false)
    (hp : s.pins.buttonDown = true) (hf : s.rcv.firstReport = true) (hstage : s.rcv.stage = .none)
    (hholds : 0 < s.rcv.holds) : exec .buttonDebounceEnd s = .next (State.rest { s with
      rcv := { s.rcv.pressed with holdTimer := some 5000000, refusal := some 2000000 }
      ntu := s.ntu.attend (.ejectRefused s.rcv.holds) }) := by
  have e : rcvPress { s with rcv := s.rcv.pressed } = s.withRcv s.pins
      { s.rcv.pressed with holdTimer := some 5000000, refusal := some 2000000 } s.vol1
      (s.ntu.attend (.ejectRefused s.rcv.holds)) := by
    simp [rcvPress, Rcv.pressed, hf, hstage, hholds, attend_eq, State.withRcv, State.updRcv]
  have hsteady : Rcv.Steady s s.pins
      { s.rcv.pressed with holdTimer := some 5000000, refusal := some 2000000 } s.vol1 :=
    ⟨rfl, rfl, .inl rfl, rfl, rfl, rfl⟩
  rw [exec_press hs hd hb hp, e]
  exact conclude_of_rest (hsteady.rests hs (s.ntu.attend (.ejectRefused s.rcv.holds)))

/-- R144: the release. -/
theorem exec_release (hs : s.Ready) (hd : s.rcv.buttonDebounce ≠ none) (hb : s.rcv.button = true)
    (hp : s.pins.buttonDown = false) : exec .buttonDebounceEnd s = .next
      { s with rcv := { s.rcv with button := false, buttonDebounce := none, holdTimer := none } } := by
  have e : rcvButtonDebounced s = s.withRcv s.pins
      { s.rcv with button := false, buttonDebounce := none, holdTimer := none } s.vol1 s.ntu := by
    simp [rcvButtonDebounced, Option.isSome_iff_ne_none, hd, hb, hp, State.withRcv, State.updRcv]
  refine (run_of_powered hs.powered _).trans ((congrArg conclude e).trans ?_)
  exact Rcv.Steady.conclude_lit ⟨rfl, rfl, .inl rfl, rfl, rfl, rfl⟩ hs rfl rfl rfl rfl

theorem exec_refusalExpiry (hs : s.Ready) :
    exec .refusalIndicationExpiry s = .next (setLamp { s with rcv := { s.rcv with refusal := none } }) :=
  (run_of_powered hs.powered _).trans
    (Rcv.Steady.conclude (p := s.pins) (c := s.vol1) ⟨rfl, rfl, .inl rfl, rfl, rfl, rfl⟩ hs)

end switches

/-- Settles O51: a switch or the button changes RCV's record, in no part that a resting rule reads; the lamp follows, and
NTU's notice is begun where one was given. -/
theorem switchesAndButton : Obligations.SwitchesAndButton :=
  ⟨fun _ hs => ⟨exec_presenceSwitch hs, exec_buttonSwitch hs, exec_firstPresence hs, exec_presenceDebounced hs⟩,
    fun _ hs => ⟨fun hd hb hp =>
      ⟨exec_press_early hs hd hb hp, exec_press_sequence hs hd hb hp, exec_press_refused hs hd hb hp⟩,
      exec_release hs, exec_refusalExpiry hs⟩⟩

end Sys2Proof.Machine
end

section
/-! PROOF. Chapter 8: an eject sequence over a stopped spindle and parked heads runs to the released latch (O52). -/

namespace Sys2Proof.Machine

section sequence
variable {s : State}

/-- R147: what the start of a sequence sets in RCV's record. -/
def Rcv.begun (source : EjectSource) (r : Rcv) : Rcv :=
  { r with stage := .draining, source := some source,
           purpose := some (if r.presence then .cartridgeOut else .doorOpen) }

/-- R151, R152: RCV's record with the latch released. -/
def Rcv.released (source : EjectSource) (r : Rcv) : Rcv :=
  if r.presence then
    { r with source := some source, purpose := some .cartridgeOut, stage := .releasing, latch := .released,
             ejector := true, removalTimer := some 2000000 }
  else
    { r with source := some source, purpose := some .doorOpen, stage := .doorOpen, latch := .released,
             window := some 30000000 }

theorem rcvStart_eq (source : EjectSource) (s : State) : rcvStart source s = { s with
    vol1 := s.vol1.leave, rcv := s.rcv.begun source, inbox := s.inbox ++ [.ejectStarted] } := rfl

/-- With no chain in the table the start of a sequence is nobody's but RCV's. -/
theorem within_ejectStarted (h : s.chains = []) (hi : s.inbox = [.ejectStarted]) :
    Within 1 s { s with inbox := [] } := by
  have e : react .ejectStarted { s with inbox := [] } = { s with inbox := [] } := by
    simp [react, cheEjectStarted, slotsOldestFirst_of_no_chain _ (s := { s with inbox := [] }) h]
  exact e ▸ Within.report hi

/-- R149 to R152: over a stopped spindle and parked heads the stages pass to the released latch. -/
theorem rcvEnterUnloading_stopped (hspc : s.spc.state = .stopped) (hhead : s.act.head = .parked) (source : EjectSource)
    (r : Rcv) : rcvEnterUnloading { s with rcv := r.begun source } = { s with rcv := r.released source } := by
  have hmay : ∀ r', latchMayRelease { s with rcv := r' } = true := fun r' => by simp [latchMayRelease, hspc, hhead]
  cases hp : r.presence <;>
    simp [rcvEnterUnloading, hhead, rcvEnterStopping, spcStop, hspc, rcvEnterReleasing, State.updRcv, hmay, Rcv.begun,
      Rcv.released, hp]

/-- R62: no pass stays asked for on the volume that leaves. -/
theorem VolCtx.leave_pass {c : VolCtx} (h : c.pass = .none) : c.leave.pass = .none := by
  cases hs : c.state <;> simp [VolCtx.leave, hs, h]

/-- R147 to R152: a sequence that starts over a drive at rest with nothing on hand. -/
theorem conclude_rcvStart (h : s.Quiet) (hspc : s.spc.state = .stopped) (hhead : s.act.head = .parked) {r : Rcv}
    (hpause : r.pause = false) (source : EjectSource) : conclude (rcvStart source { s with rcv := r }) =
      .next (setLamp { s with vol1 := s.vol1.leave, rcv := r.released source }) := by
  have hi := settled_inbox (s := s) h.settled
  set u : State := { s with vol1 := s.vol1.leave, rcv := r.begun source } with hu
  set t : State := { s with vol1 := s.vol1.leave, rcv := r.released source } with ht
  have hstart : Within 1 { u with inbox := [.ejectStarted] } u := by
    have hui : ({ u with inbox := [] } : State) = u := by rw [hu, ← hi]
    have hw : Within 1 { u with inbox := [.ejectStarted] } { u with inbox := [] } :=
      within_ejectStarted (s := { u with inbox := [.ejectStarted] }) h.no_chain rfl
    rwa [hui] at hw
  have hrule : Within 1 u t := by
    have hd : idleRule u = some .drained := by
      have : drained u = true := by
        have hchains : u.chains = [] := h.no_chain
        have hstage : u.rcv.stage = .draining := rfl
        have hpz : u.rcv.pause = false := hpause
        have hpass : u.pass = none := h.no_pass
        simp [drained, hchains, hstage, hpz, hpass]
      simp [idleRule, this]
    have hfire : fire .drained u = t :=
      rcvEnterUnloading_stopped (s := { s with vol1 := s.vol1.leave }) hspc hhead source r
    exact hfire ▸ Within.rule (s := u) hi hd
  have hstage : (r.released source).stage ≠ .draining := by
    unfold Rcv.released
    split <;> simp
  have hrests : settleOnce t = none :=
    (settleOnce_none_iff _).2 ⟨hi, idleRule_of_nothing h.no_chain h.no_job (by simp [ht, h.pass0])
      (by simp [ht, VolCtx.leave_pass h.pass1]) hstage (unloadDue_of_progress (by simp [ht, h.progress])) h.none_waiting⟩
  have hfrom : rcvStart source { s with rcv := r } = { u with inbox := [.ejectStarted] } := by
    rw [rcvStart_eq, hu]
    simp [hi]
  rw [hfrom, (hstart.trans hrule).conclude hrests, State.rest, beginFrame_of_closed]
  exact settled_lane (s := s) h.settled

end sequence

/-- Settles O52: the start of the sequence is heard by nobody, DRAINING ends as no chain is in progress, and the stages
after it find the spindle stopped and the heads parked. -/
theorem ejectSequenceAtRest : Obligations.EjectSequenceAtRest := by
  intro s h hspc hhead hpause hfirst
  dsimp only
  refine ⟨fun hd hb hp hholds => ?_, fun hd => ?_⟩
  · have e : rcvPress { s with rcv := s.rcv.pressed } =
        rcvStart .button { s with rcv := { s.rcv.pressed with holdTimer := some 5000000 } } := by
      simp [rcvPress, Rcv.pressed, hfirst, h.stage, hholds, State.updRcv]
    rw [exec_press h.toReady hd hb hp, e]
    exact conclude_rcvStart (r := { s.rcv.pressed with holdTimer := some 5000000 }) h hspc hhead hpause .button
  · have e : rcvHoldExpiry s = rcvStart (if 0 < s.rcv.holds then .override else .button)
        { s with rcv := { s.rcv with holdTimer := none, holds := 0 } } := by
      by_cases hholds : 0 < s.rcv.holds
      · simp [rcvHoldExpiry, Option.isSome_iff_ne_none, hd, h.stage, hholds, State.updRcv]
      · have hzero : s.rcv.holds = 0 := by omega
        simp [rcvHoldExpiry, Option.isSome_iff_ne_none, hd, h.stage, hzero, State.updRcv]
    refine (run_of_powered h.powered _).trans ((congrArg conclude e).trans ?_)
    exact conclude_rcvStart (r := { s.rcv with holdTimer := none, holds := 0 }) h hspc hhead hpause _

end Sys2Proof.Machine
end

section
/-! PROOF. Chapter 4: translation, the slip adjustment, and the ranges of orders (O20 to O23, O44, O46). -/

namespace Sys2Proof.Machine

/-! ## Alternate slots (R72) -/

/-- R72: the slot found is one of the map's, and ASSIGNED the block. -/
theorem findAlternate_some {alts : List Alt} {a block : Nat} (h : findAlternate alts block = some a) :
    a < alts.length ∧ alts.getD a .free = .assigned block :=
  ⟨List.mem_range.1 (List.mem_of_find?_eq_some h), by simpa using List.find?_some h⟩

/-- R72: no slot is found exactly where none is ASSIGNED the block; past the map's end there is none. -/
theorem findAlternate_none_iff {alts : List Alt} {block : Nat} :
    findAlternate alts block = none ↔ ∀ a, alts.getD a .free ≠ .assigned block := by
  refine ⟨fun h a e => ?_, fun h => List.find?_eq_none.2 fun a _ => by simpa using h a⟩
  by_cases ha : a < alts.length
  · exact List.find?_eq_none.1 h a (List.mem_range.2 ha) (by simpa using e)
  · rw [List.getD_eq_default _ _ (Nat.le_of_not_lt ha)] at e
    cases e

/-- R68, R72: the slot found is the only one ASSIGNED the block. -/
theorem findAlternate_of_unique {alts : List Alt} {a block : Nat}
    (hunique : ∀ a b, alts.getD a .free = .assigned block → alts.getD b .free = .assigned block → a = b)
    (ha : alts.getD a .free = .assigned block) : findAlternate alts block = some a := by
  cases h : findAlternate alts block with
  | none => exact absurd ha (findAlternate_none_iff.1 h a)
  | some b => rw [hunique a b ha (findAlternate_some h).2]

/-! ## The slip adjustment (R74) -/

/-- R74: an adjusted position lies past the entry's slot or before it. -/
theorem slipAdjust_entry (e : Slip) (r : Nat) : slipAdjust (some e) r = if e.slot ≤ r then r + 1 else r := rfl

/-- R74: slots ascend with positions, so no two positions of a track share a slot. -/
theorem slipAdjust_strictMono (entry : Option Slip) : StrictMono (slipAdjust entry) := by
  intro q r h
  cases entry with
  | none => exact h
  | some e =>
    simp only [slipAdjust_entry]
    split_ifs <;> omega

theorem slipAdjust_le (entry : Option Slip) {r : Nat} (h : r ≤ 30) : slipAdjust entry r ≤ 31 := by
  cases entry with
  | none => exact h.trans (by decide)
  | some e =>
    rw [slipAdjust_entry]
    split_ifs <;> omega

theorem slipAdjust_ne (e : Slip) (r : Nat) : slipAdjust (some e) r ≠ e.slot := by
  rw [slipAdjust_entry]
  split_ifs <;> omega

/-- R74: positions 0 to 30 reach every slot of the track but the entry's. -/
theorem slipAdjust_reaches {e : Slip} (he : e.slot ≤ 31) {slot : Nat} (hslot : slot ≤ 31) (hne : slot ≠ e.slot) :
    ∃ r, r ≤ 30 ∧ slipAdjust (some e) r = slot := by
  obtain hlt | hgt := Nat.lt_or_gt_of_ne hne
  · exact ⟨slot, by omega, by rw [slipAdjust_entry, if_neg (by omega)]⟩
  · exact ⟨slot - 1, by omega, by rw [slipAdjust_entry, if_pos (by omega)]; omega⟩

/-! ## Placements (R71 to R74) -/

/-- Settles O20: with no alternate, `translate` answers its third case, and the rest is arithmetic on the block. -/
theorem primaryPlacement : Obligations.PrimaryPlacement := by
  intro slips alts v block hb hnone
  obtain ⟨hout, -⟩ | ⟨a, -, ha, -⟩ | ⟨-, -, e⟩ := translate_cases slips alts v block
  · omega
  · exact absurd (findAlternate_some ha).2 (hnone a)
  · refine ⟨_, e, rfl, ?_⟩
    dsimp only
    refine ⟨by omega, by omega, rfl, by omega, by omega, rfl, by omega, fun k => ⟨?_, ?_⟩⟩ <;> omega

/-- Settles O21: the slot ASSIGNED the block is the one that is found, and with none found the placement is PRIMARY. -/
theorem alternatePlacement : Obligations.AlternatePlacement := by
  intro slips alts v block hb hunique
  constructor
  · intro a ha
    simp [translate, hb, findAlternate_of_unique hunique ha]
  · intro hnone p hp a hkind
    have hfind := findAlternate_none_iff.2 hnone
    simp only [translate, hb, hfind, if_true, Option.some.injEq] at hp
    subst hp
    cases hkind

/-- Settles O22: in each case of `translate` the ranges are arithmetic, and on a slipped track the facts about
`slipAdjust` say which slots are taken. -/
theorem slipAdjustment : Obligations.SlipAdjustment := by
  intro slips alts v block hb hlen
  refine ⟨?_, fun e => ⟨fun _ _ h => slipAdjust_strictMono _ h, fun he _ hs hne => slipAdjust_reaches he hs hne⟩⟩
  obtain ⟨hout, -⟩ | ⟨a, -, ha, e⟩ | ⟨-, -, e⟩ := translate_cases slips alts v block
  · omega
  · have hlt := (findAlternate_some ha).1
    refine ⟨_, e, rfl, le_rfl, by dsimp only; omega, by dsimp only; omega, fun _ => rfl, fun _ _ hkind => ?_⟩
    cases hkind
  · refine ⟨_, e, rfl, by dsimp only; omega, by dsimp only; omega, slipAdjust_le _ (by omega),
      fun ⟨_, hkind⟩ => ?_, fun track r hkind => ?_⟩
    · cases hkind
    · cases hkind
      refine ⟨by dsimp only; omega, fun hf => by simp [hf, slipAdjust], fun x hf => ?_⟩
      dsimp only
      rw [hf]
      exact ⟨slipAdjust_entry x _, slipAdjust_ne x _⟩

/-- Settles O23: alternates lie on cylinder 1 and primaries beyond it; a slot of the map holds one block, and track and
position are read off the cylinder, the comb head and, as `slipAdjust` is strictly monotone, the slot. -/
theorem placementsAreDistinct : Obligations.PlacementsAreDistinct := by
  intro slips alts v a b p q hlen hp hq hcylinder hcomb hslot
  obtain ⟨-, ea⟩ | ⟨m, -, ha, ea⟩ | ⟨-, -, ea⟩ := translate_cases slips alts v a <;>
    obtain ⟨-, eb⟩ | ⟨n, -, hb, eb⟩ | ⟨-, -, eb⟩ := translate_cases slips alts v b <;>
    cases ea.symm.trans hp <;> cases eb.symm.trans hq <;> dsimp only at hcylinder hcomb hslot
  case inr.inl.inr.inl =>
    have hmn : m = n := by omega
    have hsame := (findAlternate_some ha).2.symm.trans (hmn ▸ (findAlternate_some hb).2)
    cases hsame
    rfl
  case inr.inl.inr.inr => omega
  case inr.inr.inr.inl => omega
  case inr.inr.inr.inr =>
    have htrack : a / 31 = b / 31 := by omega
    have hposition : a % 31 = b % 31 := (slipAdjust_strictMono _).injective (htrack ▸ hslot)
    omega

/-! ## Blocks of a transfer order (R70, R128) -/

/-- R128: every block but the last has 512 bytes. -/
theorem blockLength_of_lt {o : Order} {k : Nat} (h : k + 1 < o.blocks) : o.blockLength k = 512 :=
  if_neg fun hlast => absurd hlast.1 (Nat.ne_of_lt h)

/-- R128: the blocks before the last carry 512 bytes each. -/
theorem sum_blockLength {o : Order} {n : Nat} (h : n < o.blocks) :
    ((List.range n).map o.blockLength).sum = 512 * n := by
  induction n with
  | zero => rfl
  | succ n ih =>
    rw [List.range_succ, List.map_append, List.sum_append, ih (by omega), List.map_singleton, List.sum_singleton,
      blockLength_of_lt h]
    omega

/-- R128: the last block has what the blocks before it leave. -/
theorem blockLength_last {o : Order} {n : Nat} (h : o.blocks = n + 1) :
    512 * n + o.blockLength n = o.count := by
  have hblocks : (o.count + 511) / 512 = n + 1 := h
  rw [blockLength_eq, h]
  split_ifs <;> omega

/-- R70: a transfer order's range. -/
theorem inRange_transfer {o : Order} (h : o.kind.transfer = true) :
    inRange o = true ↔ o.block + o.blocks - 1 ≤ 25419 := by
  cases hk : o.kind <;> simp_all [OrderKind.transfer, inRange]

/-- Settles O46: all blocks but the last have 512 bytes, and the last one the rest. -/
theorem blocksCarryTheCount : Obligations.BlocksCarryTheCount := by
  intro o hlow hhigh
  obtain ⟨n, hn⟩ : ∃ n, o.blocks = n + 1 := ⟨o.blocks - 1, by unfold Order.blocks; omega⟩
  refine ⟨by omega, by unfold Order.blocks; omega, ?_, fun k hk => ?_, fun ht => ?_⟩
  · rw [hn, List.range_succ, List.map_append, List.sum_append, sum_blockLength (by omega), List.map_singleton,
      List.sum_singleton, blockLength_last hn]
  · rw [blockLength_eq]
    split_ifs <;> omega
  · rw [inRange_transfer ht]
    exact ⟨fun h k hk => by omega, fun h => by have := h n (by omega); omega⟩

/-! ## The start checks (R83, R105) -/

/-- R105, check 2: the volume that counts is the one before it began to leave. -/
theorem stateCheck_passes_iff (kind : OrderKind) (c : VolCtx) : stateCheck kind c = .passes ↔
    ∃ st, st = (if c.state = .leaving then c.before else some c.state) ∧
      (st = some .mounted ∨ kind = .initializeVolume ∧ st = some .unformatted) := by
  unfold stateCheck
  cases hs : c.state with
  | leaving =>
    cases hb : c.before with
    | none => simp
    | some st => cases st <;> simp
  | empty | unmounted | present | mounting | mounted | unformatted | headerFault => simp

/-- R83, R105, check 3. -/
theorem rangeCheck_iff (o : Order) :
    rangeCheck o = true ↔ inRange o = true ∧ (o.kind = .formatTrack → ∀ p ∈ o.slip, p ≤ 31) := by
  simp only [rangeCheck, Bool.and_eq_true, Bool.or_eq_true, decide_eq_true_eq, Option.all_eq_true, imp_iff_not_or,
    Option.mem_def, ne_eq]

/-- Settles O44: the checks one after another, each by its own equivalence. -/
theorem startChecksPass : Obligations.StartChecksPass := by
  intro o c
  rw [← stateCheck_passes_iff, ← and_assoc (a := inRange o = true), ← rangeCheck_iff]
  have hgeneration : (∀ g ∈ o.generation, g = c.generation) ↔ o.generation.any (· != c.generation) = false := by
    cases o.generation <;> simp
  rw [hgeneration]
  unfold startCheck
  cases o.generation.any (· != c.generation) with
  | true => simp
  | false =>
    cases stateCheck o.kind c with
    | waits | fails => simp
    | passes => cases rangeCheck o <;> simp

end Sys2Proof.Machine
end

section
/-! PROOF. Chapters 10 and 12: the four queries and the records they answer (O58). -/

namespace Sys2Proof.Machine

/-! ## The records, byte by byte (12.1, 12.3) -/

theorem codeIn_power (x : PowerState) : codeIn powerStates x = byteOf x.toCode := by cases x <;> rfl

theorem codeIn_supply (x : Supply) : codeIn [.good, .fault, .holdOff] x = byteOf x.toCode := by cases x <;> rfl

theorem codeIn_spindle (x : SpindleState) :
    codeIn [.stopped, .accelerating, .locking, .locked, .braking, .spinFault] x = byteOf x.toCode := by
  cases x <;> rfl

theorem codeIn_stopCause (x : StopCause) :
    codeIn [.none, .hostOrder, .idle, .eject, .door, .supply, .spinFault] x = byteOf x.toCode := by cases x <;> rfl

theorem codeIn_head (x : HeadState) :
    codeIn [.parked, .loading, .following, .seeking, .settling, .reacquiring, .unloading, .retracting] x =
      byteOf x.toCode := by
  cases x <;> rfl

theorem codeIn_latch (x : Latch) : codeIn [.locked, .released] x = byteOf x.toCode := by cases x <;> rfl

theorem codeIn_stage (x : EjectStage) :
    codeIn [.none, .draining, .unloading, .stopping, .releasing, .doorOpen] x = byteOf x.toCode := by
  cases x <;> rfl

theorem codeIn_volume (x : VolState) : codeIn volumeStates x = byteOf x.toCode := by cases x <;> rfl

theorem codeIn_chain (x : ChainState) :
    codeIn [.queued, .active, .dataWait, .paused, .ejectWait, .ended] x = byteOf x.toCode := by
  cases x <;> rfl

theorem codeIn_bool (x : Bool) : codeIn [false, true] x = boolByte x := by cases x <;> rfl

/-- R179: the DRIVE STATUS body is the record of 12.3. -/
theorem driveStatusBody_eq (s : State) : driveStatusBody s = driveStatusBytes s := by
  simp only [driveStatusBytes, codeIn_power, codeIn_supply, codeIn_spindle, codeIn_stopCause, codeIn_head, codeIn_latch,
    codeIn_stage, codeIn_bool]
  rfl

/-- R69: the tables in force are the tables shown. -/
theorem tablesShown_eq (c : VolCtx) : tablesShown c = (c.slipsInForce, c.altsInForce) := by
  unfold tablesShown VolCtx.slipsInForce VolCtx.altsInForce
  cases c.state <;> rfl

theorem countAlts_free (alts : List Alt) : countAlts (·.toCode == 0) alts = alts.count .free := by
  rw [countAlts, List.count, List.countP_eq_length_filter]
  congr 2
  funext a
  cases a <;> rfl

theorem countAlts_retired (alts : List Alt) : countAlts (·.toCode == 2) alts = alts.count .retired := by
  rw [countAlts, List.count, List.countP_eq_length_filter]
  congr 2
  funext a
  cases a <;> rfl

theorem countAlts_assigned (alts : List Alt) : countAlts (·.toCode == 1) alts = (assignedBlocks alts).length := by
  induction alts with
  | nil => rfl
  | cons a alts ih => cases a <;> simpa [countAlts, assignedBlocks, Alt.toCode] using ih

/-- R192: four bytes are two numbers of two. -/
theorem be32_eq (n : Nat) : be32 n = twoBytes (n / 65536) ++ twoBytes n := by
  simp [be32, twoBytes, oneByte, Nat.div_div_eq_div_mul]

/-- R180: the VOLUME STATUS body is the record of 12.3. -/
theorem volumeStatusBody_eq (c : VolCtx) : volumeStatusBody c = volumeStatusBytes c := by
  simp only [volumeStatusBytes, volumeStatusBody, codeIn_volume, codeIn_bool, tablesShown_eq, countAlts_free,
    countAlts_retired, countAlts_assigned, be32_eq]
  cases c.label <;> rfl

/-- R180: the DEFECT LIST body is the record of 12.3. -/
theorem defectListBody_eq (c : VolCtx) : defectListBody c = defectListBytes c := by
  simp only [defectListBytes, tablesShown_eq]
  rfl

/-- R181: the orders with a residual. -/
theorem transfer_iff (k : OrderKind) : k.transfer = true ↔ k = .read ∨ k = .write ∨ k = .verify := by
  cases k <;> simp [OrderKind.transfer]

/-- R181: the CHAIN STATUS body is the record of 12.3. -/
theorem chainStatusBody_eq (c : Chain) : chainStatusBody c = chainStatusBytes c := by
  simp only [chainStatusBytes, codeIn_chain, chainStatusBody, ← transfer_iff]
  cases c.completion with
  | some r => rfl
  | none =>
    simp only [Chain.residual, Chain.order]
    cases c.orders[c.index]? <;> rfl

/-! ## A query taken (R179 to R181, R186) -/

/-- R186: a part that listens stays at rest with one reply more, nothing waiting for the room it takes. -/
theorem conclude_replied {s : State} (h : s.Listening) (r : Reply) :
    conclude { s with lnk := { s.lnk.clear with replies := s.lnk.replies ++ [r] } } = .next (State.replied r s) := by
  refine conclude_of_rest ((settleOnce_none_iff _).2 ⟨settled_inbox (s := s) h.settled, (idleRule_none_iff _).2 ?_⟩)
  obtain ⟨hdrained, hfree, heject, hlends, hread, hwrite, hgrant, -⟩ := (idleRule_none_iff s).1 (settled_idle h.settled)
  exact ⟨hdrained, hfree, heject, hlends, hread, hwrite, hgrant, by simp [waitingFrame, Lnk.clear, h.none_waiting]⟩

/-- R185, R186: a query of two bytes adds the reply of its answer, and that alone. -/
theorem run_query {s : State} (h : s.Listening) (tag sub v : Byte) :
    run (lnkReceive (frameBytes 0x04#8 tag [sub, v])) s =
      .next (State.replied (replyOf 0x04#8 tag (queryAnswer tag.toNat [sub, v] s)) s) := by
  have hadmitted : frameRefusal 0 0x04#8 2 [sub, v] = none := rfl
  rw [run_of_powered h.powered, lnkReceive_frame h _ _ (List.cons_ne_nil _ _) (by simp), takeFrame,
    show [sub, v].length = 2 from rfl, hadmitted]
  exact conclude_replied h _

/-- R179, R180: a query of one volume answers its record, or refuses a volume byte above 1. -/
theorem volumeAnswer_cases (body : VolCtx → List Byte) (v : Byte) (s : State) :
    (v = 0 → volumeAnswer body v.toNat s = .ok (body s.vol0)) ∧ (v = 1 → volumeAnswer body v.toNat s = .ok (body s.vol1)) ∧
      (1 < v.toNat → volumeAnswer body v.toNat s = .error .malformed) := by
  refine ⟨?_, ?_, fun h => if_neg (by omega)⟩ <;> rintro rfl <;> rfl

/-- R181: CHAIN STATUS answers the record of the chain that bears the tag. -/
theorem queryAnswer_chain {s : State} {tag i : Nat} {c : Chain} (hi : s.findTag tag = some i)
    (hc : s.chainAt i = some c) (v : Byte) : queryAnswer tag [2, v] s = .ok (chainStatusBody c) := by
  simp [queryAnswer, byteAt, hi, hc]

theorem queryAnswer_unknown {s : State} {tag : Nat} (h : s.findTag tag = none) (v : Byte) :
    queryAnswer tag [2, v] s = .error .unknownTag := by
  simp [queryAnswer, byteAt, h]

/-- Settles O58: each query's frame adds the reply of its answer (`run_query`), whose body is the record of 12.3. -/
theorem queriesAnswered : Obligations.QueriesAnswered := by
  intro s tag v h
  dsimp only
  have hdrive : exec (.driveStatus tag [v]) s = _ := run_query h tag 0 v
  have hvolume : exec (.volumeStatus tag [v]) s = .next (State.replied
      (replyOf 0x04#8 tag (volumeAnswer volumeStatusBody v.toNat s)) s) := run_query h tag 1 v
  have hdefect : exec (.defectList tag [v]) s = .next (State.replied
      (replyOf 0x04#8 tag (volumeAnswer defectListBody v.toNat s)) s) := run_query h tag 3 v
  have hchain : exec (.chainStatus tag [v]) s = _ := run_query h tag 2 v
  obtain ⟨hvolume0, hvolume1, hvolume2⟩ := volumeAnswer_cases volumeStatusBody v s
  obtain ⟨hdefect0, hdefect1, hdefect2⟩ := volumeAnswer_cases defectListBody v s
  simp only [← driveStatusBody_eq, ← volumeStatusBody_eq, ← defectListBody_eq, ← chainStatusBody_eq]
  refine ⟨hdrive, rfl, fun hv => ?_, fun hv => ?_, fun hv => ?_, fun i c hi hc => ?_, fun hi => ?_⟩
  · rw [hvolume, hdefect, hvolume0 hv, hdefect0 hv]
    exact ⟨rfl, rfl⟩
  · rw [hvolume, hdefect, hvolume1 hv, hdefect1 hv]
    exact ⟨rfl, rfl⟩
  · rw [hvolume, hdefect, hvolume2 hv, hdefect2 hv]
    exact ⟨rfl, rfl⟩
  · rw [hchain, queryAnswer_chain hi hc]
    rfl
  · rw [hchain, queryAnswer_unknown hi]
    rfl

end Sys2Proof.Machine
end

section
/-! PROOF. The notices (O8): what their law reads of the state, and what NTU's own operations and a chain's end do to
it. -/

namespace Sys2Proof.Machine

/-! ## The desk -/

/-- What the law of the notices reads of the state: NTU's record and the order table. -/
structure Desk where
  ntu : Ntu
  table : List (Option Chain)

def State.desk (s : State) : Desk := { ntu := s.ntu, table := s.che.table }

@[simp] theorem desk_ntu (s : State) : s.desk.ntu = s.ntu := rfl
@[simp] theorem desk_table (s : State) : s.desk.table = s.che.table := rfl

/-- R112: an ENDED chain has its completion record. -/
def Chain.Recorded (c : Chain) : Prop := c.state = .ended → c.completion.isSome = true

/-- R177: nothing of the chain waits for a place in the queue. -/
def Chain.AsksNoPlace (c : Chain) : Prop := c.state ≠ .ended ∧ c.progress = none

/-- R173, R177, on what the law reads. -/
structure Desk.Law (d : Desk) : Prop where
  places : d.ntu.queue.length ≤ 8
  kinds : d.ntu.kinds.Nodup
  recorded : ∀ c, some c ∈ d.table → c.Recorded
  none_waits : d.ntu.queue.length < 8 → d.ntu.set = [] ∧ ∀ c, some c ∈ d.table → c.AsksNoPlace

theorem mem_table {s : State} {c : Chain} : some c ∈ s.che.table ↔ ∃ i, s.chainAt i = some c := by
  simp only [State.chainAt, List.getD_eq_getElem?_getD, List.mem_iff_getElem?]
  refine exists_congr fun i => ?_
  cases s.che.table[i]? <;> simp

/-- What holds of the chains of the table holds of its records. -/
theorem forall_chains_iff {s : State} {P : Chain → Prop} :
    (∀ p ∈ s.chains, P p.2) ↔ ∀ c, some c ∈ s.che.table → P c := by
  constructor
  · intro h c hc
    obtain ⟨i, hi⟩ := mem_table.1 hc
    exact h (i, c) (mem_chains.2 hi)
  · rintro h ⟨i, c⟩ hp
    exact h c (mem_table.2 ⟨i, mem_chains.1 hp⟩)

theorem noticeLaw_iff (s : State) : s.NoticeLaw ↔ s.desk.Law := by
  have hr := forall_chains_iff (s := s) (P := Chain.Recorded)
  have hw := forall_chains_iff (s := s) (P := Chain.AsksNoPlace)
  exact ⟨fun ⟨hq, hk, h, h'⟩ => ⟨hq, hk, hr.1 h, fun hp => ⟨(h' hp).1, hw.1 (h' hp).2⟩⟩,
    fun ⟨hq, hk, h, h'⟩ => ⟨hq, hk, hr.2 h, fun hp => ⟨(h' hp).1, hw.2 (h' hp).2⟩⟩⟩

/-! ## The kinds (R173 to R175) -/

/-- R174: the attention kind of a notice, if it is an attention. -/
def NoticeBody.kind : NoticeBody → Option Nat
  | .attention a => some a.code
  | .completion _ | .progress _ _ => none

@[simp] theorem kind_attention (a : Attention) : (NoticeBody.attention a).kind = some a.code := rfl
@[simp] theorem kind_completion (b : Completion) : (NoticeBody.completion b).kind = none := rfl
@[simp] theorem kind_progress (tag i : Nat) : (NoticeBody.progress tag i).kind = none := rfl

theorem Ntu.kinds_eq (n : Ntu) : n.kinds = n.queue.filterMap (·.body.kind) ++ n.set.map (·.code) := by
  have hkind : (fun m : Notice => m.body.kind) =
      fun m : Notice => match m.body with | .attention a => some a.code | _ => none := by
    funext m
    cases m.body <;> rfl
  rw [hkind]
  rfl

theorem isAttention_iff {m : Notice} {code : Nat} : m.isAttention code = true ↔ m.body.kind = some code := by
  unfold Notice.isAttention
  cases m.body <;> simp

/-- The kinds are those of the bodies in the queue and of the set. -/
theorem Ntu.kinds_congr {n k : Ntu} (hq : k.queue.map (·.body.kind) = n.queue.map (·.body.kind))
    (hs : k.set.map (·.code) = n.set.map (·.code)) : k.kinds = n.kinds := by
  have hf (l : List Notice) : l.filterMap (·.body.kind) = (l.map (·.body.kind)).filterMap id := by
    rw [List.filterMap_map]
    rfl
  rw [Ntu.kinds_eq, Ntu.kinds_eq, hf, hf, hq, hs]

/-- R173: a notice that joins brings its kind, if it has one. -/
theorem Ntu.kinds_join_nodup {n : Ntu} {b : NoticeBody} (h : n.kinds.Nodup) (hb : ∀ k ∈ b.kind, k ∉ n.kinds) :
    (n.join b).kinds.Nodup := by
  rw [Ntu.kinds_eq] at h
  simp only [Ntu.kinds_eq] at hb ⊢
  cases hk : b.kind with
  | none => simpa [Ntu.join, hk] using h
  | some k =>
    simp only [Ntu.join, List.filterMap_append, List.append_assoc]
    simpa [hk] using List.nodup_middle.2 (List.nodup_cons.2 ⟨hb k hk, h⟩)

/-- R174, R175: a kind that is neither queued nor in the set is new. -/
theorem Ntu.kind_new {n : Ntu} {code : Nat} (hq : n.queue.any (·.isAttention code) = false)
    (hs : n.set.any (fun x => x.code == code) = false) : code ∉ n.kinds := by
  simp only [Ntu.kinds_eq, List.mem_append, List.mem_filterMap, List.mem_map, not_or, not_exists, not_and]
  simp only [List.any_eq_false, isAttention_iff, beq_iff_eq] at hq hs
  exact ⟨hq, hs⟩

/-! ## What keeps the law -/

section law
variable {d : Desk}

/-- The queue as long as before, no kind twice, an empty set still empty, and in the table old records, or new ones
that the law allows. -/
theorem Desk.Law.renewed (h : d.Law) {e : Desk} (hq : e.ntu.queue.length = d.ntu.queue.length)
    (hk : e.ntu.kinds.Nodup) (hs : d.ntu.set = [] → e.ntu.set = [])
    (hl : ∀ c, some c ∈ e.table → some c ∈ d.table ∨ c.Recorded ∧ (d.ntu.queue.length < 8 → c.AsksNoPlace)) :
    e.Law where
  places := hq.trans_le h.places
  kinds := hk
  recorded c hc := (hl c hc).elim (h.recorded c) And.left
  none_waits hp :=
    have hd := h.none_waits (hq ▸ hp)
    ⟨hs hd.1, fun c hc => (hl c hc).elim (hd.2 c) fun hn => hn.2 (hq ▸ hp)⟩

/-- The table changes: its records are old ones, or new ones that the law allows. -/
theorem Desk.Law.retabled (h : d.Law) {l : List (Option Chain)}
    (hl : ∀ c, some c ∈ l → some c ∈ d.table ∨ c.Recorded ∧ (d.ntu.queue.length < 8 → c.AsksNoPlace)) :
    ({ d with table := l } : Desk).Law :=
  h.renewed rfl h.kinds id hl

/-- R173: a notice joins where a place is free, and its kind is not held. -/
theorem Desk.Law.joined (h : d.Law) {b : NoticeBody} (hp : d.ntu.queue.length < 8)
    (hb : ∀ k ∈ b.kind, k ∉ d.ntu.kinds) : ({ d with ntu := d.ntu.join b } : Desk).Law where
  places := by simpa [Ntu.join] using hp
  kinds := Ntu.kinds_join_nodup h.kinds hb
  recorded := h.recorded
  none_waits _ := h.none_waits hp

/-- Notices that are renewed, or marked, in their places. -/
theorem Desk.Law.requeued (h : d.Law) {q : List Notice} (hl : q.length = d.ntu.queue.length)
    (hk : q.map (·.body.kind) = d.ntu.queue.map (·.body.kind)) :
    ({ d with ntu := { d.ntu with queue := q } } : Desk).Law :=
  h.renewed hl ((Ntu.kinds_congr (n := d.ntu) (k := { d.ntu with queue := q }) hk rfl).symm ▸ h.kinds) id
    fun _ => .inl

/-- R174, R175: an attention event. -/
theorem Desk.Law.attended (h : d.Law) (a : Attention) : ({ d with ntu := d.ntu.attend a } : Desk).Law := by
  obtain ⟨-, e⟩ | ⟨-, e⟩ | ⟨-, -, e⟩ | ⟨hq, hs, ⟨hp, e⟩ | ⟨hfull, e⟩⟩ := d.ntu.attend_cases a <;> rw [e]
  · exact h
  · refine h.requeued (by simp) ?_
    rw [List.map_map]
    refine List.map_congr_left fun m _ => ?_
    by_cases hm : m.isAttention a.code = true
    · simp only [Function.comp_apply, if_pos hm, Notice.replace, kind_attention, isAttention_iff.1 hm]
    · simp only [Function.comp_apply, if_neg hm]
  · have hcodes : (d.ntu.set.map fun x => if x.code == a.code then a else x).map (·.code) =
        d.ntu.set.map (·.code) := by
      rw [List.map_map]
      refine List.map_congr_left fun x _ => ?_
      by_cases hx : x.code = a.code <;> simp [hx]
    have hkinds := Ntu.kinds_congr (n := d.ntu)
      (k := { d.ntu with set := d.ntu.set.map fun x => if x.code == a.code then a else x }) rfl hcodes
    exact h.renewed rfl (hkinds.symm ▸ h.kinds) (fun he => by simp [he]) fun _ => .inl
  · exact h.joined hp (by simpa using Ntu.kind_new hq hs)
  · refine ⟨h.places, ?_, h.recorded, fun hp => absurd hp (by simpa using hfull)⟩
    have hkinds : ({ d.ntu with set := d.ntu.set ++ [a] } : Ntu).kinds = d.ntu.kinds.concat a.code := by
      simp [Ntu.kinds_eq]
    rw [hkinds]
    exact h.kinds.concat (Ntu.kind_new hq hs)

end law

/-! ## The table and the queue -/

theorem mem_modify_map {α : Type} {l : List (Option α)} {i : Nat} {f : α → α} {c : α}
    (h : some c ∈ l.modify i (Option.map f)) : some c ∈ l ∨ ∃ b, some b ∈ l ∧ f b = c := by
  simp only [List.mem_iff_getElem?, List.getElem?_modify] at h ⊢
  obtain ⟨k, hk⟩ := h
  by_cases hi : i = k
  · cases hb : l[k]? with
    | none => simp [hb] at hk
    | some b =>
      obtain ⟨x, rfl, hx⟩ : ∃ x, b = some x ∧ f x = c := by simpa [hi, hb] using hk
      exact .inr ⟨x, ⟨k, hb⟩, hx⟩
  · exact .inl ⟨k, by simpa [hi] using hk⟩

section operations
variable {s : State}

/-- R174, R175: an attention event keeps the law. -/
@[simp] theorem attend_notices (a : Attention) (h : s.desk.Law) : (attend a s).desk.Law := h.attended a

/-- Chain records change: none becomes ENDED, and none asks for a place that asked for none. -/
@[simp] theorem updChain_notices (i : Nat) {f : Chain → Chain} (h : s.desk.Law)
    (hs : ∀ c, (f c).state = .ended → c.state = .ended) (hc : ∀ c, (f c).completion = c.completion)
    (hp : ∀ c, c.progress = none → (f c).progress = none) : (s.updChain i f).desk.Law := by
  refine h.retabled fun c hm => ?_
  obtain hm | ⟨b, hb, rfl⟩ := mem_modify_map hm
  · exact .inl hm
  · refine .inr ⟨fun he => hc b ▸ h.recorded b hb (hs b he), fun hq => ?_⟩
    obtain ⟨hstate, hprogress⟩ := (h.none_waits hq).2 b hb
    exact ⟨fun he => hstate (hs b he), hp b hprogress⟩

/-- Chain records change while no place is free. -/
theorem updChain_notices_of_full (i : Nat) {f : Chain → Chain} (h : s.desk.Law) (hq : 8 ≤ s.ntu.queue.length)
    (hf : ∀ c, c.Recorded → (f c).Recorded) : (s.updChain i f).desk.Law := by
  refine h.retabled fun c hm => ?_
  obtain hm | ⟨b, hb, rfl⟩ := mem_modify_map hm
  · exact .inl hm
  · exact .inr ⟨hf b (h.recorded b hb), fun hp => absurd hp (by simpa using hq)⟩

/-- A slot of the table becomes FREE. -/
theorem Desk.Law.freed {d : Desk} (h : d.Law) (i : Nat) : ({ d with table := d.table.set i none } : Desk).Law :=
  h.retabled fun _ hm => .inl ((List.mem_or_eq_of_mem_set hm).resolve_right (by simp))

/-- R112: an ENDED chain's completion takes its place, or waits with the chain. -/
@[simp] theorem offerCompletion_notices (i : Nat) (h : s.desk.Law) : (offerCompletion i s).desk.Law := by
  obtain ⟨b, -, hp, e⟩ | ⟨-, e⟩ := offerCompletion_cases i s <;> rw [e]
  · exact (h.joined (b := .completion b) hp (by simp)).freed i
  · exact h

/-- R112: a chain that ends gives its completion to the queue, or keeps it where no place is free. -/
@[simp] theorem chainEnd_notices (i : Nat) (code : EndCode) (loc : Option FaultLocation) (h : s.desk.Law) :
    (chainEnd i code loc s).desk.Law := by
  cases hc : s.chainAt i with
  | none => simpa [chainEnd, hc] using h
  | some c =>
    by_cases hp : s.ntu.queue.length < 8
    · rw [chainEnd_eq hc hp]
      exact (h.joined (b := .completion _) hp (by simp)).freed i
    · simp only [chainEnd, hc]
      exact offerCompletion_notices i (s := pwrIdleReset (bbfChainEnd c.tag _))
        (updChain_notices_of_full i h (by omega) fun _ _ _ => rfl)

/-- R117: a PROGRESS notice renewed in its place. -/
theorem renewProgress_kind (tag i : Nat) (m : Notice) : (m.renewProgress tag i).body.kind = m.body.kind := by
  unfold Notice.renewProgress
  split
  next hm => cases hb : m.body <;> simp [Notice.isProgress, Notice.replace, hb] at hm ⊢
  next => rfl

/-- R117: a NOTIFY order's progress is renewed in the queue, joins it, or waits where no place is free. -/
@[simp] theorem offerProgress_notices (i : Nat) (h : s.desk.Law) : (offerProgress i s).desk.Law := by
  unfold offerProgress
  split
  · exact h
  next c hc =>
    split
    · split
      · exact h.requeued (by simp) (by simp [renewProgress_kind])
      · split
        next hp =>
          have hq : s.ntu.queue.length < 8 := by simpa [Ntu.hasPlace] using hp
          exact updChain_notices i (s := s.updNtu fun n => n.join _)
            (h.joined (b := .progress c.tag c.index) hq (by simp)) (fun _ => id) (fun _ => rfl) fun _ _ => rfl
        next hp => exact updChain_notices_of_full i h (by simpa [Ntu.hasPlace] using hp) fun _ => id
    · exact h

/-! ## The place arbiter (R177) -/

theorem oldest_mem {l : List (Nat × Chain)} {p : Nat × Chain} (h : oldest l = some p) : p ∈ l := by
  induction l generalizing p with
  | nil => cases h
  | cons q l ih =>
    simp only [oldest] at h
    split at h
    · simp_all
    next r hr =>
      split at h <;> cases h
      · exact List.mem_cons_of_mem _ (ih hr)
      · exact List.mem_cons_self

theorem lowestEntry_mem {l : List Attention} {a : Attention} (h : lowestEntry l = some a) : a ∈ l := by
  induction l generalizing a with
  | nil => cases h
  | cons b l ih =>
    simp only [lowestEntry] at h
    split at h
    · simp_all
    next c hc =>
      split at h <;> cases h
      · exact List.mem_cons_of_mem _ (ih hc)
      · exact List.mem_cons_self

theorem lowestEntry_eq_none {l : List Attention} : lowestEntry l = none ↔ l = [] := by
  cases l with
  | nil => simp [lowestEntry]
  | cons a l =>
    simp only [lowestEntry]
    split
    · simp
    · split <;> simp

/-- R177: the entry that leaves the set for the queue. -/
theorem Ntu.kind_left {n : Ntu} (a : Attention) (h : n.kinds.Nodup) (ha : a ∈ n.set) :
    a.code ∉ ({ n with set := n.set.filter fun x => x.code != a.code } : Ntu).kinds := by
  rw [Ntu.kinds_eq] at h ⊢
  simp only [List.mem_append, not_or]
  exact ⟨fun hq => List.disjoint_of_nodup_append h hq (List.mem_map_of_mem ha), by simp⟩

/-- The kinds with some entries of the set discarded. -/
theorem Ntu.kinds_filter_nodup {n : Ntu} (p : Attention → Bool) (h : n.kinds.Nodup) :
    ({ n with set := n.set.filter p } : Ntu).kinds.Nodup := by
  rw [Ntu.kinds_eq] at h ⊢
  exact h.sublist (List.Sublist.append_left (List.filter_sublist.map _) _)

/-- R176, R177: the head notice leaves a lawful queue, and its place goes to what waits for it, if anything does. -/
theorem placeArbiter_notices {rest : List Notice} {m : Notice} (h : s.desk.Law) (hq : s.ntu.queue = m :: rest) :
    (placeArbiter (s.updNtu fun n => { n with queue := rest })).desk.Law := by
  let n : Ntu := { s.ntu with queue := rest }
  have hrest : rest.length < 8 := by simpa [hq] using h.places
  have hkinds : n.kinds.Nodup := by
    have hk := h.kinds
    rw [Ntu.kinds_eq, desk_ntu, hq] at hk
    rw [Ntu.kinds_eq]
    exact hk.sublist (List.Sublist.append_right ((List.sublist_cons_self m rest).filterMap _) _)
  have hlen (b : NoticeBody) : (n.join b).queue.length = s.desk.ntu.queue.length := by simp [n, Ntu.join, hq]
  unfold placeArbiter
  split
  next p hp =>
    have hmem := List.mem_filter.1 (oldest_mem hp)
    have hchain : s.chainAt p.1 = some p.2 := mem_chains.1 hmem.1
    obtain ⟨b, -, -, e⟩ | ⟨hn, -⟩ := offerCompletion_cases p.1 (s.updNtu fun n => { n with queue := rest })
    · rw [e]
      exact h.renewed (hlen _) (Ntu.kinds_join_nodup hkinds (by simp)) id
        fun _ hc => .inl ((List.mem_or_eq_of_mem_set hc).resolve_right (by simp))
    · exfalso
      have hrec := h.recorded p.2 (mem_table.2 ⟨_, hchain⟩) (by simpa using hmem.2)
      obtain hn | hn := hn
      · exact absurd hn (by simpa using hrest)
      · change (s.chainAt p.1).bind _ = none at hn
        rw [hchain, Option.bind_some] at hn
        simp [hn] at hrec
  next hended =>
    split
    next a ha =>
      exact h.renewed (hlen _)
        (Ntu.kinds_join_nodup (Ntu.kinds_filter_nodup _ hkinds)
          (by simpa using Ntu.kind_left a hkinds (lowestEntry_mem ha)))
        (fun he => by simp [Ntu.join, show s.ntu.set = [] from he]) fun _ => .inl
    next hset =>
      have hempty : s.ntu.set = [] := lowestEntry_eq_none.1 hset
      have hnone (c : Chain) (hc : some c ∈ s.che.table) : c.state ≠ .ended := by
        obtain ⟨i, hi⟩ := mem_table.1 hc
        have := List.filter_eq_nil_iff.1 (oldest_eq_none.1 hended) _ (mem_chains.2 hi)
        simpa using this
      split
      next p hp =>
        refine h.renewed (hlen _) (Ntu.kinds_join_nodup hkinds (by simp)) id fun c hc => ?_
        obtain hc | ⟨b, hb, rfl⟩ := mem_modify_map hc
        · exact .inl hc
        · exact .inr ⟨h.recorded b hb, fun _ => ⟨hnone b hb, rfl⟩⟩
      next hprogress =>
        refine ⟨hrest.le, hkinds, h.recorded, fun _ => ⟨hempty, fun c hc => ⟨hnone c hc, ?_⟩⟩⟩
        obtain ⟨i, hi⟩ := mem_table.1 hc
        have := List.filter_eq_nil_iff.1 (oldest_eq_none.1 hprogress) _ (mem_chains.2 hi)
        simpa using this

/-- R176: the head notice's frame is acknowledged. -/
@[simp] theorem noticeAcknowledged_notices (h : s.desk.Law) : (noticeAcknowledged s).desk.Law := by
  unfold noticeAcknowledged
  split
  next m rest hq =>
    split
    · split
      · exact h.requeued (by simp [hq]) (by simp [hq])
      · exact placeArbiter_notices h hq
    · exact h
  · exact h

/-- R178: the entries of kinds now OFF are discarded. -/
@[simp] theorem takeSettings_notices (payload : List Byte) (h : s.desk.Law) : (takeSettings payload s).desk.Law :=
  h.renewed rfl (Ntu.kinds_filter_nodup (n := s.ntu) _ h.kinds) (fun he => congrArg (List.filter _) he) fun _ => .inl

/-- R188: the marks of what is being sent. -/
@[simp] theorem beginFrame_notices (h : s.desk.Law) : (beginFrame s).desk.Law := by
  obtain ⟨f, -, -, e⟩ | ⟨-, e⟩ := beginFrame_cases s <;> rw [e]
  · cases f.carries with
    | notice => exact h.requeued (by simp) (map_modifyHead _ fun _ => rfl)
    | reply | want | slot => exact h
  · exact h

/-- R101: the chain accepted is QUEUED and asks for no place. -/
@[simp] theorem acceptChain_notices (tag : Nat) (orders : List Order) (h : s.desk.Law) :
    (acceptChain tag orders s).desk.Law := by
  unfold acceptChain
  split
  · exact h
  · refine h.retabled fun c hc => ?_
    obtain hc | hc := List.mem_or_eq_of_mem_set hc
    · exact .inl hc
    · cases hc
      exact .inr ⟨(by simp [Chain.Recorded]), fun _ => ⟨by simp, rfl⟩⟩

end operations
end Sys2Proof.Machine
end

section
/-! PROOF. The operations that leave the desk as it is (O8): all of SPC's, ACT's and BBF's, and those of the other blocks
that neither raise an attention event nor write a chain's record. (A proof written `(rfl)` keeps its lemma an ordinary
rewrite rule.) -/

namespace Sys2Proof.Machine

/-! ## Updates -/

section frames
variable (s : State)
@[simp] theorem updSpc_desk (f) : (s.updSpc f).desk = s.desk := (rfl)
@[simp] theorem updAct_desk (f) : (s.updAct f).desk = s.desk := (rfl)
@[simp] theorem updVol0_desk (f) : (s.updVol0 f).desk = s.desk := (rfl)
@[simp] theorem updVol1_desk (f) : (s.updVol1 f).desk = s.desk := (rfl)
@[simp] theorem updBbf_desk (f) : (s.updBbf f).desk = s.desk := (rfl)
@[simp] theorem updRcv_desk (f) : (s.updRcv f).desk = s.desk := (rfl)
@[simp] theorem updPwr_desk (f) : (s.updPwr f).desk = s.desk := (rfl)
@[simp] theorem updLnk_desk (f) : (s.updLnk f).desk = s.desk := (rfl)
@[simp] theorem updPins_desk (f) : (s.updPins f).desk = s.desk := (rfl)
@[simp] theorem setPass_desk (p) : (s.setPass p).desk = s.desk := (rfl)
@[simp] theorem setXfer_desk (x) : (s.setXfer x).desk = s.desk := (rfl)
@[simp] theorem setCopy_desk (d) : (s.setCopy d).desk = s.desk := (rfl)
@[simp] theorem send_desk (m) : (s.send m).desk = s.desk := (rfl)
@[simp] theorem updJob_desk (f) : (s.updJob f).desk = s.desk := (rfl)
@[simp] theorem setMech_desk (h) : (s.setMech h).desk = s.desk := (rfl)
@[simp] theorem setBlockSlot_desk (i b) : (s.setBlockSlot i b).desk = s.desk := (rfl)
@[simp] theorem setPassPhase_desk (ph) : (s.setPassPhase ph).desk = s.desk := (rfl)
@[simp] theorem setPhase_desk (ph) : (setPhase ph s).desk = s.desk := (rfl)
@[simp] theorem setLamp_desk : (setLamp s).desk = s.desk := (rfl)
@[simp] theorem closeGate_desk : (closeGate s).desk = s.desk := (rfl)
@[simp] theorem openGate_desk : (openGate s).desk = s.desk := (rfl)
@[simp] theorem updVol_desk (v f) : (s.updVol v f).desk = s.desk := by cases v <;> rfl

/-- CHE's record changes, but for its table. -/
@[simp] theorem updChe_desk {f : Che → Che} (hf : ∀ e, (f e).table = e.table) : (s.updChe f).desk = s.desk := by
  simp [State.desk, hf]

end frames

/-- A fold of operations that leave the desk alone leaves it alone. -/
theorem foldl_desk {α : Type} {f : State → α → State} (hf : ∀ s a, (f s a).desk = s.desk) (l : List α) (s : State) :
    (l.foldl f s).desk = s.desk := by
  induction l generalizing s with
  | nil => rfl
  | cons a l ih => rw [List.foldl_cons, ih, hf]

section operations
variable (s : State)

/-! ## Actuator Controller -/

@[simp] theorem actHead_desk (h : HeadState) : (actHead h s).desk = s.desk := by unfold actHead; split <;> simp
@[simp] theorem actAnswer_desk (x : SeekAnswer) : (actAnswer x s).desk = s.desk := by unfold actAnswer; split <;> simp
@[simp] theorem actTryLoad_desk : (actTryLoad s).desk = s.desk := by unfold actTryLoad; (repeat' split) <;> simp

@[simp] theorem actRequestLoad_desk (p : Party) (v : Vol) : (actRequestLoad p v s).desk = s.desk := by
  unfold actRequestLoad; (repeat' split) <;> simp

@[simp] theorem actWithdraw_desk (p : Party) : (actWithdraw p s).desk = s.desk := (rfl)
@[simp] theorem actPermit_desk : (actPermit s).desk = s.desk := by simp [actPermit]

@[simp] theorem actEnterUnloading_desk (x : SeekAnswer) : (actEnterUnloading x s).desk = s.desk := by
  simp [actEnterUnloading]

@[simp] theorem actUnload_desk : (actUnload s).desk = s.desk := by unfold actUnload; split <;> simp
@[simp] theorem actRetract_desk : (actRetract s).desk = s.desk := by unfold actRetract; split <;> simp
@[simp] theorem actPark_desk : (actPark s).desk = s.desk := by simp [actPark]
@[simp] theorem actRamp_desk : (actRamp s).desk = s.desk := by unfold actRamp; split <;> simp
@[simp] theorem actUnloadExpiry_desk : (actUnloadExpiry s).desk = s.desk := by unfold actUnloadExpiry; split <;> simp

@[simp] theorem actRetractExpiry_desk : (actRetractExpiry s).desk = s.desk := by
  unfold actRetractExpiry; split <;> simp

@[simp] theorem actAcquisitionExpiry_desk : (actAcquisitionExpiry s).desk = s.desk := by
  have hf := foldl_desk (f := fun t (r : LoadRequest) => t.send (.loadFailed r.party)) (by simp) s.act.loads s
  unfold actAcquisitionExpiry
  split
  · split <;> simp [hf]
  · rfl

@[simp] theorem actAttempt_desk (k : Seek) (again : Bool) : (actAttempt k again s).desk = s.desk := by
  unfold actAttempt; dsimp only; (repeat' split) <;> simp

@[simp] theorem actTakeSeek_desk (k : Seek) : (actTakeSeek k s).desk = s.desk := by unfold actTakeSeek; split <;> simp

@[simp] theorem actSeek_desk (p : Party) (t : Target) : (actSeek p t s).1.desk = s.desk := by
  unfold actSeek; split <;> simp

@[simp] theorem actArrive_desk : (actArrive s).desk = s.desk := by simp [actArrive]
@[simp] theorem actFail_desk : (actFail s).desk = s.desk := by unfold actFail; dsimp only; (repeat' split) <;> simp

@[simp] theorem actMisplaced_desk (p : Party) (t : Target) : (actMisplaced p t s).desk = s.desk := by
  unfold actMisplaced; dsimp only; (repeat' split) <;> simp

@[simp] theorem actAcquire_desk (cyl : Nat) (e : Int) : (actAcquire cyl e s).desk = s.desk := by
  unfold actAcquire
  extract_lets t u v
  have hv : v.desk = s.desk :=
    (foldl_desk (f := fun t (r : LoadRequest) => t.send (.loaded r.party)) (by simp) _ _).trans (by simp [t])
  split <;> simp [hv]

@[simp] theorem actSettleWedge_desk (cyl : Nat) (e : Int) : (actSettleWedge cyl e s).desk = s.desk := by
  unfold actSettleWedge; (repeat' split) <;> simp

@[simp] theorem actReacquire_desk (cyl : Nat) : (actReacquire cyl s).desk = s.desk := by
  unfold actReacquire; dsimp only; (repeat' split) <;> simp

@[simp] theorem actRecalibrate_desk (cyl : Nat) : (actRecalibrate cyl s).desk = s.desk := by
  unfold actRecalibrate; (repeat' split) <;> simp

@[simp] theorem actGateWedge_desk (e : Int) : (actGateWedge e s).desk = s.desk := by
  unfold actGateWedge; split <;> simp

@[simp] theorem actWedge_desk (w cyl : Nat) (e : Int) (out : ReadOutcome) (data : List Byte) :
    (actWedge w cyl e out data s).desk = s.desk := by unfold actWedge; dsimp only; (repeat' split) <;> simp

@[simp] theorem actPlanEnd_desk : (actPlanEnd s).desk = s.desk := by unfold actPlanEnd; split <;> simp
@[simp] theorem actSettleEnd_desk : (actSettleEnd s).desk = s.desk := by unfold actSettleEnd; split <;> simp
@[simp] theorem actSeekTimeout_desk : (actSeekTimeout s).desk = s.desk := by unfold actSeekTimeout; split <;> simp
@[simp] theorem actStage1_desk : (actStage1 s).desk = s.desk := by unfold actStage1; split <;> simp
@[simp] theorem actStage2_desk : (actStage2 s).desk = s.desk := by unfold actStage2; split <;> simp

/-! ## Spindle Controller -/

@[simp] theorem spcTell_desk (st : SpindleState) : (spcTell st s).desk = s.desk := (rfl)
@[simp] theorem spcDropHeld_desk : (spcDropHeld s).desk = s.desk := by unfold spcDropHeld; split <;> simp
@[simp] theorem spcJoin_desk (x : Requester) : (spcJoin x s).desk = s.desk := by simp [spcJoin]

@[simp] theorem spcLeaveWait_desk (x : Requester) : (spcLeaveWait x s).desk = s.desk := by
  unfold spcLeaveWait; split <;> simp

@[simp] theorem spcTakeStart_desk : (spcTakeStart s).desk = s.desk := (rfl)

@[simp] theorem spcStart_desk (x : Requester) : (spcStart x s).1.desk = s.desk := by
  unfold spcStart; (repeat' split) <;> simp

@[simp] theorem spcEnterBraking_desk (cause : StopCause) : (spcEnterBraking cause s).desk = s.desk := (rfl)

@[simp] theorem spcStop_desk (x : Requester) (cause : StopCause) : (spcStop x cause s).1.desk = s.desk := by
  unfold spcStop; (repeat' split) <;> simp

@[simp] theorem spcAnswerStopped_desk : (spcAnswerStopped s).desk = s.desk := by
  unfold spcAnswerStopped; dsimp only; (repeat' split) <;> simp

@[simp] theorem spcStopped_desk : (spcStopped s).desk = s.desk := by
  unfold spcStopped; dsimp only; (repeat' split) <;> simp

@[simp] theorem spcConfirmed_desk : (spcConfirmed s).desk = s.desk := by unfold spcConfirmed; split <;> simp

@[simp] theorem spcStopTest_desk (saturated : Bool) {passed : State → State}
    (hp : ∀ t : State, (passed t).desk = t.desk) : (spcStopTest saturated passed s).desk = s.desk := by
  obtain ⟨-, e⟩ | ⟨-, -, e⟩ | ⟨-, -, e⟩ := spcStopTest_cases saturated passed s <;> rw [e] <;> simp [hp]

@[simp] theorem spcStopInput_desk (saturated : Bool) : (spcStopInput saturated s).desk = s.desk := by
  unfold spcStopInput; (repeat' split) <;> simp

@[simp] theorem spcLockingInterval_desk (t : Nat) : (spcLockingInterval t s).desk = s.desk := by
  unfold spcLockingInterval; dsimp only; (repeat' split) <;> simp

@[simp] theorem spcLockLossActs_desk : (spcLockLossActs s).desk = s.desk := by unfold spcLockLossActs; split <;> simp

@[simp] theorem spcLockedInterval_desk (t : Nat) : (spcLockedInterval t s).desk = s.desk := by
  unfold spcLockedInterval; dsimp only; (repeat' split) <;> simp

@[simp] theorem spcInterval_desk (t : Nat) (saturated : Bool) : (spcInterval t saturated s).desk = s.desk := by
  unfold spcInterval; (repeat' split) <;> simp

@[simp] theorem spcPurgePulse_desk : (spcPurgePulse s).desk = s.desk := by
  unfold spcPurgePulse; (repeat' split) <;> simp

@[simp] theorem spcPermit_desk (was : Bool) : (spcPermit was s).desk = s.desk := by unfold spcPermit; split <;> simp

@[simp] theorem spcTachPulse_desk (ticks : Nat) : (spcTachPulse ticks s).desk = s.desk := by
  unfold spcTachPulse; dsimp only; (repeat' split) <;> simp

@[simp] theorem spcSaturated_desk : (spcSaturated s).desk = s.desk := by simp [spcSaturated]
@[simp] theorem spcSpinFault_desk : (spcSpinFault s).desk = s.desk := (rfl)
@[simp] theorem spcStartExpiry_desk : (spcStartExpiry s).desk = s.desk := by unfold spcStartExpiry; split <;> simp
@[simp] theorem spcRelockExpiry_desk : (spcRelockExpiry s).desk = s.desk := by unfold spcRelockExpiry; split <;> simp
@[simp] theorem spcBrakeExpiry_desk : (spcBrakeExpiry s).desk = s.desk := by unfold spcBrakeExpiry; split <;> simp

/-! ## Volume Manager -/

@[simp] theorem volLeave_desk : (volLeave s).desk = s.desk := (rfl)
@[simp] theorem volRemoved_desk : (volRemoved s).desk = s.desk := (rfl)
@[simp] theorem volJammed_desk : (volJammed s).desk = s.desk := (rfl)
@[simp] theorem volWindowEnded_desk : (volWindowEnded s).desk = s.desk := (rfl)
@[simp] theorem volInserted_desk : (volInserted s).desk = s.desk := (rfl)
@[simp] theorem volLoaded_desk : (volLoaded s).desk = s.desk := (rfl)
@[simp] theorem volFirstReport_desk (b : Bool) : (volFirstReport b s).desk = s.desk := (rfl)

@[simp] theorem passRelease_desk (p : Pass) : (passRelease p s).desk = s.desk := by
  unfold passRelease; dsimp only; (repeat' split) <;> simp

@[simp] theorem volAbandon_desk (code : EndCode) : (volAbandon code s).desk = s.desk := by
  unfold volAbandon; dsimp only; (repeat' split) <;> simp

@[simp] theorem volDormant_desk : (volDormant s).desk = s.desk := by simp [volDormant]

@[simp] theorem passSeek_desk : (passSeek s).desk = s.desk := by
  unfold passSeek
  split
  · rfl
  next p _ =>
    have hm := actSeek_desk s .vol { cylinder := 0, comb := 2 * p.volume.toNat }
    split <;> (rename_i e; rw [e] at hm; simpa using hm)

@[simp] theorem passWithdraw_desk (p : Pass) : (passWithdraw p s).desk = s.desk := by
  unfold passWithdraw; dsimp only; (repeat' split) <;> simp

@[simp] theorem passGrant_desk (v : Vol) (lent : Bool) : (passGrant v lent s).desk = s.desk := by
  unfold passGrant; dsimp only; (repeat' split) <;> simp

@[simp] theorem passBoundary_desk : (passBoundary s).desk = s.desk := by unfold passBoundary; split <;> simp
@[simp] theorem passLoaded_desk : (passLoaded s).desk = s.desk := by unfold passLoaded; (repeat' split) <;> simp

@[simp] theorem passSeekAnswer_desk (x : SeekAnswer) : (passSeekAnswer x s).desk = s.desk := by
  unfold passSeekAnswer; (repeat' split) <;> simp

@[simp] theorem passHead_desk (now : HeadState) : (passHead now s).desk = s.desk := by
  unfold passHead; (repeat' split) <;> simp

@[simp] theorem passSpinFault_desk : (passSpinFault s).desk = s.desk := by
  unfold passSpinFault; (repeat' split) <;> simp

@[simp] theorem passOpen_desk (wedge : Nat) (p : Pass) : (passOpen wedge p s).desk = s.desk := by
  unfold passOpen; dsimp only; (repeat' split) <;> simp

/-! ## Receiver Controller -/

@[simp] theorem rcvLock_desk : (rcvLock s).desk = s.desk := (rfl)

@[simp] theorem rcvEnterReleasing_desk : (rcvEnterReleasing s).desk = s.desk := by
  unfold rcvEnterReleasing; (repeat' split) <;> simp

@[simp] theorem rcvEnterStopping_desk : (rcvEnterStopping s).desk = s.desk := by
  have ht := spcStop_desk (s.updRcv fun r => { r with stage := .stopping }) .rcv (rcvStopCause s.rcv)
  unfold rcvEnterStopping
  split <;> (rename_i e; rw [e] at ht; simpa using ht)

@[simp] theorem rcvEnterUnloading_desk : (rcvEnterUnloading s).desk = s.desk := by
  unfold rcvEnterUnloading; dsimp only; (repeat' split) <;> simp

@[simp] theorem rcvStart_desk (source : EjectSource) : (rcvStart source s).desk = s.desk := (rfl)
@[simp] theorem rcvEnd_desk : (rcvEnd s).desk = s.desk := by unfold rcvEnd; dsimp only; (repeat' split) <;> simp
@[simp] theorem rcvWindowEnd_desk : (rcvWindowEnd s).desk = s.desk := by simp [rcvWindowEnd]

@[simp] theorem rcvButtonSwitch_desk (was pressed : Bool) : (rcvButtonSwitch was pressed s).desk = s.desk := by
  unfold rcvButtonSwitch; split <;> simp

@[simp] theorem rcvHoldExpiry_desk : (rcvHoldExpiry s).desk = s.desk := by
  unfold rcvHoldExpiry; dsimp only; (repeat' split) <;> simp

@[simp] theorem rcvRefusalExpiry_desk : (rcvRefusalExpiry s).desk = s.desk := (rfl)

@[simp] theorem rcvEject_desk (tag : Nat) : (rcvEject tag s).1.desk = s.desk := by
  unfold rcvEject; dsimp only; (repeat' split) <;> simp

@[simp] theorem rcvHold_desk : (rcvHold s).1.desk = s.desk := by unfold rcvHold; (repeat' split) <;> simp
@[simp] theorem rcvRelease_desk : (rcvRelease s).desk = s.desk := (rfl)

@[simp] theorem rcvSupplyFault_desk : (rcvSupplyFault s).desk = s.desk := by
  unfold rcvSupplyFault; dsimp only; (repeat' split) <;> simp

@[simp] theorem rcvSupplyRecovery_desk : (rcvSupplyRecovery s).desk = s.desk := by
  unfold rcvSupplyRecovery; dsimp only; (repeat' split) <;> simp

@[simp] theorem rcvParked_desk : (rcvParked s).desk = s.desk := by unfold rcvParked; split <;> simp
@[simp] theorem rcvStopped_desk : (rcvStopped s).desk = s.desk := by unfold rcvStopped; split <;> simp
@[simp] theorem rcvReenter_desk : (rcvReenter s).desk = s.desk := by unfold rcvReenter; split <;> simp

/-! ## Power Manager -/

@[simp] theorem pwrWake_desk : (pwrWake s).desk = s.desk := by unfold pwrWake; split <;> simp
@[simp] theorem pwrPositionLost_desk : (pwrPositionLost s).desk = s.desk := by unfold pwrPositionLost; split <;> simp
@[simp] theorem pwrIdleReset_desk : (pwrIdleReset s).desk = s.desk := (rfl)
@[simp] theorem pwrLinkReset_desk : (pwrLinkReset s).desk = s.desk := (rfl)

@[simp] theorem pwrSupplyFault_desk : (pwrSupplyFault s).desk = s.desk := by
  unfold pwrSupplyFault
  extract_lets t
  have ht := spcStop_desk (actRetract (t.send .supplyFault)) .pwr .supply
  split <;> (rename_i e; rw [e] at ht; simpa [t] using ht)

@[simp] theorem pwrFall_desk : (pwrFall s).desk = s.desk := by unfold pwrFall; split <;> simp
@[simp] theorem pwrRise_desk : (pwrRise s).desk = s.desk := by unfold pwrRise; split <;> simp
/-! ## Block Buffer -/

theorem reserveRead_desk {tag sequence : Nat} {s t : State} (h : reserveRead tag sequence s = some t) :
    t.desk = s.desk := by
  obtain ⟨-, e⟩ | ⟨i, -, e⟩ | ⟨-, e⟩ := reserveRead_cases tag sequence s <;> rw [e] at h <;> cases h <;> rfl

@[simp] theorem fillRead_desk (tag order sequence length : Nat) (check : Bool) (data : List Byte) :
    (fillRead tag order sequence length check data s).desk = s.desk := by unfold fillRead; split <;> rfl

@[simp] theorem slotDelivered_desk : (slotDelivered s).desk = s.desk := by
  unfold slotDelivered; (repeat' split) <;> simp

@[simp] theorem reserveEach_desk (tag : Nat) (qs : List Nat) : (reserveEach tag qs s).desk = s.desk := by
  induction qs generalizing s with
  | nil => rfl
  | cons q qs ih => unfold reserveEach; split <;> simp [ih]

@[simp] theorem reserveWrite_desk (ch : Chain) : (reserveWrite ch s).desk = s.desk := by
  unfold reserveWrite; dsimp only; (repeat' split) <;> simp

@[simp] theorem fillWrite_desk (tag sequence : Nat) (data : List Byte) :
    (fillWrite tag sequence data s).desk = s.desk := by unfold fillWrite; split <;> simp

@[simp] theorem freeWritten_desk (tag sequence : Nat) : (freeWritten tag sequence s).desk = s.desk := by
  unfold freeWritten; split <;> simp

@[simp] theorem wantDelivered_desk : (wantDelivered s).desk = s.desk := by
  unfold wantDelivered; (repeat' split) <;> simp

@[simp] theorem bbfChainEnd_desk (tag : Nat) : (bbfChainEnd tag s).desk = s.desk := (rfl)

/-! ## The order at work -/

@[simp] theorem jobEnd_desk (code : EndCode) : (jobEnd code s).desk = s.desk := by
  unfold jobEnd; (repeat' split) <;> simp

@[simp] theorem jobLeaves_desk (j : Job) : (jobLeaves j s).desk = s.desk := by
  unfold jobLeaves; dsimp only; (repeat' split) <;> simp

@[simp] theorem jobFault_desk (code : EndCode) : (jobFault code s).desk = s.desk := by
  unfold jobFault; (repeat' split) <;> simp

@[simp] theorem jobStop_desk : (jobStop s).desk = s.desk := by simp [jobStop]

@[simp] theorem askSeek_desk (t : Target) : (askSeek t s).desk = s.desk := by
  have hm := actSeek_desk s .che t
  unfold askSeek
  split <;> (rename_i e; rw [e] at hm; simpa using hm)

@[simp] theorem goTo_desk (t : Target) : (goTo t s).desk = s.desk := by unfold goTo; split <;> simp
@[simp] theorem jobPlaced_desk : (jobPlaced s).desk = s.desk := (rfl)

@[simp] theorem takeUp_desk (f : Job → Job) : (takeUp f s).desk = s.desk := by
  unfold takeUp; dsimp only; (repeat' split) <;> simp

@[simp] theorem nextBlock_desk : (nextBlock s).desk = s.desk := by unfold nextBlock; split <;> simp

@[simp] theorem jobSeekAnswer_desk (x : SeekAnswer) : (jobSeekAnswer x s).desk = s.desk := by
  unfold jobSeekAnswer; (repeat' split) <;> simp

@[simp] theorem jobHead_desk (was now : HeadState) : (jobHead was now s).desk = s.desk := by
  unfold jobHead; (repeat' split) <;> simp

@[simp] theorem jobSpinFault_desk : (jobSpinFault s).desk = s.desk := by unfold jobSpinFault; (repeat' split) <;> simp

@[simp] theorem jobLoadFailed_desk : (jobLoadFailed s).desk = s.desk := by
  unfold jobLoadFailed; (repeat' split) <;> simp

@[simp] theorem jobPassAbandoned_desk (code : EndCode) : (jobPassAbandoned code s).desk = s.desk := by
  unfold jobPassAbandoned; (repeat' split) <;> simp

@[simp] theorem jobReached_desk : (jobReached s).desk = s.desk := by unfold jobReached; (repeat' split) <;> simp

@[simp] theorem wantExpired_desk (tag first : Nat) : (wantExpired tag first s).desk = s.desk := by
  unfold wantExpired; dsimp only; (repeat' split) <;> simp

/-! ## Defect tables -/

@[simp] theorem beginHeader_desk (use : HeaderUse) : (beginHeader use s).desk = s.desk := by
  unfold beginHeader; dsimp only; (repeat' split) <;> simp

@[simp] theorem writeThrough_desk (changed : Bool) (ok bad : EndCode) :
    (writeThrough changed ok bad s).desk = s.desk := by unfold writeThrough; split <;> simp

@[simp] theorem beginFormat_desk : (beginFormat s).desk = s.desk := by simp [beginFormat]
@[simp] theorem formatDone_desk (j : Job) : (formatDone j s).desk = s.desk := by simp [formatDone]
@[simp] theorem beginAltRead_desk (j : Job) : (beginAltRead j s).desk = s.desk := by simp [beginAltRead]

@[simp] theorem chooseAlternate_desk : (chooseAlternate s).desk = s.desk := by
  unfold chooseAlternate; (repeat' split) <;> simp

@[simp] theorem setAlternate_desk (j : Job) (a : Nat) (x : Alt) : (setAlternate j a x s).desk = s.desk := by
  simp [setAlternate]

@[simp] theorem altReadDone_desk (j : Job) : (altReadDone j s).desk = s.desk := by
  unfold altReadDone; dsimp only; (repeat' split) <;> simp

@[simp] theorem altWriteClosed_desk (j : Job) (a : Nat) (kept : Bool) : (altWriteClosed j a kept s).desk = s.desk := by
  unfold altWriteClosed; (repeat' split) <;> simp

@[simp] theorem altVerifyClosed_desk (j : Job) (a : Nat) (seen : IdentitySeen) (out : ReadOutcome) (data : List Byte) :
    (altVerifyClosed j a seen out data s).desk = s.desk := by
  unfold altVerifyClosed; extract_lets unread final t; split <;> simp [t]

@[simp] theorem beginAltTrack_desk (head : Nat) : (beginAltTrack head s).desk = s.desk := by simp [beginAltTrack]

@[simp] theorem headerWritten_desk (j : Job) (use : HeaderUse) : (headerWritten j use s).desk = s.desk := by
  unfold headerWritten; dsimp only; (repeat' split) <;> simp

@[simp] theorem headerFailed_desk (j : Job) (use : HeaderUse) : (headerFailed j use s).desk = s.desk := by
  unfold headerFailed; dsimp only; (repeat' split) <;> simp

/-! ## Transfers -/

@[simp] theorem startXfer_desk (j : Job) (kind : XferKind) (slot : Nat) (data : List Byte) :
    (startXfer j kind slot data s).desk = s.desk := by cases kind <;> rfl

@[simp] theorem blockEnded_desk : (blockEnded s).desk = s.desk := by
  unfold blockEnded; dsimp only; (repeat' split) <;> simp

@[simp] theorem altReadEnded_desk (j : Job) (out : ReadOutcome) (data : List Byte) :
    (altReadEnded j out data s).desk = s.desk := by unfold altReadEnded; dsimp only; (repeat' split) <;> simp

@[simp] theorem jobBoundary_desk : (jobBoundary s).desk = s.desk := by unfold jobBoundary; (repeat' split) <;> simp

@[simp] theorem boundaryLost_desk : (boundaryLost s).desk = s.desk := by
  unfold boundaryLost; dsimp only; (repeat' split) <;> simp

@[simp] theorem misplaced_desk (x : Xfer) : (misplaced x s).desk = s.desk := by
  unfold misplaced; dsimp only; (repeat' split) <;> simp

@[simp] theorem identityRead_desk (identity : Option Identity) : (identityRead identity s).desk = s.desk := by
  unfold identityRead; (repeat' split) <;> simp

/-! ## Orders and the link -/

@[simp] theorem beginWork_desk : (beginWork s).desk = s.desk := by
  unfold beginWork; dsimp only; (repeat' split) <;> simp

@[simp] theorem mountWait_desk (j : Job) : (mountWait j s).desk = s.desk := by unfold mountWait; split <;> simp

@[simp] theorem withHeads_desk (waits : Bool) (j : Job) : (withHeads waits j s).desk = s.desk := by
  unfold withHeads; split <;> simp

@[simp] theorem needHeads_desk (waits : Bool) (j : Job) : (needHeads waits j s).desk = s.desk := by
  unfold needHeads; split <;> simp

@[simp] theorem orderChecks_desk : (orderChecks s).desk = s.desk := by unfold orderChecks; (repeat' split) <;> simp
@[simp] theorem jobLoaded_desk : (jobLoaded s).desk = s.desk := by unfold jobLoaded; (repeat' split) <;> simp

@[simp] theorem jobMounted_desk (v : Vol) : (jobMounted v s).desk = s.desk := by
  unfold jobMounted; (repeat' split) <;> simp

@[simp] theorem orderRelease_desk : (orderRelease s).desk = s.desk := by
  unfold orderRelease; dsimp only; (repeat' split) <;> simp

@[simp] theorem jobLinkReset_desk : (jobLinkReset s).desk = s.desk := by
  unfold jobLinkReset; dsimp only; (repeat' split) <;> simp

@[simp] theorem addReply_desk (r : Reply) : (addReply r s).desk = s.desk := (rfl)
@[simp] theorem replyLeaves_desk : (replyLeaves s).desk = s.desk := (rfl)

@[simp] theorem chosen_desk (contested : Bool) : (chosen contested s).desk = s.desk := by
  unfold chosen
  split <;> rfl

end operations
end Sys2Proof.Machine
end

section
/-! PROOF. The operations that raise attention events or write chains' records keep the law of the notices (O8), and so
does every reaction, command and step. -/

namespace Sys2Proof.Machine

section operations
variable {s : State}

/-- A fold of operations that keep the law keeps it. -/
theorem foldl_notices {α : Type} {f : State → α → State} (hf : ∀ s a, s.desk.Law → (f s a).desk.Law) (l : List α)
    (h : s.desk.Law) : (l.foldl f s).desk.Law := by
  induction l generalizing s with
  | nil => exact h
  | cons a l ih => exact ih (hf s a h)

/-! ## Volume Manager -/

@[simp] theorem passEnd_notices (st : VolState) (c : Option HeaderContents) (h : s.desk.Law) :
    (passEnd st c s).desk.Law := by
  unfold passEnd
  split <;> simp [h]

@[simp] theorem passRead_notices (p : Pass) (h : s.desk.Law) : (passRead p s).desk.Law := by
  unfold passRead
  dsimp only
  repeat' split
  all_goals simp [h]

@[simp] theorem passClosed_notices (slot : Nat) (seen : IdentitySeen) (off : Bool) (out : ReadOutcome)
    (data : List Byte) (h : s.desk.Law) : (passClosed slot seen off out data s).desk.Law := by
  unfold passClosed
  dsimp only
  repeat' split
  all_goals simp [h]

/-! ## Receiver Controller -/

@[simp] theorem rcvRemoval_notices (h : s.desk.Law) : (rcvRemoval s).desk.Law := by simp [rcvRemoval, h]

@[simp] theorem rcvJam_notices (h : s.desk.Law) : (rcvJam s).desk.Law := by simp [rcvJam, h]

@[simp] theorem rcvInsertion_notices (h : s.desk.Law) : (rcvInsertion s).desk.Law := by simp [rcvInsertion, h]

@[simp] theorem rcvSwitchDue_notices (closed : Bool) (h : s.desk.Law) : (rcvSwitchDue closed s).desk.Law := by
  unfold rcvSwitchDue
  repeat' split
  all_goals simp [h]

@[simp] theorem rcvPresenceSwitch_notices (was closed : Bool) (h : s.desk.Law) :
    (rcvPresenceSwitch was closed s).desk.Law := by
  unfold rcvPresenceSwitch
  split <;> simp [h]

@[simp] theorem rcvPresenceChange_notices (present : Bool) (h : s.desk.Law) :
    (rcvPresenceChange present s).desk.Law := by
  unfold rcvPresenceChange
  repeat' split
  all_goals simp [h]

@[simp] theorem rcvPresenceDebounced_notices (h : s.desk.Law) : (rcvPresenceDebounced s).desk.Law := by
  unfold rcvPresenceDebounced
  repeat' split
  all_goals simp [h]

@[simp] theorem rcvRemovalExpiry_notices (h : s.desk.Law) : (rcvRemovalExpiry s).desk.Law := by
  unfold rcvRemovalExpiry
  repeat' split
  all_goals simp [h]

@[simp] theorem rcvWindowExpiry_notices (h : s.desk.Law) : (rcvWindowExpiry s).desk.Law := by
  unfold rcvWindowExpiry
  repeat' split
  all_goals simp [h]

@[simp] theorem rcvPress_notices (h : s.desk.Law) : (rcvPress s).desk.Law := by
  unfold rcvPress
  repeat' split
  all_goals simp [h]

@[simp] theorem rcvButtonDebounced_notices (h : s.desk.Law) : (rcvButtonDebounced s).desk.Law := by
  unfold rcvButtonDebounced
  repeat' split
  all_goals simp [h]

/-! ## Power Manager -/

@[simp] theorem pwrSetState_notices (p : PowerState) (h : s.desk.Law) : (pwrSetState p s).desk.Law := by
  unfold pwrSetState
  repeat' split
  all_goals simp [h]

@[simp] theorem pwrAtTarget_notices (h : s.desk.Law) : (pwrAtTarget s).desk.Law := by
  unfold pwrAtTarget
  split <;> simp [h]

@[simp] theorem pwrStopStep_notices (h : s.desk.Law) : (pwrStopStep s).desk.Law := by
  have ht := spcStop_desk s .pwr (s.pwr.descent.getD .idle)
  unfold pwrStopStep
  split <;> (rename_i e; rw [e] at ht; simp [ht, h])

@[simp] theorem pwrParkedStep_notices (h : s.desk.Law) : (pwrParkedStep s).desk.Law := by
  unfold pwrParkedStep
  split <;> simp [h]

@[simp] theorem pwrMoveDown_notices (level : PowerState) (cause : StopCause) (h : s.desk.Law) :
    (pwrMoveDown level cause s).desk.Law := by
  unfold pwrMoveDown
  split <;> simp [h]

@[simp] theorem pwrLoading_notices (h : s.desk.Law) : (pwrLoading s).desk.Law := by
  unfold pwrLoading
  split <;> simp [h]

@[simp] theorem pwrParked_notices (h : s.desk.Law) : (pwrParked s).desk.Law := by
  unfold pwrParked
  split <;> simp [h]

@[simp] theorem pwrSpindle_notices (st : SpindleState) (h : s.desk.Law) : (pwrSpindle st s).desk.Law := by
  unfold pwrSpindle pwrLocked pwrSpinFault
  repeat' split
  all_goals simp [h]

@[simp] theorem pwrStopped_notices (h : s.desk.Law) : (pwrStopped s).desk.Law := by
  unfold pwrStopped
  repeat' split
  all_goals simp [h]

@[simp] theorem pwrTick_notices (h : s.desk.Law) : (pwrTick s).desk.Law := by
  unfold pwrTick pwrCompare
  repeat' split
  all_goals simp [h]

@[simp] theorem pwrLimitTick_notices (h : s.desk.Law) : (pwrLimitTick s).desk.Law := by
  unfold pwrLimitTick
  split <;> simp [h]

@[simp] theorem pwrSetPower_notices (p : PowerState) (h : s.desk.Law) : (pwrSetPower p s).1.desk.Law := by
  unfold pwrSetPower
  repeat' split
  all_goals simp [h]

@[simp] theorem pwrHoldOffExpiry_notices (h : s.desk.Law) : (pwrHoldOffExpiry s).desk.Law := by
  unfold pwrHoldOffExpiry pwrRecovery
  split <;> simp [h]

/-! ## The order at work -/

/-- R109, R130: a record of the order's chain changes, with nothing of it to wait for a place. -/
@[simp] theorem updJobChain_notices (j : Job) {f : Chain → Chain} (h : s.desk.Law)
    (hs : ∀ c, (f c).state = .ended → c.state = .ended) (hc : ∀ c, (f c).completion = c.completion)
    (hp : ∀ c, c.progress = none → (f c).progress = none) : (updJobChain j f s).desk.Law := by
  unfold updJobChain
  split
  · exact updChain_notices _ h hs hc hp
  · exact h

@[simp] theorem initDone_notices (j : Job) (h : s.desk.Law) : (initDone j s).desk.Law := by
  rw [initDone_eq]
  dsimp only
  split <;> simp [h]

@[simp] theorem slotFinished_notices (j : Job) (h : s.desk.Law) : (slotFinished j s).desk.Law := by
  unfold slotFinished altTrackDone
  repeat' split
  all_goals simp [h]

@[simp] theorem slotClosed_notices (j : Job) (slot : Nat) (kept : Bool) (h : s.desk.Law) :
    (slotClosed j slot kept s).desk.Law := by
  unfold slotClosed slotGivenUp
  repeat' split
  all_goals simp [h]

@[simp] theorem dataWait_notices (j : Job) (h : s.desk.Law) : (dataWait j s).desk.Law := by simp [dataWait, h]

@[simp] theorem dataReady_notices (j : Job) (h : s.desk.Law) : (dataReady j s).desk.Law := by simp [dataReady, h]

@[simp] theorem openBlock_notices (j : Job) (slot : Nat) (h : s.desk.Law) : (openBlock j slot s).desk.Law := by
  unfold openBlock
  split
  · exact h
  · split
    · split
      next e => simp [reserveRead_desk e, h]
      next => simp [h]
    · split <;> simp [h]
    · simp [h]

@[simp] theorem openWedge_notices (wedge : Nat) (h : s.desk.Law) : (openWedge wedge s).desk.Law := by
  unfold openWedge jobOpen
  repeat' split
  all_goals simp [h]

@[simp] theorem countBlock_notices (j : Job) (h : s.desk.Law) : (countBlock j s).desk.Law := by simp [countBlock, h]

@[simp] theorem readDone_notices (j : Job) (out : ReadOutcome) (data : List Byte) (h : s.desk.Law) :
    (readDone j out data s).desk.Law := by
  unfold readDone
  dsimp only
  repeat' split
  all_goals simp [h]

@[simp] theorem readClosed_notices (j : Job) (seen : IdentitySeen) (off : Bool) (out : ReadOutcome) (data : List Byte)
    (h : s.desk.Law) : (readClosed j seen off out data s).desk.Law := by
  unfold readClosed
  dsimp only
  repeat' split
  all_goals simp [h]

@[simp] theorem writeClosed_notices (j : Job) (seen : IdentitySeen) (kept : Bool) (h : s.desk.Law) :
    (writeClosed j seen kept s).desk.Law := by
  unfold writeClosed
  repeat' split
  all_goals simp [h]

@[simp] theorem closeXfer_notices (x : Xfer) (close : Option Int) (out : ReadOutcome) (data : List Byte)
    (h : s.desk.Law) : (closeXfer x close out data s).desk.Law := by
  unfold closeXfer jobClose
  dsimp only
  repeat' split
  all_goals simp [h]

@[simp] theorem boundaryWedge_notices (wedge : Nat) (e : Int) (out : ReadOutcome) (data : List Byte)
    (h : s.desk.Law) : (boundaryWedge wedge e out data s).desk.Law := by
  unfold boundaryWedge
  dsimp only
  split <;> simp [h]

@[simp] theorem closingUnread_notices (data : List Byte) (h : s.desk.Law) : (closingUnread data s).desk.Law := by
  unfold closingUnread
  split <;> simp [h]

/-! ## Chains -/

@[simp] theorem runFree_notices (o : Order) (h : s.desk.Law) : (runFree o s).1.desk.Law := by
  unfold runFree
  split <;> simp [h]

/-- R101, R109: mechanism-free orders run until the chain ends or becomes PAUSED. -/
@[simp] theorem chainReach_notices (n i : Nat) (h : s.desk.Law) : (chainReach n i s).desk.Law := by
  induction n generalizing s with
  | zero => exact h
  | succ n ih =>
    unfold chainReach
    split
    · exact h
    · split
      · exact h
      · split
        next o _ _ =>
          have ho := runFree_notices o (offerProgress_notices i h)
          split <;> rename_i e <;> rw [e] at ho
          · split
            · exact ih (updChain_notices _ ho (fun _ => id) (fun _ => rfl) fun _ => id)
            · exact chainEnd_notices _ _ _ ho
          · exact chainEnd_notices _ _ _ ho
        · simp [h]

@[simp] theorem chainPass_notices (i : Nat) (h : s.desk.Law) : (chainPass i s).desk.Law := by simp [chainPass, h]

@[simp] theorem orderEject_notices (i tag : Nat) (h : s.desk.Law) : (orderEject i tag s).desk.Law := by
  have hm := rcvEject_desk s tag
  unfold orderEject
  dsimp only
  split <;> (rename_i e; rw [e] at hm; simp [hm, h])

@[simp] theorem orderSetPower_notices (p : PowerState) (h : s.desk.Law) : (orderSetPower p s).desk.Law := by
  have hm := pwrSetPower_notices (s := setPhase .power s) p (by simpa using h)
  unfold orderSetPower
  split <;> rename_i e <;> rw [e] at hm
  · simp [hm]
  · split <;> simp [hm]

@[simp] theorem orderStart_notices (i : Nat) (ready : Bool) (h : s.desk.Law) : (orderStart i ready s).desk.Law := by
  unfold orderStart
  split
  · exact h
  next c _ =>
    split
    · exact h
    next o _ =>
      extract_lets t u
      have hu : u.desk.Law := offerProgress_notices i (by simp [t, h])
      split <;> simp [hu]

@[simp] theorem orderChainEnd_notices (j : Job) (i : Nat) (c : Chain) (code : EndCode) (h : s.desk.Law) :
    (orderChainEnd j i c code s).desk.Law := by
  unfold orderChainEnd
  dsimp only
  split <;> simp [h]

@[simp] theorem orderEnded_notices (code : EndCode) (h : s.desk.Law) : (orderEnded code s).desk.Law := by
  unfold orderEnded
  split
  · exact h
  next j _ =>
    split
    · simp [h]
    next i _ =>
      extract_lets u
      have hu : u.desk.Law := by simp [u, h]
      repeat' split
      all_goals simp [hu]

@[simp] theorem cheAccept_notices (tag : Nat) (payload : List Byte) (h : s.desk.Law) :
    (cheAccept tag payload s).1.desk.Law := by
  unfold cheAccept
  dsimp only
  split <;> simp [h]

@[simp] theorem cheCancel_notices (tag : Nat) (h : s.desk.Law) : (cheCancel tag s).1.desk.Law := by
  unfold cheCancel cancelRunning
  dsimp only
  repeat' split
  all_goals simp [h]

@[simp] theorem cheData_notices (tag sequence : Nat) (data : List Byte) (h : s.desk.Law) :
    (cheData tag sequence data s).1.desk.Law := by
  unfold cheData
  dsimp only
  repeat' split
  all_goals simp [h]

@[simp] theorem powerFaultChain_notices (i : Nat) (h : s.desk.Law) : (powerFaultChain i s).desk.Law := by
  unfold powerFaultChain
  repeat' split
  all_goals simp [h]

@[simp] theorem cheSupplyFault_notices (h : s.desk.Law) : (cheSupplyFault s).desk.Law := by
  have ht := foldl_notices (f := fun t i => powerFaultChain i t) (fun _ _ => powerFaultChain_notices _)
    (slotsOldestFirst (·.state.inProgress) s) h
  unfold cheSupplyFault
  dsimp only
  split <;> simp [ht]

@[simp] theorem cheEjectStarted_notices (h : s.desk.Law) : (cheEjectStarted s).desk.Law :=
  foldl_notices (fun _ _ => chainEnd_notices _ _ _) _ h

@[simp] theorem ejectEnded_notices (i : Nat) (h : s.desk.Law) : (ejectEnded i s).desk.Law := by
  unfold ejectEnded
  repeat' split
  all_goals simp [h]

@[simp] theorem cheSequenceEnded_notices (h : s.desk.Law) : (cheSequenceEnded s).desk.Law :=
  foldl_notices (fun _ _ => ejectEnded_notices _) _ h

@[simp] theorem grant_notices (g : Grant) (h : s.desk.Law) : (grant g s).desk.Law := by
  unfold grant
  split <;> simp [h]

@[simp] theorem serveRead_notices (j : Job) (h : s.desk.Law) : (serveRead j s).desk.Law := by
  unfold serveRead
  split
  next c _ =>
    cases e : reserveRead c.tag c.sequence (dataReady j s) with
    | none => exact h
    | some t => simp [reserveRead_desk e, h]
  · exact h

/-! ## The link -/

/-- A desk with nothing on it is lawful. -/
theorem Desk.law_of_empty {d : Desk} (hq : d.ntu = Reset.ntu) (ht : d.table = List.replicate 6 none) : d.Law where
  places := by simp [hq, Reset.ntu]
  kinds := by simp [hq, Reset.ntu, Ntu.kinds]
  recorded := by simp [ht]
  none_waits := by simp [hq, ht, Reset.ntu]

/-- R190: a link reset clears the desk. -/
@[simp] theorem linkResetActs_notices (s : State) : (linkResetActs s).desk.Law :=
  Desk.law_of_empty rfl (congrArg Desk.table (jobLinkReset_desk _))

@[simp] theorem handFrame_notices (kind : Nat) (tag : Byte) (payload : List Byte) (h : s.desk.Law) :
    (handFrame kind tag payload s).1.desk.Law := by
  unfold handFrame
  split <;> simp [h]

@[simp] theorem takeFrame_notices (sum kind tag : Byte) (length : Nat) (payload : List Byte) (h : s.desk.Law) :
    (takeFrame sum kind tag length payload s).desk.Law := by
  obtain ⟨r, -, e⟩ | ⟨-, e⟩ := takeFrame_cases sum kind tag length payload s <;> rw [e] <;> simp [h]

@[simp] theorem lnkByte_notices (b : Byte) (h : s.desk.Law) : (lnkByte b s).desk.Law := by
  unfold lnkByte
  dsimp only
  repeat' split
  all_goals simp [h]

@[simp] theorem lnkBytes_notices (bytes : List Byte) (h : s.desk.Law) : (lnkBytes bytes s).desk.Law := by
  induction bytes generalizing s with
  | nil => exact h
  | cons b bs ih => exact ih (lnkByte_notices b h)

@[simp] theorem lnkReceive_notices (bytes : List Byte) (h : s.desk.Law) : (lnkReceive bytes s).desk.Law := by
  obtain ⟨e, -⟩ | ⟨e, -⟩ := lnkReceive_cases bytes s <;> rw [e] <;> simp [h]

theorem delivered_notices (o : Outbound) {act : State → State} (h : s.desk.Law)
    (ha : ∀ t : State, t.desk.Law → (act t).desk.Law) : (delivered o act s).desk.Law := by
  unfold delivered
  split
  · split
    · exact ha _ h
    · exact h
  · exact h

/-! ## Reactions -/

@[simp] theorem reactHead_notices (was now : HeadState) (h : s.desk.Law) : (reactHead was now s).desk.Law := by
  unfold reactHead
  dsimp only
  repeat' split
  all_goals simp [h]

@[simp] theorem reactSupplyFault_notices (h : s.desk.Law) : (reactSupplyFault s).desk.Law := by
  have ht := cheSupplyFault_notices (s := volAbandon .powerFault s) (by simpa using h)
  exact attend_notices _ (attend_notices _ (by simpa using ht))

theorem react_notices (m : Signal) (h : s.desk.Law) : (react m s).desk.Law := by
  cases m with
  | stopped dest | loaded dest | loadFailed dest => cases dest <;> simp [react, h]
  | seekAnswer dest x => cases dest <;> simp [react, h]
  | attention a =>
    simp only [react, reactAttention]
    split <;> simp [h]
  | _ => simp [react, h]

theorem fire_notices (r : Rule) (h : s.desk.Law) : (fire r s).desk.Law := by
  cases r <;> simp [fire, takeWaiting, h]

end operations

/-! ## Steps -/

section steps
variable {s t : State}

theorem settleOnce_notices (h : s.desk.Law) (hs : settleOnce s = some t) : t.desk.Law := by
  unfold settleOnce at hs
  split at hs
  · cases hs
    exact react_notices _ h
  · obtain ⟨r, -, rfl⟩ := Option.map_eq_some_iff.1 hs
    exact fire_notices r h

theorem conclude_notices (h : s.desk.Law) (ht : conclude s = .next t) : t.desk.Law := by
  obtain ⟨u, hu, -, e⟩ | e := conclude_cases s <;> rw [e] at ht <;> cases ht
  have := settle_keeps (P := fun s => s.desk.Law) (fun _ _ => settleOnce_notices) reactionBound s h
  exact beginFrame_notices (by simpa using hu ▸ this)

theorem run_notices {f : State → State} (h : (f s).desk.Law) (hs : s.desk.Law) (ht : run f s = .next t) :
    t.desk.Law := by
  unfold run at ht
  split at ht
  · cases ht
    exact hs
  · exact conclude_notices h ht

theorem runPins_notices {p : Pins → Pins} {f : State → State} (hf : ∀ u : State, u.desk.Law → (f u).desk.Law)
    (hs : s.desk.Law) (ht : runPins p f s = .next t) : t.desk.Law :=
  run_notices (s := s.updPins p) (hf _ hs) hs ht

theorem powerOnActs_notices (good : Bool) (s : State) : (powerOnActs good s).desk.Law := by
  have h : (State.powerOn good { s.pins with logicLow := false }).desk.Law := Desk.law_of_empty rfl rfl
  unfold powerOnActs
  split
  · exact h
  · exact attend_notices _ (s := { State.powerOn good _ with choice := _, pending := _ }) h

/-- Every command keeps the law: each is taken by one block, and the reactions follow. -/
theorem exec_notices {i : Instr} (h : s.desk.Law) (ht : exec i s = .next t) : t.desk.Law := by
  cases i with
  | presenceSwitchChange => exact runPins_notices (fun _ => rcvPresenceSwitch_notices _ _) h ht
  | buttonSwitchChange => exact runPins_notices (fun _ hu => by simpa using hu) h ht
  | powerOnReset good => exact conclude_notices (powerOnActs_notices good s) ht
  | chain | cancel | data | driveStatus | volumeStatus | defectList | chainStatus | settings | linkReset
  | unknownFrameKind | awaitLeadByteDiscarded | frameRefusedCheck | unknownQuerySubkind =>
    exact run_notices (lnkReceive_notices _ h) h ht
  | linkResetLineAsserted =>
    refine runPins_notices (fun u hu => ?_) h ht
    split
    · exact hu
    · exact linkResetActs_notices _
  | linkResetLineReleased | hostReadyAsserted | hostReadyDeasserted => exact runPins_notices (fun _ => id) h ht
  | replyDelivered => exact run_notices (delivered_notices _ h fun t ht => by simpa using ht) h ht
  | dataFrameDelivered => exact run_notices (delivered_notices _ h fun t ht => by simpa using ht) h ht
  | dataWantedDelivered => exact run_notices (delivered_notices _ h fun t ht => by simpa using ht) h ht
  | noticeDelivered => exact run_notices (delivered_notices _ h fun _ => noticeAcknowledged_notices) h ht
  | logicSupplyFall =>
    cases ht
    exact Desk.law_of_empty rfl rfl
  | _ => exact run_notices (by simp [h]) h ht

end steps

/-- Settles O8: a notice joins the queue only at a free place, and a place that becomes free is given to what waits at
once (`placeArbiter_notices`); a chain's end, an attention and a progress wait only where no place is free. -/
theorem noticeLawKept : Obligations.NoticeLawKept := by
  intro s t hs ht
  rw [noticeLaw_iff] at hs ⊢
  unfold step at ht
  split at ht
  next =>
    cases ht
    exact hs
  next rest _ => exact exec_notices (s := { s with pending := rest }) hs ht

end Sys2Proof.Machine
end

section
/-! PROOF. Chapter 6: the age of chains (O38), and what the arbiter leaves at rest (O3). -/

namespace Sys2Proof.Machine

/-! ## The age of chains (R102) -/

theorem olderNumber_iff {a b : Nat} (ha : a < 65536) (hb : b < 65536) :
    olderNumber a b = true ↔ 1 ≤ ((b : Int) - a) % 65536 ∧ ((b : Int) - a) % 65536 ≤ 32767 := by
  simp only [olderNumber, Bool.and_eq_true, decide_eq_true_eq]
  omega

/-- R102: of numbers given out within six of each other, the earlier is the older. -/
theorem olderNumber_window {n i j : Nat} (hi : i < 6) (hj : j < 6) :
    olderNumber ((n + i) % 65536) ((n + j) % 65536) = true ↔ i < j := by
  simp only [olderNumber, Bool.and_eq_true, decide_eq_true_eq]
  omega

/-- R102: the oldest of chains whose numbers were given out within six of each other is older than every other. -/
theorem oldest_is_older {n : Nat} {ps : List (Nat × Chain)}
    (hn : ∀ p ∈ ps, ∃ i, i < 6 ∧ p.2.number = (n + i) % 65536) {p : Nat × Chain} (hp : oldest ps = some p)
    {q : Nat × Chain} (hq : q ∈ ps) (hne : q.2.number ≠ p.2.number) :
    olderNumber p.2.number q.2.number = true := by
  induction ps generalizing p q with
  | nil => cases hq
  | cons r ps ih =>
    have hps : ∀ x ∈ ps, ∃ i, i < 6 ∧ x.2.number = (n + i) % 65536 := fun x hx => hn x (List.mem_cons_of_mem _ hx)
    obtain ⟨k, hk, ek⟩ := hn r List.mem_cons_self
    obtain ⟨j, hj, ej⟩ := hn q hq
    rw [oldest] at hp
    split at hp
    next hnone =>
      cases hp
      rw [oldest_eq_none.1 hnone, List.mem_singleton] at hq
      exact absurd (congrArg (·.2.number) hq) hne
    next o ho =>
      obtain ⟨i, hi, ei⟩ := hps o (oldest_mem ho)
      have holder (hx : q ∈ ps) (hxo : q.2.number ≠ o.2.number) : i < j := by
        have := ih hps ho hx hxo
        rwa [ei, ej, olderNumber_window hi hj] at this
      split at hp <;> cases hp
      next hor =>
        obtain rfl | hx := List.mem_cons.1 hq
        · exact hor
        · exact ih hps ho hx hne
      next hor =>
        obtain rfl | hx := List.mem_cons.1 hq
        · exact absurd rfl hne
        · rw [ei, ek, olderNumber_window hi hk] at hor
          rw [ek, ej, olderNumber_window hk hj]
          rw [ej, ek] at hne
          by_cases hxo : q.2.number = o.2.number
          · have : k ≠ j := by rintro rfl; exact hne rfl
            rw [ej, ei] at hxo
            omega
          · have := holder hx hxo
            omega

/-- Settles O38. -/
theorem olderChain : Obligations.OlderChain :=
  ⟨fun _ _ => olderNumber_iff, fun _ _ _ => olderNumber_window, fun _ _ hn =>
    ⟨oldest_eq_none, fun _ hp => ⟨oldest_mem hp, fun _ => oldest_is_older hn hp⟩⟩⟩

/-! ## The arbiter at rest (R101, R103, R104) -/

/-- R104: an order is of a kind that needs the mechanism, or of one that does not. -/
theorem order_eq_none {c : Chain} (hmech : c.order.any (fun o => !o.kind.mechanismFree) = false)
    (hfree : c.order.any (·.kind.mechanismFree) = false) : c.order = none := by
  cases h : c.order with
  | none => rfl
  | some o => simp_all

/-- Settles O3: every command ends at rest (O2), and at rest neither the arbiter nor the start of mechanism-free orders
finds anyone. -/
theorem arbiterLeavesNothingWaiting : Obligations.ArbiterLeavesNothingWaiting := by
  intro c s t h hlow hmech hpwr
  have hset : t.settled = true := (exec_ends h).resolve_left (by simp [hlow])
  obtain ⟨-, hfree, -, -, -, -, hgrant, -⟩ := (idleRule_none_iff t).1 (settled_idle hset)
  have hchoice := ((unloadOrGrant_none_iff t).1 hgrant).2
  rw [arbiterChoice, if_pos ⟨hmech, hpwr⟩] at hchoice
  split at hchoice
  · cases hchoice
  next hpass =>
    have hready := List.filter_eq_nil_iff.1 (oldest_eq_none.1 (Option.map_eq_none_iff.1 hchoice))
    refine ⟨fun hstage => ?_, fun p hp => ⟨fun he => hready p hp (by simp [chainReady, he]), fun hstage he => ?_⟩⟩
    · rw [if_pos hstage, presentedPass] at hpass
      split at hpass
      · cases hpass
      · split at hpass
        · cases hpass
        · exact ⟨‹_›, ‹_›⟩
    · rw [freeStarter, if_pos ⟨hstage, hpwr⟩, Option.map_eq_none_iff, oldest_eq_none] at hfree
      have hstart := List.filter_eq_nil_iff.1 hfree p hp
      exact order_eq_none (by simpa [chainReady, he, hstage] using hready p hp) (by simpa [he] using hstart)

end Sys2Proof.Machine
end

section
/-! PROOF. The order records of a CHAIN frame read back as they were written (O26). -/

namespace Sys2Proof.Machine

/-! ## One order record (12.2) -/

theorem orderBytes_length (o : Order) : (orderBytes o).length = 14 := by
  unfold orderBytes
  cases o.kind <;> rfl

section record
variable (o : Order)

theorem orderBytes_kind : OrderKind.ofCode (byteAt (orderBytes o) 0).toNat = some o.kind := by
  unfold orderBytes
  cases o.kind <;> rfl

/-- 12.2: the flags byte. -/
theorem orderBytes_flags : (byteAt (orderBytes o) 1).getLsbD 0 = o.flags.chain ∧
    (byteAt (orderBytes o) 1).getLsbD 1 = o.flags.link ∧ (byteAt (orderBytes o) 1).getLsbD 2 = o.flags.acceptShort ∧
    (byteAt (orderBytes o) 1).getLsbD 3 = o.flags.notify := by
  have hbits : ∀ a b c d : Bool,
      let byte := byteOf ((if a then 1 else 0) + (if b then 2 else 0) + (if c then 4 else 0) + (if d then 8 else 0))
      byte.getLsbD 0 = a ∧ byte.getLsbD 1 = b ∧ byte.getLsbD 2 = c ∧ byte.getLsbD 3 = d := by
    decide
  exact hbits o.flags.chain o.flags.link o.flags.acceptShort o.flags.notify

/-- 12.2: the presence byte of the optional generation and slip. -/
theorem orderBytes_presence : (byteAt (orderBytes o) 3).getLsbD 0 = o.generation.isSome ∧
    (byteAt (orderBytes o) 3).getLsbD 1 = o.slip.isSome := by
  have hbits : ∀ a b : Bool,
      let byte := byteOf ((if a then 1 else 0) + (if b then 2 else 0))
      byte.getLsbD 0 = a ∧ byte.getLsbD 1 = b := by
    decide
  exact hbits o.generation.isSome o.slip.isSome

/-- 12.2: what follows the numbers that every kind carries. -/
theorem orderBytes_parts : ∃ p rest, p.length = 4 ∧ orderBytes o =
      p ++ (be16 o.block ++ (be16 o.count ++ (be16 (o.generation.getD 0) ++ rest))) ∧
    (o.kind = .initializeVolume → rest = be32 o.serial) ∧
    (o.kind = .formatTrack → rest = be16 o.track ++ [byteOf (o.slip.getD 0), 0]) ∧
    (o.kind = .setPower → rest = byteOf ((o.power.map PowerState.toCode).getD 0) :: [0, 0, 0]) := by
  refine ⟨(orderBytes o).take 4, (orderBytes o).drop 10, by simp [orderBytes_length], ?_, ?_, ?_, ?_⟩
  · unfold orderBytes
    cases o.kind <;> rfl
  all_goals
    intro hk
    unfold orderBytes
    rw [hk]
    rfl

end record

section fits
variable {o : Order}

theorem byteOf_toNat {n : Nat} (h : n < 256) : (byteOf n).toNat = n := by
  simpa [byteOf] using h

theorem ofCode_toCode {x : PowerState} (h : x ≠ .faultHold) : PowerState.ofCode x.toCode = some x := by
  cases x with
  | faultHold => exact absurd rfl h
  | active | standby | sleep | dormant => rfl

theorem numberAt_be16 {p : List Byte} (q : List Byte) {i n : Nat} (hp : p.length = i) (hn : n < 65536) :
    numberAt (p ++ (be16 n ++ q)) i 2 = n :=
  (numberAt_append q hp rfl).trans (readNumber_be16 hn)

/-- 12.2: the numbers every kind carries. -/
theorem orderBytes_numbers (h : orderFits o) : (byteAt (orderBytes o) 2).toNat = o.volume ∧
    numberAt (orderBytes o) 4 2 = o.block ∧ numberAt (orderBytes o) 6 2 = o.count ∧
    (∀ g ∈ o.generation, numberAt (orderBytes o) 8 2 = g) := by
  obtain ⟨hvolume, hblock, hcount, hgeneration, -⟩ := h
  obtain ⟨p, rest, hp, e, -⟩ := orderBytes_parts o
  refine ⟨byteOf_toNat hvolume, ?_, ?_, fun g hg => ?_⟩
  · rw [e, numberAt_be16 _ hp hblock]
  · rw [e, ← List.append_assoc, numberAt_be16 _ (by simp [hp, be16]) hcount]
  · rw [e, show o.generation.getD 0 = g by rw [Option.mem_def.1 hg]; rfl, ← List.append_assoc, ← List.append_assoc,
      numberAt_be16 _ (by simp [hp, be16]) (hgeneration g hg)]

/-- 12.2: the numbers of one kind each. -/
theorem orderBytes_own (h : orderFits o) :
    (o.kind = .initializeVolume → numberAt (orderBytes o) 10 4 = o.serial) ∧
    (o.kind = .formatTrack → numberAt (orderBytes o) 10 2 = o.track ∧
      ∀ p ∈ o.slip, (byteAt (orderBytes o) 12).toNat = p) ∧
    (o.kind = .setPower → PowerState.ofCode (byteAt (orderBytes o) 10).toNat = o.power) := by
  obtain ⟨-, -, -, -, hserial, htrack, hslip, -, -, hpower, -⟩ := h
  obtain ⟨p, rest, hp, e, hi, hf, hs⟩ := orderBytes_parts o
  have hlen : (p ++ (be16 o.block ++ (be16 o.count ++ be16 (o.generation.getD 0)))).length = 10 := by simp [hp, be16]
  have hparts : orderBytes o = (p ++ (be16 o.block ++ (be16 o.count ++ be16 (o.generation.getD 0)))) ++ rest := by
    simpa using e
  refine ⟨fun hk => ?_, fun hk => ⟨?_, fun x hx => ?_⟩, fun hk => ?_⟩
  · have := numberAt_append (f := be32 o.serial) (n := 4) [] hlen rfl
    rw [List.append_nil, ← hi hk, ← hparts] at this
    rw [this, hi hk, readNumber_be32 hserial]
  · rw [hparts, hf hk, numberAt_be16 _ hlen htrack]
  · rw [hparts, hf hk, ← List.append_assoc, byteAt_append _ _ (by simp only [List.length_append, hlen]; rfl),
      show o.slip.getD 0 = x by rw [Option.mem_def.1 hx]; rfl, byteOf_toNat (hslip x hx)]
  · obtain ⟨hne, hnf⟩ := hpower hk
    obtain ⟨x, hx⟩ := Option.ne_none_iff_exists'.1 hne
    rw [hparts, hs hk, byteAt_append _ _ hlen, hx, Option.map_some, Option.getD_some,
      byteOf_toNat (by cases x <;> decide), ofCode_toCode fun hc => hnf (by rw [hx, hc])]

/-- 12.2, R98: an order record is read back as the order. -/
theorem readOrder_orderBytes (h : orderFits o) : readOrder (orderBytes o) = some o := by
  obtain ⟨hchain, hlink, hshort, hnotify⟩ := orderBytes_flags o
  obtain ⟨hgen, hslip⟩ := orderBytes_presence o
  obtain ⟨hvolume, hblock, hcount, hgeneration⟩ := orderBytes_numbers h
  obtain ⟨hinit, hformat, hpower⟩ := orderBytes_own h
  obtain ⟨-, -, -, -, -, -, -, hserial, hrest, -, hnone⟩ := h
  have egen : (if o.generation.isSome = true then some (numberAt (orderBytes o) 8 2) else none) = o.generation := by
    cases hg : o.generation with
    | none => rfl
    | some g => rw [hgeneration g hg]; rfl
  have eserial : (if o.kind = .initializeVolume then numberAt (orderBytes o) 10 4 else 0) = o.serial := by
    split
    next hk => exact hinit hk
    next hk => exact (hserial hk).symm
  have etrack : (if o.kind = .formatTrack then numberAt (orderBytes o) 10 2 else 0) = o.track := by
    split
    next hk => exact (hformat hk).1
    next hk => exact (hrest hk).1.symm
  have eslip : (if o.kind = .formatTrack ∧ o.slip.isSome = true then some (byteAt (orderBytes o) 12).toNat else none) =
      o.slip := by
    split
    next hk =>
      obtain ⟨p, hp⟩ := Option.isSome_iff_exists.1 hk.2
      rw [hp, (hformat hk.1).2 p hp]
    next hk =>
      by_cases hf : o.kind = .formatTrack
      · exact (Option.not_isSome_iff_eq_none.1 fun hs => hk ⟨hf, hs⟩).symm
      · exact (hrest hf).2.symm
  have epower : (if o.kind = .setPower then PowerState.ofCode (byteAt (orderBytes o) 10).toNat else none) =
      o.power := by
    split
    next hk => exact hpower hk
    next hk => exact (hnone hk).symm
  simp only [readOrder, orderBytes_kind, Option.map_some, hchain, hlink, hshort, hnotify, hgen, hslip, hvolume, hblock,
    hcount, egen, eserial, etrack, eslip, epower]

end fits

/-! ## The records of a payload -/

/-- The record at place `k` of a list of records of one length. -/
theorem drop_flatMap {α : Type} {f : α → List Byte} {m : Nat} (hf : ∀ x, (f x).length = m) {l : List α} {k : Nat}
    (hk : k < l.length) : ∃ rest, (l.flatMap f).drop (m * k) = f l[k] ++ rest := by
  induction l generalizing k with
  | nil => cases hk
  | cons a l ih =>
    cases k with
    | zero => exact ⟨l.flatMap f, rfl⟩
    | succ k =>
      obtain ⟨rest, e⟩ := ih (k := k) (by simpa using hk)
      refine ⟨rest, ?_⟩
      rw [List.flatMap_cons, Nat.mul_succ, Nat.add_comm, ← List.drop_drop, ← hf a, List.drop_left, hf a, e]
      rfl

/-- Settles O26. -/
theorem orderRecordsReadBack : Obligations.OrderRecordsReadBack := by
  intro orders hlen hfits
  have hcount : (byteAt (byteOf orders.length :: orders.flatMap orderBytes) 0).toNat = orders.length :=
    byteOf_toNat (by omega)
  refine List.ext_getElem (by simp [readOrders, hcount]) fun k hk hk' => ?_
  rw [List.length_map] at hk'
  obtain ⟨rest, e⟩ := drop_flatMap orderBytes_length hk'
  have hrecord : ((byteOf orders.length :: orders.flatMap orderBytes).drop (1 + 14 * k)).take 14 =
      orderBytes orders[k] := by
    rw [Nat.add_comm, List.drop_succ_cons, e, List.take_left' (orderBytes_length _)]
  simp only [readOrders, List.getElem_map, List.getElem_range, hrecord]
  exact readOrder_orderBytes (hfits _ (List.getElem_mem hk'))

end Sys2Proof.Machine
end

section
/-! PROOF. Frames of every length taken and refused by a listening part (R113, R133, R184 to R186, R191). -/

namespace Sys2Proof.Machine

/-! ## Assembly of a frame of any length (R184) -/

/-- R184: the payload of a frame, byte by byte; the bytes beyond 640 are counted and not kept. -/
theorem lnkBytes_counted (bytes rest : List Byte) {s : State} (hstage : s.lnk.stage = .payload) (hne : bytes ≠ [])
    (hlen : s.lnk.got + bytes.length = s.lnk.length) :
    lnkBytes (bytes ++ rest) s = lnkBytes rest { s with lnk := { s.lnk with
      stage := .check, sum := bytes.foldl (· + ·) s.lnk.sum, got := s.lnk.length,
      payload := s.lnk.payload ++ bytes.take (640 - s.lnk.got) } } := by
  induction bytes generalizing s with
  | nil => contradiction
  | cons b bs ih =>
    rw [List.length_cons] at hlen
    have hkept : (if s.lnk.got < 640 then s.lnk.payload ++ [b] else s.lnk.payload) ++ bs.take (640 - (s.lnk.got + 1)) =
        s.lnk.payload ++ (b :: bs).take (640 - s.lnk.got) := by
      by_cases hroom : s.lnk.got < 640
      · rw [if_pos hroom, show 640 - s.lnk.got = (640 - (s.lnk.got + 1)) + 1 by omega]
        simp
      · rw [if_neg hroom, show 640 - s.lnk.got = 0 by omega, show 640 - (s.lnk.got + 1) = 0 by omega]
        simp
    rw [List.cons_append, lnkBytes]
    by_cases hbs : bs = []
    · subst hbs
      have hall : s.lnk.got + 1 = s.lnk.length := by simpa using hlen
      rw [List.take_nil, List.append_nil] at hkept
      simp [lnkByte, hstage, State.updLnk, ← hkept, hall]
    · have hmore : ¬ s.lnk.length ≤ s.lnk.got + 1 := by
        have := List.length_pos_iff.2 hbs
        omega
      have hbyte : lnkByte b s = { s with lnk := { s.lnk with
          sum := s.lnk.sum + b, got := s.lnk.got + 1,
          payload := if s.lnk.got < 640 then s.lnk.payload ++ [b] else s.lnk.payload } } := by
        simp [lnkByte, hstage, State.updLnk, hmore]
      rw [hbyte, ih (by exact hstage) hbs (by simp; omega)]
      simp only [List.foldl_cons, hkept]

/-- R184: a frame of any length is taken whole, with its sum and the first 640 bytes of its payload. -/
theorem lnkBytes_rawFrame {s : State} (hstage : s.lnk.stage = .awaitLead) (kind tag check : Byte)
    {payload : List Byte} (hlen : payload.length ≤ 65535) : lnkBytes (rawFrame kind tag payload check) s =
      takeFrame (frameSum kind tag payload check) kind tag payload.length (payload.take 640)
        (s.updLnk Lnk.clear) := by
  have hnumber : 256 * (payload.length / 256 % 256) + payload.length % 256 = payload.length := by omega
  by_cases hne : payload = []
  · subst hne
    simp [rawFrame, be16, lnkBytes, lnkByte, hstage, State.updLnk, Lnk.clear, frameSum]
  · have hheader : lnkBytes (rawFrame kind tag payload check) s =
        lnkBytes (payload ++ [check]) { s with lnk := { s.lnk with
          stage := .payload,
          sum := 0xC3#8 + kind + tag + BitVec.ofNat 8 (payload.length / 256) + BitVec.ofNat 8 payload.length,
          kind := kind, tag := tag, length := payload.length, got := 0, payload := [] } } := by
      simp [rawFrame, be16, lnkBytes, lnkByte, hstage, State.updLnk, Lnk.clear, hnumber, hne]
    rw [hheader, lnkBytes_counted payload _ rfl hne (by simp)]
    simp [lnkBytes, lnkByte, State.updLnk, Lnk.clear, frameSum]

/-- R184, R189: a listening part takes a frame in its own step. -/
theorem lnkReceive_rawFrame {s : State} (h : s.Listening) (kind tag check : Byte) {payload : List Byte}
    (hlen : payload.length ≤ 65535) : lnkReceive (rawFrame kind tag payload check) s =
      takeFrame (frameSum kind tag payload check) kind tag payload.length (payload.take 640)
        (s.updLnk Lnk.clear) := by
  have hlead : lnkReceive (rawFrame kind tag payload check) s = lnkBytes (rawFrame kind tag payload check) s := by
    simp [lnkReceive, rawFrame, h.none_waiting, leadWithheld, h.lane, h.room]
  rw [hlead, lnkBytes_rawFrame h.between kind tag check hlen]

/-- 11.2: a frame that is sent carries the check that makes its sum 0. -/
theorem frameBytes_eq (kind tag : Byte) (payload : List Byte) :
    ∃ c, frameBytes kind tag payload = rawFrame kind tag payload c ∧ frameSum kind tag payload c = 0 :=
  ⟨_, rfl, by simp [frameSum, be16]⟩

/-- R184 to R186: a frame sent to a listening part, whatever its length. -/
theorem lnkReceive_sent {s : State} (h : s.Listening) (kind tag : Byte) {payload : List Byte}
    (hlen : payload.length ≤ 65535) : lnkReceive (frameBytes kind tag payload) s =
      takeFrame 0 kind tag payload.length (payload.take 640) (s.updLnk Lnk.clear) := by
  obtain ⟨c, hbytes, hsum⟩ := frameBytes_eq kind tag payload
  rw [hbytes, lnkReceive_rawFrame h kind tag c hlen, hsum]

/-! ## Frames refused (R113, R133, R185, R186) -/

/-- R185: a frame refused at its check byte adds its reply and nothing else. -/
theorem run_refused {s : State} (h : s.Listening) (kind tag check : Byte) {payload : List Byte}
    (hlen : payload.length ≤ 65535) {r : Reason}
    (hr : frameRefusal (frameSum kind tag payload check) kind payload.length (payload.take 640) = some r) :
    run (lnkReceive (rawFrame kind tag payload check)) s =
      .next (State.replied { kind := kind, tag := tag, reason := some r, body := [] } s) := by
  rw [run_of_powered h.powered, lnkReceive_rawFrame h kind tag check hlen, takeFrame, hr]
  exact conclude_replied h _

/-- R185: the same of a frame that is sent with its own check. -/
theorem run_sent_refused {s : State} (h : s.Listening) (kind tag : Byte) {payload : List Byte}
    (hlen : payload.length ≤ 65535) {r : Reason}
    (hr : frameRefusal 0 kind payload.length (payload.take 640) = some r) :
    run (lnkReceive (frameBytes kind tag payload)) s =
      .next (State.replied { kind := kind, tag := tag, reason := some r, body := [] } s) := by
  obtain ⟨c, hbytes, hsum⟩ := frameBytes_eq kind tag payload
  rw [hbytes]
  exact run_refused h kind tag c hlen (by rw [hsum]; exact hr)

/-- R186: a frame that passes R185 is handed to its owner, and its reply joins the list. -/
theorem run_handed {s : State} (h : s.Listening) (kind tag : Byte) {payload : List Byte} {t : State} {a : Answer}
    (hpass : frameRefusal 0 kind payload.length payload = none)
    (hhanded : handFrame kind.toNat tag payload (s.updLnk Lnk.clear) = (t, a)) :
    run (lnkReceive (frameBytes kind tag payload)) s = conclude (addReply (replyOf kind tag a) t) := by
  have hlen : payload.length ≤ 640 := by
    by_contra hlong
    unfold frameRefusal at hpass
    split_ifs at hpass with _ _ hrefused
    exact hrefused (.inl (by omega))
  rw [run_of_powered h.powered, lnkReceive_sent h kind tag (by omega), List.take_of_length_le hlen, takeFrame, hpass]
  simp only [hhanded]

/-- R186: a frame that passes R185, and that its owner refuses, adds its reply and nothing else. -/
theorem run_owner_refuses {s : State} (h : s.Listening) (kind tag : Byte) {payload : List Byte} {r : Reason}
    (hpass : frameRefusal 0 kind payload.length payload = none)
    (hanswer : handFrame kind.toNat tag payload (s.updLnk Lnk.clear) = (s.updLnk Lnk.clear, .error r)) :
    run (lnkReceive (frameBytes kind tag payload)) s =
      .next (State.replied { kind := kind, tag := tag, reason := some r, body := [] } s) :=
  (run_handed h kind tag hpass hanswer).trans (conclude_replied h _)

/-- R185: what passes at the check byte. -/
theorem frameRefusal_none {kind : Byte} {payload : List Byte} (hkind : inboundKind kind = true)
    (hlen : payload.length ≤ 640) (hadmitted : lengthAdmitted kind.toNat payload.length payload = true) :
    frameRefusal 0 kind payload.length payload = none := by
  simp [frameRefusal, hkind, hadmitted, Nat.not_lt.2 hlen]

theorem byteAt_take {n k : Nat} (h : k < n) (payload : List Byte) : byteAt (payload.take n) k = byteAt payload k := by
  simp [byteAt, List.getD_eq_getElem?_getD, h]

/-- R185: a CHAIN frame whose length does not agree with its count is refused LENGTH. -/
theorem frameRefusal_chain {payload : List Byte} (h : payload.length ≠ 1 + 14 * (byteAt payload 0).toNat) :
    frameRefusal 0 0x01#8 payload.length (payload.take 640) = some .length := by
  simp [frameRefusal, inboundKind, lengthAdmitted, byteAt_take, h]

/-- R185: a CHAIN frame of the length its count calls for passes. -/
theorem lengthAdmitted_chain {payload : List Byte} (h : payload.length = 1 + 14 * (byteAt payload 0).toNat) :
    lengthAdmitted 1 payload.length payload = true := by
  simp only [lengthAdmitted, Bool.and_eq_true, decide_eq_true_eq]
  omega

/-- Settles O40: LNK's own refusals by `run_refused`, an owner's by `run_owner_refuses`. -/
theorem refusedFrames : Obligations.RefusedFrames := by
  intro s tag payload h
  refine ⟨fun hlen hmax r hr => ?chain, fun hlen hmax => run_sent_refused h _ tag hmax (frameRefusal_chain hlen),
    fun hnone => ?unknownTag, fun i hi c hc hended => ?tooLate, fun hmin hmax hnone => ?data,
    fun kind hkind hmax => run_sent_refused h kind tag hmax (by simp [frameRefusal, hkind]),
    fun kind check hsum hmax => run_refused h kind tag check hmax (if_pos hsum),
    fun hlen hsub => ?query⟩
  case chain =>
    refine run_owner_refuses h 0x01#8 tag (frameRefusal_none rfl hmax (lengthAdmitted_chain hlen)) ?_
    have hr' : acceptanceRefusal tag.toNat (readOrders payload) (s.updLnk Lnk.clear) = some r := hr
    simp [handFrame, cheAccept, hr', plainAnswer]
  case unknownTag =>
    refine run_owner_refuses h 0x03#8 tag (frameRefusal_none rfl (Nat.zero_le _) rfl) ?_
    have hnone' : (s.updLnk Lnk.clear).findTag tag.toNat = none := hnone
    simp [handFrame, cheCancel, hnone', plainAnswer]
  case tooLate =>
    refine run_owner_refuses h 0x03#8 tag (frameRefusal_none rfl (Nat.zero_le _) rfl) ?_
    have hi' : (s.updLnk Lnk.clear).findTag tag.toNat = some i := hi
    have hc' : (s.updLnk Lnk.clear).chainAt i = some c := hc
    simp [handFrame, cheCancel, hi', hc', hended, plainAnswer]
  case data =>
    refine run_owner_refuses h 0x02#8 tag (frameRefusal_none rfl (by omega) (by simp [lengthAdmitted]; omega)) ?_
    have hunwanted : cheData tag.toNat (numberAt payload 0 2) (payload.drop 2) (s.updLnk Lnk.clear) =
        (s.updLnk Lnk.clear, some .unwanted) := if_neg (by rw [Bool.not_eq_true]; exact hnone)
    simp [handFrame, hunwanted, plainAnswer]
  case query =>
    refine run_owner_refuses h 0x04#8 tag (frameRefusal_none rfl (by omega) (decide_eq_true hlen)) ?_
    have hanswer : queryAnswer tag.toNat payload (s.updLnk Lnk.clear) = .error .kind := by
      unfold queryAnswer
      split
      case h_5 => rfl
      all_goals omega
    simp [handFrame, hanswer]

end Sys2Proof.Machine
end

section
/-! PROOF. A part at rest whose table, buffer and notices change stays at rest, where the change wakes no rule;
a chain accepted beside others, and a chain cancelled (R101, R112, R113). -/

namespace Sys2Proof.Machine

/-! ## What a change of the order table wakes -/

/-- A chain of the same state, order, tag and run. -/
def Chain.Alike (c d : Chain) : Prop :=
  c.state = d.state ∧ c.order = d.order ∧ c.tag = d.tag ∧ c.sequence = d.sequence ∧ c.run = d.run

theorem Chain.Alike.refl (c : Chain) : c.Alike c := ⟨rfl, rfl, rfl, rfl, rfl⟩

/-- A QUEUED chain in slot `n` that must wait: its order needs the mechanism, which may not be granted to it. -/
def State.Waits (s : State) (n : Nat) (d : Chain) : Prop :=
  d.state = .queued ∧ d.order.any (·.kind.mechanismFree) = false ∧
    (s.che.mech ≠ .free ∨ s.rcv.stage ≠ .none ∨ s.pwr.state = .faultHold) ∧ ∀ j ∈ s.che.job, j.chain ≠ some n

/-- Beside the table and the buffer, `u` keeps what the resting rules read of `s`, and no bytes wait. -/
structure State.KeepsHands (s u : State) : Prop where
  inbox : u.inbox = s.inbox
  mech : u.che.mech = s.che.mech
  job : u.che.job = s.che.job
  pass : u.pass = s.pass
  pass0 : u.vol0.pass = s.vol0.pass
  pass1 : u.vol1.pass = s.vol1.pass
  stage : u.rcv.stage = s.rcv.stage
  pause : u.rcv.pause = s.rcv.pause
  report : u.rcv.firstReport = s.rcv.firstReport
  power : u.pwr.state = s.pwr.state
  due : unloadDue u = unloadDue s
  waiting : u.lnk.waiting = []

/-- The table's slots, the buffer, the notices, the lane and the counts are none of it. -/
theorem keepsHands_of_waiting {s : State} {table : List (Option Chain)} {counter holds idle standby sleep dormant : Nat}
    {b : Bbf} {n : Ntu} {l : Lnk} {p : Pins} {eject : Option Nat} (h : l.waiting = []) : s.KeepsHands { s with
      che := { s.che with table := table, counter := counter }, bbf := b, ntu := n, lnk := l, pins := p,
      rcv := { s.rcv with holds := holds, heldEject := eject },
      pwr := { s.pwr with idle := idle, standby := standby, sleep := sleep, dormant := dormant } } :=
  ⟨rfl, rfl, rfl, rfl, rfl, rfl, rfl, rfl, rfl, rfl, rfl, h⟩

/-- Each chain of `u` stood in `s` as well, or waits; and where an eject waits for those at work, none is gone. -/
structure State.KeepsChains (s u : State) : Prop where
  known : ∀ n d, u.chainAt n = some d → (∃ c, s.chainAt n = some c ∧ c.Alike d) ∨ s.Waits n d
  working : s.rcv.stage = .draining → ∀ n c, s.chainAt n = some c → c.state.inProgress = true →
    ∃ d, u.chainAt n = some d ∧ d.state.inProgress = true

theorem drained_iff (s : State) : drained s = true ↔ s.rcv.stage = .draining ∧ s.rcv.pause = false ∧ s.pass = none ∧
    ∀ n c, s.chainAt n = some c → c.state.inProgress = false := by
  simp [drained, mem_chains, and_assoc]

theorem freeStarter_none_iff (s : State) : freeStarter s = none ↔ (s.rcv.stage = .none → s.pwr.state ≠ .faultHold →
    ∀ n c, s.chainAt n = some c → c.state = .queued → c.order.any (·.kind.mechanismFree) = false) := by
  unfold freeStarter
  split
  next h =>
    simp only [h, Option.map_eq_none_iff, oldest_eq_none, chains_filter_eq_nil]
    simp [h]
  next h =>
    simp only [true_iff]
    exact fun hstage hpower => absurd ⟨hstage, hpower⟩ h

theorem arbiterChoice_none_iff (s : State) : arbiterChoice s = none ↔ (s.che.mech = .free →
    s.pwr.state ≠ .faultHold → (s.rcv.stage = .none → presentedPass s = none) ∧
      ∀ n c, s.chainAt n = some c → chainReady s c = false) := by
  unfold arbiterChoice
  split
  next h =>
    simp only [h]
    by_cases hstage : s.rcv.stage = .none
    · cases hp : presentedPass s with
      | none => simp [hstage, oldest_eq_none, mem_chains, h.2]
      | some v => simp [hstage, h.2]
    · simp [hstage, oldest_eq_none, mem_chains, h.2]
  next h =>
    simp only [true_iff]
    exact fun hmech hpower => absurd ⟨hmech, hpower⟩ h

theorem chainReady_alike {s u : State} (hstage : u.rcv.stage = s.rcv.stage) {c d : Chain} (h : c.Alike d) :
    chainReady u d = chainReady s c := by
  obtain ⟨hstate, horder, -⟩ := h
  simp [chainReady, hstage, hstate, horder]

/-- A part at rest stays so where the change of its table and buffer wakes nothing. -/
theorem rests_of_chains {s u : State} (hs : s.settled = true) (hands : s.KeepsHands u) (hchains : s.KeepsChains u)
    (hslots : s.che.job = none ∨ u.bbf.slots = s.bbf.slots) : settleOnce u = none := by
  obtain ⟨hdrained, hfree, heject, hlends, hread, hwrite, hgrant, -⟩ := (idleRule_none_iff s).1 (settled_idle hs)
  obtain ⟨hunload, hchoice⟩ := (unloadOrGrant_none_iff s).1 hgrant
  have hvol : ∀ v, (u.vol v).pass = (s.vol v).pass := fun v => by cases v <;> simp [State.vol, hands.pass0, hands.pass1]
  refine (settleOnce_none_iff u).2 ⟨hands.inbox.trans (settled_inbox hs), (idleRule_none_iff u).2
    ⟨?drained, ?free, ?eject, ?lends, ?read, ?write, (unloadOrGrant_none_iff u).2 ⟨?unload, ?choice⟩, ?waiting⟩⟩
  case drained =>
    rw [← Bool.not_eq_true, drained_iff, hands.stage, hands.pause, hands.pass]
    rintro ⟨hstage, hpause, hpass, hidle⟩
    rw [← Bool.not_eq_true, drained_iff] at hdrained
    refine hdrained ⟨hstage, hpause, hpass, fun n c hc => ?_⟩
    by_contra hworks
    obtain ⟨d, hd, hprogress⟩ := hchains.working hstage n c hc (by simpa using hworks)
    simp [hidle n d hd] at hprogress
  case free =>
    rw [freeStarter_none_iff, hands.stage, hands.power]
    intro hstage hpower n d hd hqueued
    obtain ⟨c, hc, hstate, horder, -⟩ | hwaits := hchains.known n d hd
    · rw [← horder]
      exact (freeStarter_none_iff s).1 hfree hstage hpower n c hc (hstate.trans hqueued)
    · exact hwaits.2.1
  case eject =>
    rw [← heject]
    simp only [heldEjectDue, hands.job, hands.report]
  case lends =>
    rw [← hlends]
    simp only [lendsTo, hands.job, hvol]
  case read =>
    rw [← hread]
    obtain hjob | hslots := hslots
    · simp [readWaits, hands.job, hjob]
    · simp only [readWaits, hands.job, hasFreeSlot, hslots]
      rfl
  case write =>
    obtain hjob | hslots := hslots
    · simp [writeNeeds, hands.job, hjob]
    · cases hj : s.che.job with
      | none => simp [writeNeeds, hands.job, hj]
      | some j =>
        cases hd : jobChain j u with
        | none => simp [writeNeeds, hands.job, hj, hd]
        | some d =>
          obtain ⟨n, hn, hd'⟩ := Option.bind_eq_some_iff.1 hd
          obtain ⟨c, hc, -, -, htag, hsequence, hrun⟩ | hwaits := hchains.known n d hd'
          · have hc' : jobChain j s = some c := by rw [jobChain, hn]; exact hc
            have hsame : neededSequences d u = neededSequences c s := by
              simp only [neededSequences, hslots, htag, hsequence, hrun]
            simp only [writeNeeds, hj, hc', hasFreeSlot] at hwrite
            simp only [writeNeeds, hands.job, hj, hd, hasFreeSlot, hslots, hsame]
            split_ifs at hwrite ⊢ <;> rfl
          · exact absurd hn (hwaits.2.2.2 j hj)
  case unload =>
    rw [hands.due, unloadAllowed, hands.mech, hands.job]
    exact hunload
  case choice =>
    rw [arbiterChoice_none_iff, hands.mech, hands.power]
    intro hmech hpower
    obtain ⟨hpass, hready⟩ := (arbiterChoice_none_iff s).1 hchoice hmech hpower
    refine ⟨fun hstage => ?_, fun n d hd => ?_⟩
    · rw [← hpass (hands.stage ▸ hstage), presentedPass, hands.pass0, hands.pass1]
      rfl
    · obtain ⟨c, hc, hcd⟩ | ⟨hqueued, -, hshut, -⟩ := hchains.known n d hd
      · rw [chainReady_alike hands.stage hcd]
        exact hready n c hc
      · have hstage : u.rcv.stage ≠ .none := by
          rw [hands.stage]
          simpa [hmech, hpower] using hshut
        simp [chainReady, hqueued, hstage]
  case waiting => simp [waitingFrame, hands.waiting]

/-- R156: the lamp stays right where the spindle and the receiver, but for its holds, are as they were. -/
theorem lit_of_settled {s u : State} (hs : s.settled = true) {holds : Nat} {ejects : Option Nat}
    (hrcv : u.rcv = { s.rcv with holds := holds, heldEject := ejects }) (hspc : u.spc = s.spc) :
    u.rcv.lamp = lampOf u := by
  have hlit := settled_lamp hs
  simp only [lampOf, hrcv, hspc] at hlit ⊢
  exact hlit

/-! ## A chain accepted beside others (R101) -/

/-- The chain a CHAIN frame adds to the table. -/
def State.newChain (s : State) (tag : Byte) (payload : List Byte) : Chain :=
  { tag := tag.toNat, number := s.che.counter, orders := (readOrders payload).filterMap id, index := 0,
    state := .queued, transferred := 0, sequence := 0, flags := Flags.empty, cancel := false,
    progress := none, fault := none, completion := none }

theorem newChain_order {s : State} {tag : Byte} {payload : List Byte} {o : Order}
    (h : (readOrders payload)[0]? = some (some o)) : (s.newChain tag payload).order = some o := by
  obtain ⟨l, hl⟩ : ∃ l, readOrders payload = some o :: l := by
    cases hp : readOrders payload with
    | nil => simp [hp] at h
    | cons x l => exact ⟨l, by rw [hp] at h; simpa using h⟩
  simp [Chain.order, State.newChain, hl]

theorem chainAt_of_free {s : State} {i : Nat} (h : s.che.table.findIdx? (·.isNone) = some i) :
    i < s.che.table.length ∧ s.chainAt i = none := by
  obtain ⟨hi, hnone, -⟩ := List.findIdx?_eq_some_iff_getElem.1 h
  refine ⟨hi, ?_⟩
  rw [State.chainAt, List.getD_eq_getElem?_getD, List.getElem?_eq_getElem hi]
  simpa using hnone

theorem handFrame_accepted {s : State} {tag : Byte} {payload : List Byte} {i : Nat}
    (h : acceptanceRefusal tag.toNat (readOrders payload) s = none)
    (hi : s.che.table.findIdx? (·.isNone) = some i) : handFrame 1 tag payload s =
      ({ s with
        che := { s.che with table := s.che.table.set i (some (s.newChain tag payload)),
                            counter := (s.che.counter + 1) % 65536 },
        pwr := { s.pwr with idle := 0 } }, .ok []) := by
  simp [handFrame, cheAccept, h, acceptChain, hi, plainAnswer, pwrIdleReset, State.setSlot, State.updChe,
    State.updPwr, State.newChain]

/-- Settles O39: the chain taken is one that waits (`State.Waits`), so the part is at rest with it. -/
theorem chainAccepted : Obligations.ChainAccepted := by
  intro s tag payload o i h hlen hmax haccepted horder hmechanical hshut hjob hi
  obtain ⟨hlt, hempty⟩ := chainAt_of_free hi
  refine (run_handed h 0x01#8 tag (frameRefusal_none rfl hmax (lengthAdmitted_chain hlen))
    (handFrame_accepted (s := s.updLnk Lnk.clear) haccepted hi)).trans (conclude_of_rest ?_)
  refine rests_of_chains h.settled
    (keepsHands_of_waiting h.none_waiting)
    ⟨fun n d hd => ?_, fun _ n c hc hworks => ?_⟩ (.inr rfl)
  · rw [chainAt_set (s := s) rfl hlt] at hd
    split_ifs at hd with hn
    · have hd' : d = s.newChain tag payload := (Option.some.inj hd).symm
      subst hn
      refine .inr ⟨by rw [hd']; rfl, by rw [hd', newChain_order horder]; simp [hmechanical], hshut, fun j hj hk => ?_⟩
      simpa [hempty] using hjob j hj n hk
    · exact .inl ⟨d, hd, .refl d⟩
  · refine ⟨c, ?_, hworks⟩
    rw [chainAt_set (s := s) rfl hlt, if_neg (by rintro rfl; simp [hempty] at hc), hc]

end Sys2Proof.Machine
end

section
/-! PROOF. A chain cancelled (R112, R113). -/

namespace Sys2Proof.Machine

/-! ## Cancel (R113) -/

/-- The part once the chain in slot `i` has ended with `b`, a notice having had a place (R110 to R112). -/
def State.chainGone (s : State) (i : Nat) (b : Completion) : State :=
  { s with
    che := { s.che with table := s.che.table.set i none },
    bbf := { s.bbf with
      slots := s.bbf.slots.map fun x => if x.heldFor b.tag then .free else x,
      wants := s.bbf.wants.filter fun w => w.tag != b.tag,
      records := s.bbf.records.filter fun w => w.tag != b.tag },
    ntu := s.ntu.join (.completion b), pwr := { s.pwr with idle := 0 } }

/-- The part once a chain that has not begun has been cancelled, and the cancel answered. -/
def State.cancelled (s : State) (tag : Byte) (i : Nat) (c : Chain) : State :=
  addReply (replyOf 0x03#8 tag (.ok [])) ((s.updLnk Lnk.clear).chainGone i (c.complete .cancelled c.fault))

/-- R112: a table that loses one chain, not at work, keeps the others. -/
theorem keepsChains_of_cleared {s u : State} {i : Nat} {c : Chain} (hc : s.chainAt i = some c)
    (hidle : c.state.inProgress = false) (hu : u.che.table = s.che.table.set i none) : s.KeepsChains u := by
  refine ⟨fun n d hd => .inl ⟨d, ?_, .refl d⟩, fun _ n d hd hworks => ⟨d, ?_, hworks⟩⟩
  · rw [chainAt_set hu (chainAt_lt hc)] at hd
    split_ifs at hd
    exact hd
  · rw [chainAt_set hu (chainAt_lt hc), if_neg, hd]
    rintro rfl
    rw [hc, Option.some.injEq] at hd
    subst hd
    simp [hidle] at hworks

/-- A table in which one chain's record changes in what no resting rule reads, keeps all. -/
theorem keepsChains_of_alike {s u : State} {i : Nat} {c d : Chain} (hc : s.chainAt i = some c) (hcd : c.Alike d)
    (hu : u.che.table = s.che.table.set i (some d)) : s.KeepsChains u := by
  refine ⟨fun n e he => .inl ?_, fun _ n e he hworks => ?_⟩
  · rw [chainAt_set hu (chainAt_lt hc)] at he
    split_ifs at he with hn
    · rw [Option.some.injEq] at he
      subst hn he
      exact ⟨c, hc, hcd⟩
    · exact ⟨e, he, .refl e⟩
  · by_cases hn : n = i
    · rw [hn, hc, Option.some.injEq] at he
      subst he
      exact ⟨d, by rw [hn, chainAt_set hu (chainAt_lt hc), if_pos rfl], hcd.1 ▸ hworks⟩
    · exact ⟨e, by rw [chainAt_set hu (chainAt_lt hc), if_neg hn, he], hworks⟩

theorem handFrame_cancelQueued {s : State} {tag : Byte} {i : Nat} {c : Chain} (hi : s.findTag tag.toNat = some i)
    (hc : s.chainAt i = some c) (hqueued : c.state = .queued) (hplace : s.ntu.queue.length < 8) :
    handFrame 3 tag [] s = (s.chainGone i (c.complete .cancelled c.fault), .ok []) := by
  simp only [handFrame, cheCancel, hi, hc, hqueued, chainEnd_eq hc hplace]
  rfl

theorem handFrame_cancelAtWork {s : State} {tag : Byte} {i : Nat} {c : Chain} (hi : s.findTag tag.toNat = some i)
    (hc : s.chainAt i = some c) (hstate : c.state = .active ∨ c.state = .dataWait)
    (hjob : ∀ j ∈ s.che.job, j.stopsAtOnce = false) : handFrame 3 tag [] s =
      ({ s with che := { s.che with table := s.che.table.set i (some { c with cancel := true }) } }, .ok []) := by
  have hmarked : cancelRunning i c s =
      { s with che := { s.che with table := s.che.table.set i (some { c with cancel := true }) } } := by
    have hpaused : c.state ≠ .paused := by rintro h; simp [h] at hstate
    simp only [cancelRunning, if_neg hpaused, updChain_eq hc]
    cases hj : s.che.job with
    | none => rfl
    | some j => simp [hjob j hj]
  obtain hstate | hstate := hstate <;> simp [handFrame, cheCancel, hi, hc, hstate, hmarked, plainAnswer]

/-- Settles O43: a QUEUED chain leaves the table, and a mark is all a chain at work takes; neither wakes a rule. -/
theorem cancelTaken : Obligations.CancelTaken := by
  intro s tag i c h hi hc
  have hpass : frameRefusal 0 0x03#8 ([] : List Byte).length [] = none := frameRefusal_none rfl (Nat.zero_le _) rfl
  refine ⟨fun hqueued hjob hplace => ?queued, fun hstate hjob => ?atWork⟩
  case queued =>
    have hrest : settleOnce (s.cancelled tag i c) = none := rests_of_chains h.settled
      (keepsHands_of_waiting h.none_waiting)
      (keepsChains_of_cleared hc (by rw [hqueued]; rfl) rfl) (.inl hjob)
    obtain ⟨hframe, -, hqueue⟩ := rest_frame (s := s.cancelled tag i c) (lit_of_settled h.settled rfl rfl)
    refine ⟨(s.cancelled tag i c).rest, ?_, ?_, ?_, ?_⟩
    · exact (run_handed h 0x03#8 tag hpass
        (handFrame_cancelQueued (s := s.updLnk Lnk.clear) hi hc hqueued hplace)).trans (conclude_of_rest hrest)
    · rw [hframe]
      rfl
    · rw [hframe]
      rfl
    · rw [hqueue]
      simp [State.cancelled, addReply, State.updLnk, State.chainGone, Ntu.join, Chain.complete]
  case atWork =>
    refine (run_handed h 0x03#8 tag hpass (handFrame_cancelAtWork (s := s.updLnk Lnk.clear) hi hc hstate ?_)).trans
      (conclude_of_rest ?_)
    · intro j hj
      obtain ⟨-, hphase | hphase⟩ := hjob j hj <;> simp [Job.stopsAtOnce, hphase]
    · exact rests_of_chains h.settled (keepsHands_of_waiting h.none_waiting)
        (keepsChains_of_alike (d := { c with cancel := true }) hc (.refl _) rfl) (.inr rfl)

end Sys2Proof.Machine
end

section
/-! PROOF. A chain of one HOLD MEDIUM or RELEASE MEDIUM (R101, R110 to R112, R114, R143). -/

namespace Sys2Proof.Machine

/-! ## An order that needs no mechanism (R114, R143) -/

/-- R114, R143: the code such an order ends with, and the hold count it leaves. -/
def State.FreeOutcome (s : State) (o : Order) (code : EndCode) (holds : Nat) : Prop :=
  o.kind = .releaseMedium ∧ code = .clean ∧ holds = s.rcv.holds - 1 ∨
    o.kind = .holdMedium ∧
      (s.vol1.state = .empty ∧ code = .noMedium ∧ holds = s.rcv.holds ∨
        s.vol1.state = .leaving ∧ code = .mediumLeaving ∧ holds = s.rcv.holds ∨
        s.vol1.state ≠ .empty ∧ s.vol1.state ≠ .leaving ∧
          (15 ≤ s.rcv.holds ∧ code = .holdLimit ∧ holds = s.rcv.holds ∨
            s.rcv.holds < 15 ∧ code = .clean ∧ holds = s.rcv.holds + 1))

theorem rcvHold_of_medium {s : State} (hempty : s.vol1.state ≠ .empty) (hleaving : s.vol1.state ≠ .leaving) :
    rcvHold s = if s.rcv.holds ≥ 15 then (s, .holdLimit)
      else (s.updRcv fun r => { r with holds := r.holds + 1 }, .clean) := by
  unfold rcvHold
  split <;> simp_all

theorem State.FreeOutcome.mechanismFree {s : State} {o : Order} {code : EndCode} {holds : Nat}
    (h : s.FreeOutcome o code holds) : o.kind.mechanismFree = true := by
  obtain ⟨hkind, -⟩ | ⟨hkind, -⟩ := h <;> rw [hkind] <;> rfl

theorem runFree_eq {s : State} {o : Order} {code : EndCode} {holds : Nat} (h : s.FreeOutcome o code holds) :
    runFree o s = ({ s with rcv := { s.rcv with holds := holds } }, code) := by
  obtain ⟨hkind, rfl, rfl⟩ | ⟨hkind, ⟨hvol, rfl, rfl⟩ | ⟨hvol, rfl, rfl⟩ | ⟨hempty, hleaving, hroom⟩⟩ := h <;>
    simp only [runFree, hkind]
  case inl => rfl
  case inr.inl => rw [rcvHold, hvol]
  case inr.inr.inl => rw [rcvHold, hvol]
  case inr.inr.inr =>
    rw [rcvHold_of_medium hempty hleaving]
    obtain ⟨hfull, rfl, rfl⟩ | ⟨hplace, rfl, rfl⟩ := hroom
    · exact if_pos hfull
    · exact if_neg (by omega)

section sole
variable {s : State} {tag : Byte} {payload : List Byte} {o : Order} {code : EndCode} {holds : Nat}

/-- R101: a chain of one such order starts in the event that accepts it. -/
theorem idleRule_acceptedFree (h : s.Takes tag payload o) (hk : o.kind.mechanismFree = true) :
    idleRule (s.inHand tag o .queued .free none) = some (.startFree 0) := by
  have hdrained : drained (s.inHand tag o .queued .free none) = false := by
    simp [drained, State.inHand, h.quiet.stage]
  have hfree : freeStarter (s.inHand tag o .queued .free none) = some 0 := by
    rw [freeStarter, if_pos ⟨h.quiet.stage, h.power⟩, chains_inHand h]
    simp [State.soleChain, Chain.order, hk, oldest]
  simp [idleRule, hdrained, hfree]

/-- The part once the order has had its outcome. -/
def State.freeDone (s : State) (tag : Byte) (o : Order) (holds : Nat) : State :=
  { s.inHand tag o .queued .free none with rcv := { s.rcv with holds := holds } }

/-- R114: the completion of the chain. -/
def freeCompletion (tag : Byte) (code : EndCode) : Completion :=
  { tag := tag.toNat, code := code, flags := Flags.empty, reached := 0, residual := 0, fault := none }

theorem chainAt_freeDone (h : s.Takes tag payload o) :
    (s.freeDone tag o holds).chainAt 0 = some (s.soleChain tag o .queued) := by
  have := chainAt_inHand (st := .queued) (mech := .free) (job := none) h 0
  rwa [if_pos rfl] at this

/-- R110 to R112, R114: the order runs, and its end is its chain's. -/
theorem chainReach_accepted (h : s.Takes tag payload o) (hout : s.FreeOutcome o code holds) :
    chainReach 16 0 (s.inHand tag o .queued .free none) =
      (s.freeDone tag o holds).chainGone 0 (freeCompletion tag code) := by
  have hc : (s.inHand tag o .queued .free none).chainAt 0 = some (s.soleChain tag o .queued) := by
    rw [chainAt_inHand h, if_pos rfl]
  have ho : (s.soleChain tag o .queued).order = some o := rfl
  have hoffer : offerProgress 0 (s.inHand tag o .queued .free none) = s.inHand tag o .queued .free none := by
    simp [offerProgress, hc, ho, h.notify]
  have hrun : runFree o (s.inHand tag o .queued .free none) = (s.freeDone tag o holds, code) :=
    runFree_eq (s := s.inHand tag o .queued .free none) hout
  have hend : chainEnd 0 code none (s.freeDone tag o holds) =
      (s.freeDone tag o holds).chainGone 0 (freeCompletion tag code) := by
    have hresidual : (s.soleChain tag o .queued).residual = 0 := by
      obtain ⟨hkind, -⟩ | ⟨hkind, -⟩ := hout <;> simp [Chain.residual, ho, Order.residual, hkind, OrderKind.transfer]
    rw [chainEnd_eq (chainAt_freeDone h) (by exact h.place), Chain.complete, hresidual]
    rfl
  simp only [chainReach, hc, ho, hout.mechanismFree, if_true, hoffer, hrun]
  rw [← hend]
  split
  next heq =>
    obtain ⟨rfl, rfl⟩ := Prod.mk.inj heq
    exact if_neg (by simp [State.soleChain])
  next hne heq =>
    obtain ⟨rfl, rfl⟩ := Prod.mk.inj heq
    rfl

theorem chains_freeGone (h : s.Takes tag payload o) (b : Completion) :
    ((s.freeDone tag o holds).chainGone 0 b).chains = [] :=
  chains_of_cleared (chains_inHand (st := .queued) (mech := .free) (job := none) h) rfl

/-- With the chain gone nothing is left on hand. -/
theorem rests_freeGone (h : s.Takes tag payload o) (b : Completion) :
    settleOnce ((s.freeDone tag o holds).chainGone 0 b) = none := by
  refine (settleOnce_none_iff _).2 ⟨settled_inbox (s := s) h.listening.settled, idleRule_of_nothing
    (chains_freeGone h b) rfl ?_ ?_ ?_ ?_ h.listening.none_waiting⟩
  · simp [State.chainGone, State.freeDone, State.inHand, h.quiet.pass0]
  · simp [State.chainGone, State.freeDone, State.inHand, h.quiet.pass1]
  · simp [State.chainGone, State.freeDone, State.inHand, h.quiet.stage]
  · simp [unloadDue, State.chainGone, State.freeDone, State.inHand, h.quiet.progress]

theorem exec_free (h : s.Takes tag payload o) (hout : s.FreeOutcome o code holds) :
    exec (.chain tag payload) s =
      .next ((s.freeDone tag o holds).chainGone 0 (freeCompletion tag code)).rest := by
  have hframe : exec (.chain tag payload) s = conclude (s.inHand tag o .queued .free none) :=
    (run_of_powered h.listening.powered _).trans
      (congrArg conclude (lnkReceive_chain h.listening h.quiet h.length h.count h.orders h.accepted))
  have hstart : Within 1 (s.inHand tag o .queued .free none)
      ((s.freeDone tag o holds).chainGone 0 (freeCompletion tag code)) := by
    rw [← chainReach_accepted h hout]
    exact Within.rule (s := s.inHand tag o .queued .free none) (settled_inbox (s := s) h.listening.settled)
      (idleRule_acceptedFree h hout.mechanismFree)
  rw [hframe, hstart.conclude (rests_freeGone h _)]

end sole

/-- Settles O41: the accepted chain starts, has its outcome and leaves the table, all in one event (`exec_free`). -/
theorem holdMediumRunsAtOnce : Obligations.HoldMediumRunsAtOnce := by
  intro s tag payload o code holds hlisten hquiet hlen hcount horders hnotify haccepted hpower hplace hout
  have h : s.Takes tag payload o :=
    ⟨hlisten, hquiet, hlen, hcount, horders, hnotify, haccepted, hpower, hplace⟩
  obtain ⟨hframe, -, hqueue⟩ := rest_frame (s := (s.freeDone tag o holds).chainGone 0 (freeCompletion tag code))
    (lit_of_settled hlisten.settled rfl rfl)
  have hche : ((s.freeDone tag o holds).chainGone 0 (freeCompletion tag code)).rest.che =
      ((s.freeDone tag o holds).chainGone 0 (freeCompletion tag code)).che := by rw [hframe]
  refine ⟨_, exec_free h hout, ?_, ?_, ?_, ?_, ?_, ?_⟩
  · rw [hframe]
    rfl
  · have hgone := chains_freeGone (holds := holds) h (freeCompletion tag code)
    simpa only [State.chains, State.chainAt, hche] using hgone
  · rw [hche]
    rfl
  · rw [hche]
    rfl
  · rw [hframe]
    rfl
  · rw [hqueue]
    simp [State.chainGone, Ntu.join, State.freeDone, State.inHand, freeCompletion]

end Sys2Proof.Machine
end

section
/-! PROOF. A link reset with no order at work (R120, R129, R182, R189, R190). -/

namespace Sys2Proof.Machine

/-! ## A part whose lamp is right -/

/-- A part at rest whose lamp is right ends its step with the lane alone. -/
theorem conclude_of_lit {u : State} (hrest : settleOnce u = none) (hlit : u.rcv.lamp = lampOf u) :
    conclude u = .next (beginFrame u) := by
  rw [conclude_of_rest hrest, setLamp_of_lit hlit]

theorem keepsChains_of_table {s u : State} (hu : u.che.table = s.che.table) : s.KeepsChains u := by
  have hat (n : Nat) : u.chainAt n = s.chainAt n := by rw [State.chainAt, hu]; rfl
  exact ⟨fun n d hd => .inl ⟨d, hat n ▸ hd, .refl d⟩, fun _ n d hd hworks => ⟨d, (hat n).trans hd, hworks⟩⟩

/-! ## A link reset (R190) -/

/-- R190: what a link reset leaves, with no order at work. -/
def State.linkDropped (s : State) : State :=
  { s with
    che := { s.che with table := [none, none, none, none, none, none], counter := 0 },
    bbf := { slots := List.replicate 8 .free, delivery := [], sendingSlot := false, wants := [], records := [] },
    ntu := { queue := [], set := [], enables := List.replicate 9 true },
    rcv := { s.rcv with holds := 0, heldEject := none },
    pwr := { s.pwr with standby := 300, sleep := 1800, dormant := 0, idle := 0 } }

theorem linkResetActs_eq {s : State} (h : s.che.job = none) : linkResetActs s = s.linkDropped := by
  have htable : cheLinkReset s = { s with che := { s.che with table := List.replicate 6 none, counter := 0 } } := by
    simp [cheLinkReset, jobLinkReset, State.updChe, h]
  rw [linkResetActs, htable]
  rfl

theorem chainAt_linkDropped (s : State) (n : Nat) : s.linkDropped.chainAt n = none := by
  rw [State.chainAt, List.getD_eq_getElem?_getD]
  cases hc : s.linkDropped.che.table[n]? with
  | none => rfl
  | some c =>
    have : c ∈ List.replicate 6 (none : Option Chain) := List.mem_of_getElem? hc
    rw [List.eq_of_mem_replicate this]
    rfl

/-- R120: an empty table wakes no rule, where no eject waits for the chains at work. -/
theorem keepsChains_of_empty {s u : State} (hempty : ∀ n, u.chainAt n = none) (hstage : s.rcv.stage ≠ .draining) :
    s.KeepsChains u :=
  ⟨fun n d hd => by simp [hempty n] at hd, fun h => absurd h hstage⟩

/-- Settles O59: by frame or by line, what a link reset leaves wakes no rule (`rests_of_chains`). -/
theorem linkResets : Obligations.LinkResets := by
  intro s tag
  refine ⟨fun h hjob hstage => ?frame, fun h hjob hstage hline => ?asserted, fun h hline => ?again,
    fun h hwaiting => ?released⟩
  case frame =>
    have hhanded : handFrame 6 tag [] (s.updLnk Lnk.clear) = ((s.updLnk Lnk.clear).linkDropped, .ok []) := by
      simp only [handFrame, linkResetActs_eq (s := s.updLnk Lnk.clear) hjob]
    refine (run_handed h 0x06#8 tag (frameRefusal_none rfl (Nat.zero_le _) rfl) hhanded).trans (conclude_of_rest ?_)
    exact rests_of_chains h.settled (keepsHands_of_waiting h.none_waiting)
      (keepsChains_of_empty (chainAt_linkDropped s) hstage) (.inl hjob)
  case asserted =>
    have hrun : exec .linkResetLineAsserted s = conclude (linkResetActs
        ((s.updPins fun p => { p with linkReset := true }).updLnk fun l => { l.clear with waiting := [] })) := by
      refine (runPins_of_powered h.powered _).trans ?_
      rw [hline]
      rfl
    rw [hrun, linkResetActs_eq (by exact hjob), conclude_of_lit, beginFrame_of_closed]
    · rfl
    · simp [laneOpen, State.linkDropped, State.updLnk, State.updPins]
    · exact rests_of_chains h.settled (keepsHands_of_waiting rfl)
        (keepsChains_of_empty (chainAt_linkDropped s) hstage) (.inl hjob)
    · exact lit_of_settled h.settled rfl rfl
  case again =>
    have hrun : exec .linkResetLineAsserted s = conclude (s.updPins fun p => { p with linkReset := true }) := by
      refine (runPins_of_powered h.powered _).trans ?_
      rw [if_pos hline]
      rfl
    have hsame : (s.updPins fun p => { p with linkReset := true }) = s := by
      simp [State.updPins, ← hline]
    rw [hrun, hsame, conclude_of_settled h.settled]
  case released =>
    refine (runPins_of_powered h.powered _).trans (conclude_of_lit ?_ (lit_of_settled h.settled rfl rfl))
    exact rests_of_chains h.settled (keepsHands_of_waiting hwaiting)
      (keepsChains_of_table rfl) (.inr rfl)

end Sys2Proof.Machine
end

section
/-! PROOF. The delivery of an outbound frame (R131, R132, R176, R177, R188). -/

namespace Sys2Proof.Machine

/-! ## What takes the place a notice frees (R177) -/

theorem lowestEntry_least {l : List Attention} {a : Attention} (h : lowestEntry l = some a) :
    ∀ b ∈ l, a.code ≤ b.code := by
  induction l generalizing a with
  | nil => simp
  | cons x l ih =>
    simp only [lowestEntry] at h
    intro b hb
    split at h
    next hnone =>
      have hl := lowestEntry_eq_none.1 hnone
      subst hl
      cases h
      rw [List.mem_singleton.1 hb]
    next c hc =>
      split_ifs at h with hlt <;> cases h <;> obtain rfl | hb := List.mem_cons.1 hb
      · exact hlt.le
      · exact ih hc b hb
      · exact le_rfl
      · exact (not_lt.1 hlt).trans (ih hc b hb)

theorem lowestEntry_of_least {l : List Attention} {a : Attention} (ha : a ∈ l)
    (hleast : ∀ b ∈ l, b = a ∨ a.code < b.code) : lowestEntry l = some a := by
  cases hl : lowestEntry l with
  | none => simp [lowestEntry_eq_none.1 hl] at ha
  | some b =>
    obtain rfl | hlt := hleast b (lowestEntry_mem hl)
    · rfl
    · exact absurd (lowestEntry_least hl a ha) (by omega)

/-- The chains whose completion waits for a place. -/
def State.endedChains (s : State) : List (Nat × Chain) := s.chains.filter fun p => decide (p.2.state = .ended)

/-- The chains that hold a pending progress. -/
def State.progressChains (s : State) : List (Nat × Chain) := s.chains.filter fun p => decide (p.2.progress ≠ none)

theorem chainAt_of_oldest {s : State} {q : Nat × Chain → Bool} {p : Nat × Chain}
    (h : oldest (s.chains.filter q) = some p) : s.chainAt p.1 = some p.2 :=
  mem_chains.1 (List.mem_filter.1 (oldest_mem h)).1

theorem placeArbiter_ended {s : State} {p : Nat × Chain} (hp : oldest s.endedChains = some p) :
    placeArbiter s = offerCompletion p.1 s := by
  unfold placeArbiter
  rw [show (s.chains.filter fun p => p.2.state == .ended) = s.endedChains from rfl, hp]

theorem placeArbiter_attention {s : State} (hended : s.endedChains = []) {a : Attention}
    (ha : lowestEntry s.ntu.set = some a) : placeArbiter s =
      { s with ntu := Ntu.join { s.ntu with set := s.ntu.set.filter fun x => x.code != a.code } (.attention a) } := by
  unfold placeArbiter
  rw [show (s.chains.filter fun p => p.2.state == .ended) = s.endedChains from rfl, hended, oldest, ha]
  rfl

theorem progressChains_eq (s : State) : (s.chains.filter fun p => p.2.progress.isSome) = s.progressChains :=
  List.filter_congr fun p _ => by cases p.2.progress <;> rfl

theorem placeArbiter_progress {s : State} (hended : s.endedChains = []) (hset : s.ntu.set = []) {p : Nat × Chain}
    {n : Nat} (hp : oldest s.progressChains = some p) (hn : p.2.progress = some n) : placeArbiter s =
      { s with
        che := { s.che with table := s.che.table.set p.1 (some { p.2 with progress := none }) },
        ntu := s.ntu.join (.progress p.2.tag n) } := by
  have hc : (s.updNtu fun m => m.join (.progress p.2.tag n)).chainAt p.1 = some p.2 := chainAt_of_oldest hp
  unfold placeArbiter
  rw [show (s.chains.filter fun p => p.2.state == .ended) = s.endedChains from rfl, hended, oldest, hset, lowestEntry,
    progressChains_eq, hp]
  simp only [hn, Option.getD_some]
  rw [updChain_eq hc]
  rfl

theorem placeArbiter_nothing {s : State} (hended : s.endedChains = []) (hset : s.ntu.set = [])
    (hnone : s.progressChains = []) : placeArbiter s = s := by
  unfold placeArbiter
  rw [show (s.chains.filter fun p => p.2.state == .ended) = s.endedChains from rfl, hended, oldest, hset, lowestEntry,
    progressChains_eq, hnone, oldest]

/-! ## A delivery taken (R188) -/

/-- The lane is free again. -/
def State.laneFreed (s : State) : State := { s with lnk := { s.lnk with out := none } }

theorem run_delivered {s : State} {f : OutFrame} (h : s.Ready) (hout : s.lnk.out = some f) (act : State → State) :
    run (delivered f.carries act) s = conclude (act s.laneFreed) := by
  rw [run_of_powered h.powered, delivered, hout]
  exact congrArg conclude (if_pos rfl)

/-- A delivery of another kind than the frame under way changes nothing (log 25). -/
theorem run_mismatched {s : State} {f : OutFrame} (h : s.Ready) (hout : s.lnk.out = some f) {o : Outbound}
    (ho : f.carries ≠ o) (act : State → State) : run (delivered o act) s = .next s := by
  rw [run_of_powered h.powered, delivered, hout]
  exact (congrArg conclude (if_neg ho)).trans (conclude_of_settled h.settled)

/-- A delivery after which nothing is woken ends with the lane alone. -/
theorem run_delivered_rests {s u : State} {f : OutFrame} (h : s.Ready) (hout : s.lnk.out = some f) {o : Outbound}
    (ho : f.carries = o) {act : State → State} (hact : act s.laneFreed = u) (hands : s.KeepsHands u)
    (hchains : s.KeepsChains u) (hslots : s.che.job = none ∨ u.bbf.slots = s.bbf.slots) (hrcv : u.rcv = s.rcv)
    (hspc : u.spc = s.spc) : run (delivered o act) s = .next (beginFrame u) := by
  subst ho
  rw [run_delivered h hout, hact]
  exact conclude_of_lit (rests_of_chains h.settled hands hchains hslots) (lit_of_settled h.settled hrcv hspc)

/-- R176: the head notice has been sent as it stands, and leaves. -/
def State.noticeGone (s : State) (rest : List Notice) : State :=
  { s.laneFreed with ntu := { s.ntu with queue := rest } }

theorem noticeAcknowledged_gone {s : State} {m : Notice} {rest : List Notice} (hq : s.ntu.queue = m :: rest)
    (hsending : m.sending = true) (hreplaced : m.replaced = false) :
    noticeAcknowledged s.laneFreed = placeArbiter (s.noticeGone rest) := by
  have hq' : s.laneFreed.ntu.queue = m :: rest := hq
  simp only [noticeAcknowledged, hq', hsending, if_true, hreplaced]
  rfl

theorem noticeAcknowledged_replaced {s : State} {m : Notice} {rest : List Notice} (hq : s.ntu.queue = m :: rest)
    (hsending : m.sending = true) (hreplaced : m.replaced = true) : noticeAcknowledged s.laneFreed =
      { s.laneFreed with ntu := { s.ntu with queue := { m with sending := false, replaced := false } :: rest } } := by
  have hq' : s.laneFreed.ntu.queue = m :: rest := hq
  simp only [noticeAcknowledged, hq', hsending, if_true, hreplaced]
  rfl

/-- Settles O50: each delivery by what it takes away, the notice's by what takes its place (`placeArbiter_ended` and
those after it). -/
theorem framesDelivered : Obligations.FramesDelivered := by
  intro s f h hout hwaiting
  refine ⟨fun ho => ?reply, fun ho hjob i rest hdelivery hsending => ?slot, fun ho w rest hwants hsending => ?want,
    fun ho m rest hq hsending => ⟨fun hreplaced => ?replaced, fun hreplaced => ?gone⟩, fun c hc => ?mismatched⟩
  case reply =>
    exact run_delivered_rests h hout ho rfl (keepsHands_of_waiting hwaiting)
      (keepsChains_of_table rfl) (.inr rfl) rfl rfl
  case slot =>
    refine run_delivered_rests h hout ho ?_ (keepsHands_of_waiting hwaiting)
      (keepsChains_of_table rfl) (.inl hjob) rfl rfl
    simp [slotDelivered, State.laneFreed, hdelivery, hsending, State.setBlockSlot, State.updBbf]
  case want =>
    refine run_delivered_rests h hout ho ?_ (keepsHands_of_waiting hwaiting)
      (keepsChains_of_table rfl) (.inr rfl) rfl rfl
    simp [wantDelivered, State.laneFreed, hwants, hsending, State.updBbf]
  case replaced =>
    exact run_delivered_rests h hout ho (noticeAcknowledged_replaced hq hsending hreplaced)
      (keepsHands_of_waiting hwaiting) (keepsChains_of_table rfl) (.inr rfl) rfl rfl
  case gone =>
    have hact := noticeAcknowledged_gone hq hsending hreplaced
    refine ⟨fun p b hp hb hplace _ => ?ended, fun hended a ha hleast => ?attention,
      fun hended hset p n hp hn => ?progress, fun hended hset hnone => ?nothing⟩
    case ended =>
      have hc := chainAt_of_oldest hp
      have hstate : p.2.state = .ended := by simpa using (List.mem_filter.1 (oldest_mem hp)).2
      have hoffer : offerCompletion p.1 (s.noticeGone rest) = { s.noticeGone rest with
          ntu := (s.noticeGone rest).ntu.join (.completion b),
          che := { s.che with table := s.che.table.set p.1 none } } := by
        have hbind : ((s.noticeGone rest).chainAt p.1).bind (·.completion) = some b := by
          rw [show (s.noticeGone rest).chainAt p.1 = some p.2 from hc, Option.bind_some, hb]
        obtain ⟨d, hd, -, e⟩ | ⟨hn, -⟩ := offerCompletion_cases p.1 (s.noticeGone rest)
        · rw [e, Option.some.inj (hd.symm.trans hbind)]
          rfl
        · exact absurd hn (by rw [hbind]; simpa [State.noticeGone] using hplace)
      exact run_delivered_rests h hout ho (hact.trans ((placeArbiter_ended (s := s.noticeGone rest) hp).trans hoffer))
        (keepsHands_of_waiting hwaiting)
        (keepsChains_of_cleared hc (by rw [hstate]; rfl) rfl) (.inr rfl) rfl rfl
    case attention =>
      have hfilter : (s.ntu.set.filter fun x => x.code != a.code) = s.ntu.set.filter fun b => b ≠ a := by
        refine List.filter_congr fun b hb => ?_
        obtain rfl | hlt := hleast b hb
        · simp
        · have hne : b ≠ a := by rintro rfl; omega
          simp [hne, hlt.ne']
      rw [← hfilter]
      exact run_delivered_rests h hout ho
        (hact.trans (placeArbiter_attention (s := s.noticeGone rest) hended (lowestEntry_of_least ha hleast)))
        (keepsHands_of_waiting hwaiting) (keepsChains_of_table rfl) (.inr rfl) rfl rfl
    case progress =>
      have hc := chainAt_of_oldest hp
      rw [← hset]
      exact run_delivered_rests h hout ho
        (hact.trans (placeArbiter_progress (s := s.noticeGone rest) hended hset hp hn))
        (keepsHands_of_waiting hwaiting)
        (keepsChains_of_alike (d := { p.2 with progress := none }) hc (.refl _) rfl) (.inr rfl) rfl rfl
    case nothing =>
      exact run_delivered_rests h hout ho
        (hact.trans (placeArbiter_nothing (s := s.noticeGone rest) hended hset hnone))
        (keepsHands_of_waiting hwaiting) (keepsChains_of_table rfl) (.inr rfl) rfl rfl
  case mismatched =>
    obtain ⟨rfl, ho⟩ | ⟨rfl, ho⟩ | ⟨rfl, ho⟩ | ⟨rfl, ho⟩ := hc
    · exact run_mismatched h hout ho replyLeaves
    · exact run_mismatched h hout ho slotDelivered
    · exact run_mismatched h hout ho wantDelivered
    · exact run_mismatched h hout ho noticeAcknowledged

end Sys2Proof.Machine
end

section
/-! PROOF. A want's timer expires (R110 to R112, R135, R136). -/

namespace Sys2Proof.Machine

/-! ## An order that fails (R109) -/

/-- The order at work is of the only chain, no cancel is taken for it, nobody else waits for the mechanism, and a notice
has a place; the order need not be the last, since one that fails ends its chain. -/
structure State.AtFailure (s : State) (i : Nat) (c : Chain) (j : Job) : Prop where
  job : s.che.job = some j
  chain : j.chain = some i
  only : s.chains = [(i, c)]
  order : c.order = some j.order
  cancel : c.cancel = false
  no_pass : s.pass = none
  pass0 : s.vol0.pass ≠ .pending
  pass1 : s.vol1.pass ≠ .pending
  stage : s.rcv.stage = .none
  progress : s.pwr.progress = .none
  none_waiting : s.lnk.waiting = []
  place : s.ntu.queue.length < 8

/-- R110, R111: the completion of the chain whose order failed. -/
def Job.fails (j : Job) (c : Chain) (code : EndCode) : Completion :=
  { tag := c.tag, code := code, flags := c.flags.join j.flags, reached := c.index, residual := c.residual,
    fault := endLocation j c code }

section failure
variable {s : State} {i : Nat} {c : Chain} {j : Job} {code : EndCode}

/-- R109 to R112: the failed order's chain is over. -/
theorem orderEnded_failed (h : s.AtFailure i c j) (hcode : code ≠ .clean) :
    orderEnded code s = s.over i (j.fails c code) := by
  have hc := chainAt_of_only h.only
  have hclosed : chainEnd i code (endLocation j c code) (orderRelease
      (s.updChain i fun c => { c with flags := c.flags.join j.flags, state := .active })) =
        s.over i (j.fails c code) := by
    rw [updChain_eq hc, orderRelease_eq (by exact h.no_pass), chainEnd_eq
      (c := { c with flags := c.flags.join j.flags, state := .active }) ?_ (by exact h.place)]
    · simp [State.over, Job.fails, Chain.complete, Chain.residual, Chain.order]
      exact fun _ _ => rfl
    · exact (chainAt_set (s := s) rfl (chainAt_lt hc) i).trans (if_pos rfl)
  have hnow : (s.updChain i fun c => { c with flags := c.flags.join j.flags, state := .active }).chainAt i =
      some { c with flags := c.flags.join j.flags, state := .active } := by
    rw [chainAt_updChain, hc, Option.map_some]
  simp only [orderEnded, h.job, h.chain, hnow, h.cancel, orderChainEnd, hcode, false_and, Bool.false_eq_true, ne_eq,
    not_false_eq_true, ↓reduceIte]
  rw [← hclosed]
  rfl

theorem State.AtFailure.over_rests (h : s.AtFailure i c j) (hi : s.inbox = []) (b : Completion) :
    settleOnce (s.over i b) = none :=
  (settleOnce_none_iff _).2 ⟨hi, idleRule_of_nothing (chains_of_cleared h.only rfl) rfl h.pass0 h.pass1
    (by simp [State.over, h.stage]) (unloadDue_of_progress (by simp [State.over, h.progress])) h.none_waiting⟩

/-- The order at work has been told that it ends. -/
def State.ending (s : State) (j : Job) : State :=
  { s with che := { s.che with job := some { j with phase := .ending } } }

theorem State.AtFailure.ending (h : s.AtFailure i c j) : (s.ending j).AtFailure i c { j with phase := .ending } :=
  ⟨rfl, h.chain, h.only, h.order, h.cancel, h.no_pass, h.pass0, h.pass1, h.stage, h.progress, h.none_waiting, h.place⟩

/-- An order that is told to fail ends, and its chain with it, in the same event. -/
theorem conclude_failed (h : s.AtFailure i c j) (hi : s.inbox = []) (hphase : j.phase ≠ .ending)
    (hcode : code ≠ .clean) : conclude (jobEnd code s) = .next (s.over i (j.fails c code)).rest := by
  have htold : jobEnd code s = { s.ending j with inbox := [.orderEnd code] } := by
    simp [jobEnd, h.job, hphase, State.updJob, State.updChe, State.send, hi, State.ending]
  have hended : Within 1 (jobEnd code s) (s.over i (j.fails c code)) := by
    rw [htold]
    refine .step rfl ?_
    rw [show ({ s.ending j with inbox := [] } : State) = s.ending j by rw [← hi]; rfl]
    exact orderEnded_failed h.ending hcode
  exact hended.conclude (h.over_rests hi _)

end failure

/-! ## The want's timer (R135, R136) -/

/-- R135: the record of the want whose timer expired, kept with its timer stopped. -/
def State.wantStopped (s : State) (tag first : Nat) : State :=
  { s with bbf := { s.bbf with records := s.bbf.records.map fun w =>
      (if w.tag == tag && w.first == first then { w with timer := none } else w) } }

theorem wantExpired_under {s : State} {j : Job} {i first : Nat} (hj : s.che.job = some j) (hi : j.chain = some i)
    (hw : s.bbf.records.any (fun w => w.tag == j.tag && w.first == first && w.timer.isSome) = true)
    (hphase : j.phase = .under) : wantExpired j.tag first s =
      { s.wantStopped j.tag first with che := { s.che with job := some { j with due := some .dataTimeout } } } := by
  simp [wantExpired, hw, hj, hi, hphase, State.updBbf, State.updJob, State.updChe, State.wantStopped]

theorem wantExpired_waiting {s : State} {j : Job} {i first : Nat} (hj : s.che.job = some j) (hi : j.chain = some i)
    (hw : s.bbf.records.any (fun w => w.tag == j.tag && w.first == first && w.timer.isSome) = true)
    (hphase : j.phase = .dataWait) :
    wantExpired j.tag first s = jobEnd .dataTimeout (s.wantStopped j.tag first) := by
  simp [wantExpired, hw, hj, hi, hphase, State.updBbf, State.wantStopped]

/-- The mark on the order under a block wakes no rule. -/
theorem rests_marked {s : State} (hs : s.settled = true) {j : Job} {tag first : Nat} (hj : s.che.job = some j)
    (hphase : j.phase = .under) (code : EndCode) : settleOnce
      { s.wantStopped tag first with che := { s.che with job := some { j with due := some code } } } = none := by
  obtain ⟨-, -, -, -, -, hwrite, -, -⟩ := (idleRule_none_iff s).1 (settled_idle hs)
  have halong : s.Along { s.wantStopped tag first with
      che := { s.che with job := some { j with due := some code } } } :=
    ⟨settled_inbox (s := s) hs, rfl, rfl, rfl, rfl, rfl, rfl, rfl, rfl, rfl, rfl, rfl⟩
  refine halong.rests hs (fun _ => .inl rfl) rfl (by simp [hphase]) ?_ ?_
  · simp [readWaits, hphase]
  · rw [writeNeeds, hj] at hwrite
    exact hwrite

/-- Settles O49: under a block the order is only marked (`rests_marked`); in DATA-WAIT it fails at once
(`conclude_failed`). -/
theorem wantTimeout : Obligations.WantTimeout := by
  intro s j i first c h hj hchain honly htag horder hw
  have hrun : exec (.wantTimerExpiry j.tag first) s = conclude (wantExpired j.tag first s) :=
    run_of_powered h.powered _
  refine ⟨fun hphase => ?under, fun hphase _ hcancel hpass hp0 hp1 hstage hprogress hwaiting hplace => ?waiting⟩
  case under =>
    rw [hrun, wantExpired_under hj hchain hw hphase, conclude_of_lit (rests_marked h.settled hj hphase _)
      (lit_of_settled h.settled rfl rfl), beginFrame_of_closed (by exact settled_lane (s := s) h.settled)]
    rfl
  case waiting =>
    have hfail : (s.wantStopped j.tag first).AtFailure i c j :=
      ⟨hj, hchain, honly, horder, hcancel, hpass, hp0, hp1, hstage, hprogress, hwaiting, hplace⟩
    have hnowhere : endLocation j c .dataTimeout = none := by simp [endLocation, EndCode.hasLocation]
    have hend := conclude_failed (code := .dataTimeout) hfail (settled_inbox (s := s) h.settled) (by simp [hphase])
      (by simp)
    obtain ⟨hframe, -, hqueue⟩ := rest_frame (s := (s.wantStopped j.tag first).over i (j.fails c .dataTimeout))
      (lit_of_settled h.settled rfl rfl)
    have hgone : ((s.wantStopped j.tag first).over i (j.fails c .dataTimeout)).rest.chains = [] :=
      chains_of_cleared honly (by rw [hframe]; rfl)
    refine ⟨_, (hrun.trans (by rw [wantExpired_waiting hj hchain hw hphase])).trans hend, ?_, hgone, ?_, ?_, ?_, ?_, ?_⟩
    · rw [hframe]
      rfl
    · rw [hframe]
      rfl
    · rw [hframe]
      rfl
    · rw [hframe, ← htag]
      rfl
    · intro w hin
      rw [hframe] at hin
      rw [← htag]
      simpa [Job.fails] using List.of_mem_filter hin
    · rw [hqueue]
      simp [State.over, Ntu.join, Job.fails, hnowhere, State.wantStopped]

end Sys2Proof.Machine
end
